-- ==== Sys2Proof/Word.lean ====
section
/-! DEFINITION. The byte of the body link and of the field line, and the two-byte number of payloads (R168, R111, R185). -/
namespace Sys2Proof

/-- One byte of the body link (R168) or the data bits of one field-line character (R111). -/
abbrev Byte := BitVec 8

/-- A two-byte number of a payload, or a CRC (R185, R168). -/
abbrev Word := BitVec 16

end Sys2Proof
end

