-- ==== Sys2Proof/Syntax.lean ====
section
/-! DEFINITION. The commands: one constructor per row of spec/opcode_table.json. The fields of a request are the
payload bytes of chapter 11.3, so every value a host can send can be written; tag is the frame's TAG. -/
namespace Sys2Proof

/-- The KEY line's two positions (R175). -/
inductive KeyPos
  | lock
  | opened
  deriving DecidableEq, Repr

/-- What holds and then resets the part from outside: power-up or the RST_N line (R165). -/
inductive HardCause
  | power
  | pin
  deriving DecidableEq, Repr

/-- The payload of ZONE_DEF but for its active flag, in the order of chapter 11.3. -/
structure ZoneDefArgs where
  zone : Byte
  rank : Byte
  wmax : Byte
  deadband : Byte
  loopPeriod : Byte
  sensor : Byte
  blower : Byte
  valve : Byte
  damper : Byte
  planSetpoint : Word
  baseMode : Byte
  deriving DecidableEq, Repr

/-- The payload of PLANT_DEF, in the order of chapter 11.3. -/
structure PlantDefArgs where
  compressor : Byte
  u1 : Byte
  u2 : Byte
  u3 : Byte
  u4 : Byte
  idleMax : Byte
  cruiseMax : Byte
  pullMax : Byte
  minRun : Word
  minOff : Word
  stageDownHold : Byte
  auxHeater : Byte
  auxUnits : Byte
  coolantUnits : Byte
  intake : Byte
  deriving DecidableEq, Repr

/-- The payload of TUNE_DEF, in the order of chapter 11.3. -/
structure TuneDefArgs where
  ventLevel : Byte
  minBlower : Byte
  panelBand : Byte
  holdTime : Byte
  curtainLimit : Word
  purgeOn : Word
  purgeOff : Word
  saturationTime : Word
  stopDelay : Word
  minFreshAir : Byte
  pollInterval : Word
  travelBlower : Word
  travelDamper : Word
  travelValve : Word
  travelCompressor : Word
  travelAuxheat : Word
  deriving DecidableEq, Repr

/-- The commands the block takes, in the order of spec/opcode_table.json. -/
inductive Instr
  -- the body link (chapter 9)
  | frameReceived (bytes : List Byte)
  | frameGapTimeout
  | replySent
  -- configuration requests (chapter 8.2)
  | zoneDef (tag : Byte) (a : ZoneDefArgs)
  | zoneDefInactive (tag : Byte) (a : ZoneDefArgs)
  | nodeDef (tag address configured kind : Byte)
  | doorDef (tag door : Byte) (zones : BitVec 24)
  | plantDef (tag : Byte) (a : PlantDefArgs)
  | tuneDef (tag : Byte) (a : TuneDefArgs)
  -- part-state requests (chapter 8)
  | commission (tag : Byte)
  | shutdown (tag : Byte)
  | restart (tag : Byte)
  -- setpoints and the range sequence (chapters 1 and 9)
  | plan (tag zone source baseMode : Byte) (setpoint : Word)
  | setpoint (tag zone source : Byte) (setpoint : Word)
  | rangeOpen (tag first : Byte)
  | rangeClose (tag last : Byte)
  | rangeApplyPlanMode (tag source : Byte) (mode : Word)
  | rangeApplyPlanSetpoint (tag source : Byte) (setpoint : Word)
  | rangeApplyProtect (tag source : Byte) (level : Word) (key : KeyPos)
  | rangeApplyUnprotect (tag source : Byte) (argument : Word) (key : KeyPos)
  -- doors, engine, overrides, heater, retry, lock
  | doorOpen (tag door : Byte)
  | doorClose (tag door : Byte)
  | engine (tag band level : Byte)
  | defog (tag zone source duration : Byte)
  | purgeStart (tag zone source : Byte)
  | purgeEnd (tag zone source : Byte)
  | auxGrant (tag : Byte)
  | auxWithdraw (tag : Byte)
  | auxClear (tag : Byte)
  | nodeRetryCheck (tag address : Byte)
  | nodeRetryReset (tag address : Byte)
  | protectLock (tag : Byte) (key : KeyPos)
  -- queries and the condition block
  | stateQuery (tag : Byte)
  | zoneQuery (tag zone : Byte)
  | poolQuery (tag pool list first : Byte)
  | nodeQuery (tag address : Byte)
  | plantQuery (tag : Byte)
  | condQuery (tag : Byte)
  | condClear (tag : Byte) (set : Word)
  | condMask (tag : Byte) (set : Word) (enable : Byte)
  -- the hardware lines
  | hardResetHold
  | hardReset (cause : HardCause)
  | shedNAsserted
  | shedNReleased
  -- zone timers and the claim-age watch; zone is a zone number, 1 to 24
  | loopTimerExpiry (zone : Nat)
  | holdTimerExpiry (zone : Nat)
  | defogTimerExpiry (zone : Nat)
  | curtainTimerExpiry (zone : Nat)
  | claimSaturation (zone : Nat)
  -- plant timers
  | minimumRunExpiry
  | stageDownHoldExpiry
  | lockoutExpiry
  | compressorPollExpiry
  | igniteWaitExpiry
  | stopDelayExpiry
  | flamePollExpiry
  -- node timers; node is a node address, 1 to 31
  | wakeTimerExpiry (node : Nat)
  | nodePollTimerExpiry (node : Nat)
  | travelTimerExpiry (node : Nat)
  | revivalTimerExpiry (node : Nat)
  | pollTickExpiry
  -- the field line (chapter 6)
  | leadEnd
  | frameSent
  | trailEnd
  | replyWindowExpiry
  | replyCharacterReceived (data : Byte) (mark parity stop : Bool)
  | replyGapTimeout
  | closingQuietEnd
  | drainEnd
  | broadcastWaitEnd
  | gapEnd
  | cutCharacterEnd
  deriving DecidableEq, Repr

end Sys2Proof
end

