-- ==== Sys2Proof/Decode.lean ====
section
/-! DEFINITION. The command a word spells by the table's bits. No row of spec/opcode_table.json gives bits (every
row's fields are empty and no row has a fixed part), so no word spells a command. -/
namespace Sys2Proof

/-- The command that the table's bits give for a word: none, since no row gives bits. -/
def decodeTableWord (_nbits _w : Nat) : Option Instr := none

end Sys2Proof
end

