-- ==== Sys2Proof/Config.lean ====
section
/-! DEFINITION. What is fixed for every part: the clock's grain and the durations and limits the rules give as
numbers. Times are counted in ticks of one eighth of a millisecond (DESIGN CHOICE, log 1): one character time of the
field line is 0.625 ms (R111), so every duration of the spec is a whole number of ticks. The spec leaves no value
free, so there is no free value here. -/
namespace Sys2Proof.Config

/-- Ticks in a millisecond. -/
def ms : Nat := 8
/-- Ticks in a second. -/
def second : Nat := 8000
/-- Ticks in a minute. -/
def minute : Nat := 480000

/-- R111: one character time, 0.625 ms. -/
def charTime : Nat := 5
/-- R116: the reply window, 10 ms. -/
def replyWindow : Nat := 80
/-- R116, R117, R119, R122: two character times, the longest pause in a reply, the closing quiet, the drain quiet
and the idle gap. -/
def twoChars : Nat := 10
/-- R117: the longest a reply may hold the line, 20 ms from its first start bit. -/
def drainLimit : Nat := 160
/-- R121: the broadcast wait, 2 ms. -/
def broadcastWait : Nat := 16

/-- R168: the longest pause between two bytes of a frame, 5 ms. -/
def frameGap : Nat := 40

/-- R24: zone n's loop timer first expires n × 250 ms after entry to RUN. -/
def loopStagger : Nat := 2000
/-- R35: the loop timer after a door-close recovery, 2 s. -/
def recoveryLoop : Nat := 16000
/-- R87, R100: the period of the sequencer's and the heater's poll timers, 5 s. -/
def plantPoll : Nat := 40000
/-- R99: the ignite-wait time, 60 s. -/
def igniteWait : Nat := 480000
/-- R148: the wake timer's period, 100 ms. -/
def wakePeriod : Nat := 800
/-- R145: the revival timer's period, 10 s. -/
def revivalPeriod : Nat := 80000

/-- R133: entries the transaction queue holds. -/
def queueMax : Nat := 16
/-- R144: failed transactions in a row that put a node in OFFLINE. -/
def failLimit : Nat := 3
/-- R148: failed or IN_START answers that put a starting node in OFFLINE. -/
def wakeLimit : Nat := 30
/-- R48: the last number of the 32-bit arrival and grant counter. -/
def counterMax : Nat := 4294967295

end Sys2Proof.Config
end

