-- ==== Sys2Proof/Machine/State.lean ====
section
/-! DEFINITION. The state of the SZ-24 as plain data, one structure per block of chapter 00, and the state right
after a hard reset. Values the spec computes from other state (allowed stages, effective mode, pending set, DE,
ATTN_N, ...) are functions in the other files and are not stored twice (log 38). -/
namespace Sys2Proof.Machine

/-- A zone; zone number n of the spec is the value n − 1 (R1). -/
abbrev Zone := Fin 24
/-- A field node; address a of the spec is the value a − 1 (R124). -/
abbrev NodeId := Fin 31
/-- A door; door number d of the spec is the value d − 1 (R31). -/
abbrev Door := Fin 4
/-- A time, in ticks of 1/8 ms (log 1). -/
abbrev Time := Nat
/-- A timer: the time of its expiry, or stopped. -/
abbrev Timer := Option Time

/-! ## Names -/

/-- R153. -/
inductive PartState
  | config | commissioning | run | stopping | stopped
  deriving DecidableEq, Repr

/-- R153: which reset last acted. -/
inductive ResetCause
  | power | pin | restart
  deriving DecidableEq, Repr

/-- R1: the base modes. -/
inductive BaseMode
  | off | auto | heatOnly | coolOnly | vent
  deriving DecidableEq, Repr

/-- R29: the effective modes. -/
inductive EffMode
  | off | auto | heatOnly | coolOnly | vent | curtain | purge | defog
  deriving DecidableEq, Repr

/-- R26: the kinds of mode entry. -/
inductive EntryKind
  | base | curtain | purge | defog
  deriving DecidableEq, Repr

/-- R26: who started a PURGE entry. -/
inductive PurgeCause
  | host | auto
  deriving DecidableEq, Repr

/-- R2. -/
inductive SensorStatus
  | ok | missed | lost
  deriving DecidableEq, Repr

/-- R2. -/
inductive Direction
  | none | heat | cool
  deriving DecidableEq, Repr

/-- R46. -/
inductive PoolId
  | heat | cool
  deriving DecidableEq, Repr

/-- R72. -/
inductive EngineBand
  | stopped | idle | cruise | pull
  deriving DecidableEq, Repr

/-- R76: the sequencer's states; the argument is k. -/
inductive Seq
  | off
  | engaging
  | running (k : Nat)
  | stepUp (k : Nat)
  | stepDown (k : Nat)
  | disengaging
  | lockout
  | fault
  deriving DecidableEq, Repr

/-- R94. -/
inductive HeaterState
  | off | igniting | running | stopping | igniteWait | lockedOut
  deriving DecidableEq, Repr

/-- R124. -/
inductive NodeKind
  | sensor | blower | damper | valve | compressor | auxheat
  deriving DecidableEq, Repr

/-- R124: the roles of a zone binding. -/
inductive ZoneRole
  | sensor | blower | valve | damper
  deriving DecidableEq, Repr

/-- R124: the roles of a plant binding. -/
inductive PlantRole
  | compressor | auxHeater | intake
  deriving DecidableEq, Repr

/-- R124, R127. -/
inductive Binding
  | zone (z : Zone) (role : ZoneRole)
  | plant (role : PlantRole)
  deriving DecidableEq, Repr

/-- R128. -/
inductive NodeState
  | unknown | starting | ready | busy | offline | fault
  deriving DecidableEq, Repr

/-- R124. -/
inductive StartCause
  | commission | restart | revival | retry
  deriving DecidableEq, Repr

/-- R148: the two steps of a start-up. -/
inductive StartStep
  | wake | ident
  deriving DecidableEq, Repr

/-- R124. -/
inductive FaultReason
  | kindMismatch | nodeReported | illegalReply | travelTimeout | unexpectedValue | refusedMove
  deriving DecidableEq, Repr

/-- R147. -/
inductive RetryAction
  | check | reset
  deriving DecidableEq, Repr

/-- R147: the step of a retry under way; the IDENT step remembers whether the STATUS reported BUSY. -/
inductive RetryStep
  | status
  | ident (busy : Bool)
  | reset
  deriving DecidableEq, Repr

/-- R129. -/
inductive Command
  | wake | ident | status | read | move | halt | nodeReset
  deriving DecidableEq, Repr

/-- R133. -/
inductive Origin
  | zone (z : Zone)
  | plant | poll | wake | restore | commission | shutdown | retry
  deriving DecidableEq, Repr

/-- R110. -/
inductive LinePhase
  | idle | lead | sending | trail | awaitReply | receiving | closing | drain | broadcastWait | gap
  deriving DecidableEq, Repr

/-- R118. -/
inductive FailKind
  | noReply | badReply | checkError
  deriving DecidableEq, Repr

/-- R158. -/
inductive ItemKind
  | zone | node | plant | door
  deriving DecidableEq, Repr

/-- R158. -/
inductive CheckCode
  | sensorKind | blowerKind | valveKind | damperKind | compressorKind | stageUnits | auxKind | auxUnits
  | intakeKind | coolantUnits | doubleBinding | doorZone
  deriving DecidableEq, Repr

/-- R174. -/
inductive ProtectLevel
  | panelOnly | panelAndDriver
  deriving DecidableEq, Repr

/-! ## The zone controller (chapters 1 and 2) -/

/-- R26: one entry of a mode stack. The BASE entry carries the zone's base mode, which the record holds once. -/
structure ModeEntry where
  kind : EntryKind
  cause : Option PurgeCause
  start : Time
  deriving DecidableEq, Repr

/-- R2: the sticky flags of a zone. -/
structure ZoneFlags where
  saturated : Bool
  sensorLost : Bool
  actuatorFault : Bool
  curtainExpired : Bool
  deriving DecidableEq, Repr

/-- R1, R2: one zone record. stack holds the mode entries from TOP to bottom. -/
structure ZoneRec where
  active : Bool
  rank : Nat
  wmax : Nat
  deadband : Nat
  loopPeriod : Nat
  sensor : Option NodeId
  blower : Option NodeId
  valve : Option NodeId
  damper : Option NodeId
  planSetpoint : Int
  baseMode : BaseMode
  tempSetpoint : Option Int
  stack : List ModeEntry
  openDoors : BitVec 4
  curtainSpent : Bool
  temperature : Option Int
  co2 : Option Nat
  sensorStatus : SensorStatus
  missed : Nat
  direction : Direction
  want : Nat
  claimRank : Nat
  flags : ZoneFlags
  loopTimer : Timer
  holdTimer : Timer
  defogTimer : Timer
  curtainTimer : Timer
  deriving DecidableEq, Repr

/-- R3. -/
structure ZoneTuning where
  ventLevel : Nat
  minBlower : Nat
  panelBand : Nat
  holdTime : Nat
  curtainLimit : Nat
  purgeOn : Nat
  purgeOff : Nat
  deriving DecidableEq, Repr

/-- The zone controller's state. Bit n − 1 of a door's set stands for zone n (R185). -/
structure ZoneBlock where
  table : Vector ZoneRec 24
  tuning : ZoneTuning
  doorMap : Vector (BitVec 24) 4
  deriving DecidableEq, Repr

/-! ## The capacity arbiter (chapter 3) -/

/-- R49. -/
structure Grant where
  zone : Zone
  units : Nat
  number : Nat
  deriving DecidableEq, Repr

/-- R50; the claim's pool is the pool whose queue holds it. -/
structure Claim where
  zone : Zone
  units : Nat
  rank : Nat
  arrival : Nat
  passed : Nat
  filed : Time
  saturated : Bool
  deriving DecidableEq, Repr

/-- R46: capacity, grant list, claim queue in queue order. -/
structure Pool where
  capacity : Nat
  grants : List Grant
  claims : List Claim
  deriving DecidableEq, Repr

/-- R46, R48, R66. -/
structure Arbiter where
  heat : Pool
  cool : Pool
  counter : Nat
  saturationTime : Nat
  deriving DecidableEq, Repr

/-! ## The plant controller (chapters 4 and 5) -/

/-- R75, R91: the plant definition. -/
structure PlantDef where
  compressor : Option NodeId
  u1 : Nat
  u2 : Nat
  u3 : Nat
  u4 : Nat
  idleMax : Nat
  cruiseMax : Nat
  pullMax : Nat
  minRun : Nat
  minOff : Nat
  stageDownHold : Nat
  auxHeater : Option NodeId
  auxUnits : Nat
  coolantUnits : Nat
  intake : Option NodeId
  deriving DecidableEq, Repr

/-- R69, R90, R94: what the plant controller last heard of a pool. -/
structure PoolView where
  nonEmpty : Bool
  granted : Nat
  deriving DecidableEq, Repr

/-- R76, R83, R84, R85, R87, R90: the compressor sequencer. checkAsked: a steady-state STATUS has been asked since the
present RUNNING(k) was entered (R87, log 35); watch: log 23. -/
structure Sequencer where
  state : Seq
  minRunTimer : Timer
  minRunExpired : Bool
  holdTimer : Timer
  holdMet : Bool
  lockoutTimer : Timer
  pollTimer : Timer
  checkAsked : Bool
  watch : Bool
  deriving DecidableEq, Repr

/-- R94: the heater record; checkAsked: a STATUS has been asked since the present RUNNING was entered (R100, log 35). -/
structure Heater where
  state : HeaterState
  failures : Nat
  permit : Bool
  stopMark : Bool
  igniteWaitTimer : Timer
  stopDelayTimer : Timer
  flamePollTimer : Timer
  checkAsked : Bool
  deriving DecidableEq, Repr

/-- The plant controller's state (R72, R73, R75, R76, R91, R92, R94, R107). -/
structure Plant where
  band : EngineBand
  coolant : Nat
  shedView : Bool
  defn : PlantDef
  stopDelay : Nat
  minFreshAir : Nat
  seq : Sequencer
  heater : Heater
  viewHeat : PoolView
  viewCool : PoolView
  purgeCount : Nat
  intakeTarget : Option Nat
  deriving DecidableEq, Repr

/-! ## The node manager (chapter 7) -/

/-- R124: a node's last reported value: a number, or for a SENSOR a temperature and a CO2. -/
inductive Value
  | num (n : Nat)
  | reading (temperature : Int) (co2 : Nat)
  deriving DecidableEq, Repr

/-- R141: the pending move, an argument with its origin. -/
structure PendingMove where
  argument : Nat
  origin : Origin
  deriving DecidableEq, Repr

/-- R124: one node record, with what R138, R147, R148 and R151 imply beside it (haltOwed, retryStep, startStep,
busyFromFault). -/
structure NodeRec where
  configured : Bool
  kind : Option NodeKind
  binding : Option Binding
  state : NodeState
  failCount : Nat
  wakeCount : Nat
  cause : Option StartCause
  startStep : StartStep
  target : Option Nat
  pending : Option PendingMove
  value : Option Value
  nodeTarget : Option Nat
  version : Option Byte
  busySince : Option Time
  busyFromFault : Bool
  faultReason : Option FaultReason
  retryOwed : Option RetryAction
  retryStep : Option RetryStep
  haltOwed : Bool
  wakeTimer : Timer
  pollTimer : Timer
  travelTimer : Timer
  revivalTimer : Timer
  deriving DecidableEq, Repr

/-- R133: one entry of the transaction queue; node none is the broadcast address. -/
structure Entry where
  node : Option NodeId
  cmd : Command
  argument : Nat
  urgent : Bool
  origin : Origin
  absorbed : List Origin
  deriving DecidableEq, Repr

/-- R125. Times in milliseconds (poll interval) and seconds (travel limits). -/
structure FieldTuning where
  pollInterval : Nat
  travelBlower : Nat
  travelDamper : Nat
  travelValve : Nat
  travelCompressor : Nat
  travelAuxheat : Nat
  deriving DecidableEq, Repr

/-- The node manager's state. -/
structure NodeManager where
  table : Vector NodeRec 31
  queue : List Entry
  tuning : FieldTuning
  pollTick : Timer
  deriving DecidableEq, Repr

/-! ## The field line controller (chapter 6) -/

/-- R110: the transaction in flight. origins are those who are told its outcome: the entry's origin and those it
has absorbed, less those that an entry to STOPPING cut off (R136, R150). -/
structure Txn where
  node : Option NodeId
  cmd : Command
  argument : Nat
  urgent : Bool
  origin : Origin
  origins : List Origin
  attempt : Nat
  firstFail : Option FailKind
  deriving DecidableEq, Repr

/-- R110, R116, R117, R122. timer is the end of the present phase; in DRAIN it is the end of the quiet, and the limit
of R117 counts from replyStart. From the report of a transaction to the clearing of its record it is stopped (R118). -/
structure Line where
  phase : LinePhase
  txn : Option Txn
  timer : Timer
  replyStart : Option Time
  chars : List Byte
  cut : Bool
  deriving DecidableEq, Repr

/-! ## The operating-state controller (chapter 8) -/

/-- R158: the first failing check of a refused COMMISSION. -/
structure BadConfig where
  item : ItemKind
  number : Nat
  check : CheckCode
  deriving DecidableEq, Repr

/-- R159, R160: how far a node's commissioning has come: no work; waiting for its busy period to end; starting up;
its initial MOVE asked, owed after a refusal, or answered. -/
inductive CommWork
  | idle | waitBusy | startUp | moveAsked | moveOwed | moveDone
  deriving DecidableEq, Repr

/-- R166: where the soft reset stands. -/
inductive SoftReset
  | none | reply | cut | broadcast
  deriving DecidableEq, Repr

/-- R153, R159, R160, R166. -/
structure OpControl where
  state : PartState
  entered : Time
  configChanged : Bool
  cause : ResetCause
  lastRefusal : Option BadConfig
  done : Vector Bool 31
  haltSent : Bool
  work : Vector CommWork 31
  soft : SoftReset
  deriving DecidableEq, Repr

/-! ## The condition block (chapter 10) -/

/-- R179: the record of a sticky condition; the item is a zone number or a node address. -/
structure Sticky where
  pending : Bool
  count : Nat
  last : Option Nat
  deriving DecidableEq, Repr

/-- R179, R182: the nine sticky and three level records, the mask (bit p − 1 for priority p) and the enable. -/
structure CondBlock where
  compFault : Sticky
  nodeOffline : Sticky
  nodeFault : Sticky
  auxLockout : Bool
  sensorLost : Sticky
  shedActive : Bool
  zoneSaturated : Sticky
  curtainExpired : Sticky
  purgeAuto : Sticky
  linkOverrun : Sticky
  commissionDone : Sticky
  stopped : Bool
  mask : BitVec 12
  enable : Bool
  deriving DecidableEq, Repr

/-! ## The body link port (chapter 9) -/

/-- R168: the receiver's phase, with the bytes collected after START. -/
inductive RxPhase
  | hunt
  | inFrame (got : List Byte)
  deriving DecidableEq, Repr

/-- R168, R169: a frame as the receiver offers it: ended by a bad LEN, or whole with its CRC as received. -/
inductive RxFrame
  | badLen
  | whole (kind tag : Byte) (payload : List Byte) (crc : Word)
  deriving DecidableEq, Repr

/-- R171: a reply, less its START, LEN and CRC, which follow from it. -/
structure Reply where
  kind : Byte
  tag : Byte
  status : Byte
  payload : List Byte
  deriving DecidableEq, Repr

/-- R176; the arguments are zone numbers. -/
inductive RangeTag
  | none
  | opened (first : Nat)
  | closed (first last : Nat)
  deriving DecidableEq, Repr

/-- R174; range holds the first and last zone number. -/
structure Protection where
  range : Option (Nat × Nat)
  level : ProtectLevel
  locked : Bool
  deriving DecidableEq, Repr

/-- R168, R170, R174, R176. -/
structure Port where
  rx : RxPhase
  rxTimer : Timer
  slot : Option RxFrame
  sending : Option Reply
  tag : RangeTag
  protection : Protection
  deriving DecidableEq, Repr

/-! ## The whole part -/

/-- The part: the clock, the hold of a hard reset, the two input lines, the eight blocks, and the commands waiting. -/
structure State where
  now : Time
  held : Bool
  shedLine : Bool
  key : KeyPos
  zones : ZoneBlock
  arb : Arbiter
  plant : Plant
  nodes : NodeManager
  line : Line
  op : OpControl
  cond : CondBlock
  port : Port
  pending : List Instr
  deriving DecidableEq, Repr

/-- What stops the model. The part itself never stops: every event the spec describes ends in a next state. -/
inductive Fault
  /-- Raised by the events of a zone's timer or claim when they name a zone outside 1 to 24: R1 gives no such zone,
  so no such timer exists. Safe: the model stops where the part has no such event (log 7). -/
  | noSuchZone (number : Nat)
  /-- Raised by the events of a node's timer when they name an address outside 1 to 31: R124 gives no such record.
  Safe: the model stops where the part has no such event (log 7). -/
  | noSuchNode (address : Nat)
  deriving DecidableEq, Repr

/-- What the model has no meaning for. -/
inductive Refusal
  /-- Raised by an arm of exec whose command has no meaning yet (none has this answer now). Safe: nothing follows
  from it. -/
  | notModelled (mnemonic : String)
  deriving DecidableEq, Repr

/-! ## Reset values -/

/-- R1, R2: an undefined zone. -/
def ZoneRec.reset (now : Time) : ZoneRec :=
  { active := false, rank := 1, wmax := 8, deadband := 5, loopPeriod := 10
    sensor := none, blower := none, valve := none, damper := none
    planSetpoint := 220, baseMode := .off
    tempSetpoint := none
    stack := [⟨.base, none, now⟩]
    openDoors := 0#4
    curtainSpent := false
    temperature := none
    co2 := none
    sensorStatus := .ok
    missed := 0
    direction := .none
    want := 0
    claimRank := 1
    flags := ⟨false, false, false, false⟩
    loopTimer := none
    holdTimer := none
    defogTimer := none
    curtainTimer := none }

/-- R3, R31. -/
def ZoneBlock.reset (now : Time) : ZoneBlock :=
  { table := Vector.replicate 24 (ZoneRec.reset now)
    tuning := ⟨40, 20, 20, 60, 180, 1500, 1000⟩
    doorMap := Vector.replicate 4 0#24 }

/-- R46, R70. -/
def Arbiter.reset : Arbiter :=
  { heat := ⟨0, [], []⟩, cool := ⟨0, [], []⟩, counter := 0, saturationTime := 300 }

/-- R75, R91. -/
def PlantDef.reset : PlantDef :=
  { compressor := none, u1 := 0, u2 := 0, u3 := 0, u4 := 0, idleMax := 0, cruiseMax := 0, pullMax := 0
    minRun := 60, minOff := 120, stageDownHold := 30
    auxHeater := none, auxUnits := 0, coolantUnits := 0, intake := none }

/-- R72, R73, R76, R90, R92, R94, R107; the view takes the line's level. -/
def Plant.reset (shed : Bool) : Plant :=
  { band := .stopped, coolant := 0, shedView := shed, defn := PlantDef.reset, stopDelay := 300, minFreshAir := 20
    seq := ⟨.off, none, false, none, false, none, none, false, false⟩
    heater := ⟨.off, 0, false, false, none, none, none, false⟩
    viewHeat := ⟨false, 0⟩, viewCool := ⟨false, 0⟩, purgeCount := 0, intakeTarget := none }

/-- R124. -/
def NodeRec.reset : NodeRec :=
  { configured := false, kind := none, binding := none, state := .unknown, failCount := 0, wakeCount := 0
    cause := none, startStep := .wake, target := none, pending := none, value := none, nodeTarget := none
    version := none, busySince := none, busyFromFault := false, faultReason := none, retryOwed := none
    retryStep := none, haltOwed := false, wakeTimer := none, pollTimer := none, travelTimer := none, revivalTimer := none }

/-- R124, R125, R150; the poll tick starts at the reset. -/
def NodeManager.reset (now : Time) : NodeManager :=
  { table := Vector.replicate 31 NodeRec.reset, queue := [], tuning := ⟨500, 10, 60, 60, 30, 240⟩
    pollTick := some (now + 500 * Config.ms) }

/-- R110. -/
def Line.reset : Line :=
  { phase := .idle, txn := none, timer := none, replyStart := none, chars := [], cut := false }

/-- R153. -/
def OpControl.reset (now : Time) (cause : ResetCause) : OpControl :=
  { state := .config, entered := now, configChanged := true, cause := cause, lastRefusal := none
    done := Vector.replicate 31 false, haltSent := false, work := Vector.replicate 31 .idle, soft := .none }

/-- R179: a sticky condition that is not pending. -/
def Sticky.clear : Sticky := ⟨false, 0, none⟩

/-- R180; SHED_ACTIVE is pending if the line is low. -/
def CondBlock.reset (shed : Bool) : CondBlock :=
  { compFault := .clear, nodeOffline := .clear, nodeFault := .clear, auxLockout := false, sensorLost := .clear
    shedActive := shed, zoneSaturated := .clear, curtainExpired := .clear, purgeAuto := .clear
    linkOverrun := .clear, commissionDone := .clear, stopped := false, mask := 0#12, enable := false }

/-- R168, R170, R174, R176. -/
def Port.reset : Port :=
  { rx := .hunt, rxTimer := none, slot := none, sending := none, tag := .none
    protection := ⟨none, .panelOnly, false⟩ }

/-- The machine right after a power-up (R165), at time 0, SHED_N released and KEY in LOCK (DESIGN CHOICE, log 1, 5,
6, 8), with no command waiting. -/
def State.reset : State :=
  { now := 0, held := false, shedLine := false, key := .lock
    zones := ZoneBlock.reset 0, arb := Arbiter.reset, plant := Plant.reset false
    nodes := NodeManager.reset 0, line := Line.reset, op := OpControl.reset 0 .power
    cond := CondBlock.reset false, port := Port.reset, pending := [] }

end Sys2Proof.Machine
end

