-- ==== Sys2Proof/Machine/Operands.lean ====
section
/-! DEFINITION. How values stand in bytes (R185) and the code of every name (chapter 11.5): reading a request's
fields, writing a reply's fields, and the CRC and check sums of the two links (R169, R112). -/
namespace Sys2Proof.Machine

/-! ## Bytes and two-byte numbers (R185: big-endian) -/

def hiByte (w : Word) : Byte := w.extractLsb' 8 8
def loByte (w : Word) : Byte := w.extractLsb' 0 8
/-- A two-byte number from its high and low byte. -/
def joinBytes (hi lo : Byte) : Word := hi ++ lo
def wordBytes (w : Word) : List Byte := [hiByte w, loByte w]

def byteOf (n : Nat) : Byte := BitVec.ofNat 8 n
def wordOf (n : Nat) : Word := BitVec.ofNat 16 n
def natBytes2 (n : Nat) : List Byte := wordBytes (wordOf n)
/-- Four bytes, big-endian (R185: numbers of four bytes). -/
def natBytes4 (n : Nat) : List Byte := [byteOf (n / 16777216), byteOf (n / 65536), byteOf (n / 256), byteOf n]
def flagByte (b : Bool) : Byte := if b then 1#8 else 0#8

/-- R185: a temperature or setpoint, 0x8000 when absent. -/
def tempBytes : Option Int → List Byte
  | none => wordBytes 0x8000#16
  | some t => wordBytes (BitVec.ofInt 16 t)
/-- R185: a CO2 value, 0xFFFF when absent. -/
def co2Bytes : Option Nat → List Byte
  | none => wordBytes 0xFFFF#16
  | some c => natBytes2 c
/-- R185: a percent, stage count, lit state or move argument, 0xFF when absent. -/
def argByte : Option Nat → Byte
  | none => 0xFF#8
  | some n => byteOf n
/-- R185: a node address in a field that may name none. -/
def nodeByte : Option NodeId → Byte
  | none => 0#8
  | some n => byteOf (n.val + 1)
/-- R185: a zone set of three bytes; bit 0 is the least significant bit of the last byte. -/
def zoneSetBytes (s : BitVec 24) : List Byte := [s.extractLsb' 16 8, s.extractLsb' 8 8, s.extractLsb' 0 8]
def joinZoneSet (b2 b1 b0 : Byte) : BitVec 24 := b2 ++ b1 ++ b0
/-- R185: a condition set of two bytes. -/
def condSetBytes (s : BitVec 12) : List Byte := wordBytes (s.zeroExtend 16)

/-- Time left of a timer, in units of the ticks given, rounded up and at least 1 while it runs (R185). -/
def timeLeft (unit : Nat) (t : Timer) (now : Time) : Nat :=
  match t with
  | none => 0
  | some d => max 1 ((d - now + (unit - 1)) / unit)
/-- An age in whole seconds, capped at 65,535 (R185), a part of a second left off (DESIGN CHOICE, log 55). -/
def ageSeconds (since now : Time) : Nat := min 65535 ((now - since) / Config.second)

/-! ## Reading fields -/

/-- A zone number 1 to 24. -/
def zoneOfNat (n : Nat) : Option Zone :=
  if h : 1 ≤ n ∧ n ≤ 24 then some ⟨n - 1, by omega⟩ else none
/-- A node address 1 to 31. -/
def nodeOfNat (n : Nat) : Option NodeId :=
  if h : 1 ≤ n ∧ n ≤ 31 then some ⟨n - 1, by omega⟩ else none
/-- A door number 1 to 4. -/
def doorOfNat (n : Nat) : Option Door :=
  if h : 1 ≤ n ∧ n ≤ 4 then some ⟨n - 1, by omega⟩ else none

def Zone.number (z : Zone) : Nat := z.val + 1
def NodeId.address (n : NodeId) : Nat := n.val + 1
def Door.number (d : Door) : Nat := d.val + 1

/-- A byte field with a range. -/
def rangeByte (lo hi : Nat) (b : Byte) : Option Nat :=
  if lo ≤ b.toNat ∧ b.toNat ≤ hi then some b.toNat else none
/-- A two-byte field with a range. -/
def rangeWord (lo hi : Nat) (w : Word) : Option Nat :=
  if lo ≤ w.toNat ∧ w.toNat ≤ hi then some w.toNat else none
/-- A field that is an address 1 to 31, or 0 for none; the outer option is the check. -/
def nodeField (b : Byte) : Option (Option NodeId) :=
  if b = 0#8 then some none
  else match nodeOfNat b.toNat with
    | some n => some (some n)
    | none => none
/-- A setpoint 160 to 300, read as a signed number (R185). -/
def setpointField (w : Word) : Option Int :=
  if 160 ≤ w.toInt ∧ w.toInt ≤ 300 then some w.toInt else none
/-- A flag, 0 or 1. -/
def flagField (b : Byte) : Option Bool :=
  if b = 0#8 then some false else if b = 1#8 then some true else none

inductive Source
  | driver | panel | service
  deriving DecidableEq, Repr

def sourceField (b : Byte) : Option Source :=
  if b = 1#8 then some .driver else if b = 2#8 then some .panel else if b = 3#8 then some .service else none

def baseModeOfNat (n : Nat) : Option BaseMode :=
  if n = 0 then some .off else if n = 1 then some .auto else if n = 2 then some .heatOnly
  else if n = 3 then some .coolOnly else if n = 4 then some .vent else none

def bandField (b : Byte) : Option EngineBand :=
  if b = 0#8 then some .stopped else if b = 1#8 then some .idle else if b = 2#8 then some .cruise
  else if b = 3#8 then some .pull else none

def kindOfByte (b : Byte) : Option NodeKind :=
  if b = 1#8 then some .sensor else if b = 2#8 then some .blower else if b = 3#8 then some .damper
  else if b = 4#8 then some .valve else if b = 5#8 then some .compressor else if b = 6#8 then some .auxheat
  else none

def poolField (b : Byte) : Option PoolId :=
  if b = 1#8 then some .heat else if b = 2#8 then some .cool else none

def levelOfNat (n : Nat) : Option ProtectLevel :=
  if n = 1 then some .panelOnly else if n = 2 then some .panelAndDriver else none

/-! ## Codes of names (chapter 11.5) -/

def BaseMode.code : BaseMode → Nat
  | .off => 0 | .auto => 1 | .heatOnly => 2 | .coolOnly => 3 | .vent => 4
def EffMode.code : EffMode → Nat
  | .off => 0 | .auto => 1 | .heatOnly => 2 | .coolOnly => 3 | .vent => 4 | .curtain => 5 | .purge => 6 | .defog => 7
def EntryKind.code : EntryKind → Nat
  | .base => 0 | .curtain => 1 | .purge => 2 | .defog => 3
def causeCode : Option PurgeCause → Nat
  | none => 0 | some .host => 1 | some .auto => 2
def Direction.code : Direction → Nat
  | .none => 0 | .heat => 1 | .cool => 2
def PoolId.code : PoolId → Nat
  | .heat => 1 | .cool => 2
def SensorStatus.code : SensorStatus → Nat
  | .ok => 0 | .missed => 1 | .lost => 2
def ProtectLevel.code : ProtectLevel → Nat
  | .panelOnly => 1 | .panelAndDriver => 2
def EngineBand.code : EngineBand → Nat
  | .stopped => 0 | .idle => 1 | .cruise => 2 | .pull => 3
def PartState.code : PartState → Nat
  | .config => 0 | .commissioning => 1 | .run => 2 | .stopping => 3 | .stopped => 4
def ResetCause.code : ResetCause → Nat
  | .power => 1 | .pin => 2 | .restart => 3
def NodeKind.code : NodeKind → Nat
  | .sensor => 1 | .blower => 2 | .damper => 3 | .valve => 4 | .compressor => 5 | .auxheat => 6
def kindCode : Option NodeKind → Nat
  | none => 0 | some k => k.code
def ZoneRole.code : ZoneRole → Nat
  | .sensor => 1 | .blower => 2 | .valve => 3 | .damper => 4
def PlantRole.code : PlantRole → Nat
  | .compressor => 5 | .auxHeater => 6 | .intake => 7
def roleCode : Option Binding → Nat
  | none => 0 | some (.zone _ r) => r.code | some (.plant r) => r.code
/-- Chapter 11.4: the owner of a node: 0 none, 1 to 24 the zone, 0x81 the plant. -/
def ownerCode : Option Binding → Nat
  | none => 0 | some (.zone z _) => z.val + 1 | some (.plant _) => 0x81
def NodeState.code : NodeState → Nat
  | .unknown => 0 | .starting => 1 | .ready => 2 | .busy => 3 | .offline => 4 | .fault => 5
def startCauseCode : Option StartCause → Nat
  | none => 0 | some .commission => 1 | some .restart => 2 | some .revival => 3 | some .retry => 4
def faultReasonCode : Option FaultReason → Nat
  | none => 0 | some .kindMismatch => 1 | some .nodeReported => 2 | some .illegalReply => 3
  | some .travelTimeout => 4 | some .unexpectedValue => 5 | some .refusedMove => 6
def retryCode : Option RetryAction → Nat
  | none => 0 | some .check => 1 | some .reset => 2
def Origin.code : Origin → Nat
  | .zone z => z.val + 1 | .plant => 0x81 | .poll => 0x82 | .wake => 0x83 | .restore => 0x84
  | .commission => 0x85 | .shutdown => 0x86 | .retry => 0x87
def Seq.code : Seq → Nat
  | .off => 0 | .engaging => 1 | .running _ => 2 | .stepUp _ => 3 | .stepDown _ => 4 | .disengaging => 5
  | .lockout => 6 | .fault => 7
def HeaterState.code : HeaterState → Nat
  | .off => 0 | .igniting => 1 | .running => 2 | .stopping => 3 | .igniteWait => 4 | .lockedOut => 5
def ItemKind.code : ItemKind → Nat
  | .zone => 1 | .node => 2 | .plant => 3 | .door => 4
def CheckCode.code : CheckCode → Nat
  | .sensorKind => 1 | .blowerKind => 2 | .valveKind => 3 | .damperKind => 4 | .compressorKind => 5
  | .stageUnits => 6 | .auxKind => 7 | .auxUnits => 8 | .intakeKind => 9 | .coolantUnits => 10
  | .doubleBinding => 11 | .doorZone => 12
/-- Chapter 11.6: the command codes of the field line. -/
def Command.code : Command → Nat
  | .wake => 1 | .ident => 2 | .status => 3 | .read => 4 | .move => 5 | .halt => 6 | .nodeReset => 7

/-! ## The body link's CRC (R169) -/

/-- One bit of the CRC, the register's top bit shifted out against the generator x^16 + x^12 + x^5 + 1. -/
def crcBit (r : Word) : Word := if r.msb then (r <<< 1) ^^^ 0x1021#16 else r <<< 1
def crcByte (r : Word) (b : Byte) : Word :=
  crcBit (crcBit (crcBit (crcBit (crcBit (crcBit (crcBit (crcBit (r ^^^ (b ++ 0#8)))))))))
/-- R169: the register starts at 0xFFFF, most significant bit first, no reflection, no final inversion. -/
def crc16 (bytes : List Byte) : Word := bytes.foldl crcByte 0xFFFF#16

/-- R168, R169: the CRC of a request, over LEN, KIND, TAG and the payload. -/
def requestCrc (kind tag : Byte) (payload : List Byte) : Word :=
  crc16 (byteOf (2 + payload.length) :: kind :: tag :: payload)

/-- R168: the bytes of a whole request frame on the link. -/
def requestBytes (kind tag : Byte) (payload : List Byte) : List Byte :=
  0xC3#8 :: byteOf (2 + payload.length) :: kind :: tag :: (payload ++ wordBytes (requestCrc kind tag payload))

/-- R171: the bytes of a reply on the link: START, LEN (STATUS included), KIND, TAG, STATUS, payload, CRC. -/
def Reply.bytes (r : Reply) : List Byte :=
  let body := byteOf (3 + r.payload.length) :: r.kind :: r.tag :: r.status :: r.payload
  0xC3#8 :: (body ++ wordBytes (crc16 body))

/-! ## Field-line characters and frames (R111, R112, R186) -/

/-- R112, R113: the sum of data values modulo 256. -/
def sumBytes (bs : List Byte) : Byte := bs.foldl (· + ·) 0#8

/-- R111: even parity over the data bits and the mark: the value of the parity bit. -/
def parityBit (data : Byte) (mark : Bool) : Bool :=
  data.getLsbD 0 ^^ data.getLsbD 1 ^^ data.getLsbD 2 ^^ data.getLsbD 3 ^^
  data.getLsbD 4 ^^ data.getLsbD 5 ^^ data.getLsbD 6 ^^ data.getLsbD 7 ^^ mark

/-- One bit time of a character on the line: the start bit (active level), a value bit, the stop bit (idle level). -/
inductive LineBit
  | start
  | value (b : Bool)
  | stop
  deriving DecidableEq, Repr

/-- R111: the twelve bits of a sent character, in the order they are sent: start, data from the least significant bit,
mark, parity, stop. -/
def charBits (data : Byte) (mark : Bool) : List LineBit :=
  [.start, .value (data.getLsbD 0), .value (data.getLsbD 1), .value (data.getLsbD 2), .value (data.getLsbD 3),
   .value (data.getLsbD 4), .value (data.getLsbD 5), .value (data.getLsbD 6), .value (data.getLsbD 7), .value mark,
   .value (parityBit data mark), .stop]

/-- R111: a received character is good when its parity holds and its stop bit is at the idle level (true). -/
def charGood (data : Byte) (mark parity stop : Bool) : Bool := (parity == parityBit data mark) && stop

/-- R112, R186: the data values of a request frame: address, command, argument of a MOVE, check. -/
def Txn.frame (t : Txn) : List Byte :=
  let addr : Byte := match t.node with
    | none => 0#8
    | some n => byteOf (n.val + 1)
  let head := if t.cmd = .move then [addr, byteOf t.cmd.code, byteOf t.argument] else [addr, byteOf t.cmd.code]
  head ++ [0#8 - sumBytes head]

/-- R112: the address mark is 1 on the first character and 0 on every other. -/
def Txn.markedFrame (t : Txn) : List (Byte × Bool) :=
  match t.frame with
  | [] => []
  | a :: rest => (a, true) :: rest.map (·, false)

/-- R111, R112: the bits of a request frame on the line, each character directly after the stop bit of the one
before. -/
def Txn.lineBits (t : Txn) : List LineBit := t.markedFrame.flatMap (fun c => charBits c.1 c.2)

/-- R113: characters of a full reply. -/
def Command.fullReply : Command → Nat
  | .wake => 2 | .ident => 4 | .status => 4 | .read => 6 | .move => 3 | .halt => 2 | .nodeReset => 2

/-- R112, R113: characters of a request. -/
def Command.requestChars : Command → Nat
  | .move => 4
  | .wake => 3 | .ident => 3 | .status => 3 | .read => 3 | .halt => 3 | .nodeReset => 3

end Sys2Proof.Machine
end

