-- ==== Sys2Proof/Machine/Flags.lean ====
section
/-! DEFINITION. The flag computations: a node's reply flags (R113), the STATUS byte of a reply (R171, chapter 11.2),
the zone flags byte, the pending set and the ATTN_N drive (R179, R183), and DE (R110). -/
namespace Sys2Proof.Machine

/-! ## A node's status character (chapter 11.6) -/

def stInStart (b : Byte) : Bool := b.getLsbD 0
def stBusy (b : Byte) : Bool := b.getLsbD 1
def stIllegal (b : Byte) : Bool := b.getLsbD 2
def stCheckError (b : Byte) : Bool := b.getLsbD 3
def stRange (b : Byte) : Bool := b.getLsbD 4
def stFault (b : Byte) : Bool := b.getLsbD 5
def stSequence (b : Byte) : Bool := b.getLsbD 6

/-- R113: characters to expect after this status character: 2 in the short form, else the command's full form. -/
def expectedChars (cmd : Command) (status : Byte) : Nat :=
  if stCheckError status || stIllegal status then 2 else cmd.fullReply

/-! ## Conditions (R179) -/

/-- The nine sticky conditions. -/
inductive StickyCond
  | compFault | nodeOffline | nodeFault | sensorLost | zoneSaturated | curtainExpired | purgeAuto | linkOverrun
  | commissionDone
  deriving DecidableEq, Repr

def CondBlock.sticky (c : CondBlock) : StickyCond → Sticky
  | .compFault => c.compFault
  | .nodeOffline => c.nodeOffline
  | .nodeFault => c.nodeFault
  | .sensorLost => c.sensorLost
  | .zoneSaturated => c.zoneSaturated
  | .curtainExpired => c.curtainExpired
  | .purgeAuto => c.purgeAuto
  | .linkOverrun => c.linkOverrun
  | .commissionDone => c.commissionDone

def CondBlock.setSticky (c : CondBlock) (i : StickyCond) (r : Sticky) : CondBlock :=
  match i with
  | .compFault => { c with compFault := r }
  | .nodeOffline => { c with nodeOffline := r }
  | .nodeFault => { c with nodeFault := r }
  | .sensorLost => { c with sensorLost := r }
  | .zoneSaturated => { c with zoneSaturated := r }
  | .curtainExpired => { c with curtainExpired := r }
  | .purgeAuto => { c with purgeAuto := r }
  | .linkOverrun => { c with linkOverrun := r }
  | .commissionDone => { c with commissionDone := r }

/-- R179: a raise: pending, one more counted up to 255, and the item replaced. -/
def Sticky.raised (r : Sticky) (item : Option Nat) : Sticky := ⟨true, min 255 (r.count + 1), item⟩

/-- R179: the twelve pending flags in priority order. -/
def CondBlock.flags (c : CondBlock) : List Bool :=
  [c.compFault.pending, c.nodeOffline.pending, c.nodeFault.pending, c.auxLockout, c.sensorLost.pending,
   c.shedActive, c.zoneSaturated.pending, c.curtainExpired.pending, c.purgeAuto.pending, c.linkOverrun.pending,
   c.commissionDone.pending, c.stopped]

/-- A list of flags as bits, the head at the bit given. -/
def flagBits (w : Nat) : Nat → List Bool → BitVec w
  | _, [] => 0#w
  | i, b :: bs => (if b then BitVec.twoPow w i else 0#w) ||| flagBits w (i + 1) bs

/-- R179, R185: the pending set; bit p − 1 stands for the condition of priority p. -/
def CondBlock.pendingSet (c : CondBlock) : BitVec 12 := flagBits 12 0 c.flags

/-- R184: the first place, counted from 1, whose bit is set; 0 when none is. -/
def firstBit (s : BitVec 12) : Nat :=
  match (List.range 12).find? (fun i => s.getLsbD i) with
  | some i => i + 1
  | none => 0

/-- R183: ATTN_N is driven exactly while the enable is on and a pending condition is in the mask; the hold of a hard
reset releases it (R165). -/
def State.attnDriven (s : State) : Bool :=
  !s.held && s.cond.enable && (s.cond.pendingSet &&& s.cond.mask != 0#12)

/-- R110: DE by phase; a hard reset releases it at once (R123). -/
def State.deAsserted (s : State) : Bool :=
  !s.held && match s.line.phase with
    | .lead | .sending | .trail | .gap => true
    | .idle | .awaitReply | .receiving | .closing | .drain | .broadcastWait => false

/-! ## The STATUS byte of a reply (R171) -/

/-- What a request is answered with. At most one of the five flags UNKNOWN_KIND, CHECK_FAILED, SEQUENCE_ERROR,
BAD_ARGUMENT and REFUSED is set. -/
inductive Answer
  | ok (payload : List Byte)
  | unknownKind
  | checkFailed
  | sequenceError
  | badArgument
  | refused (payload : List Byte)
  deriving DecidableEq, Repr

def Answer.payload : Answer → List Byte
  | .ok p => p
  | .refused p => p
  | .unknownKind => []
  | .checkFailed => []
  | .sequenceError => []
  | .badArgument => []

/-- Chapter 11.2: bits 0 STARTING, 1 RANGE_CLEARED, 2 UNKNOWN_KIND, 3 CHECK_FAILED, 4 SEQUENCE_ERROR,
5 BAD_ARGUMENT, 6 REFUSED, 7 ATTENTION. -/
def statusByte (starting rangeCleared attention : Bool) (a : Answer) : Byte :=
  let middle : Byte := match a with
    | .ok _ => 0#8
    | .unknownKind => 4#8
    | .checkFailed => 8#8
    | .sequenceError => 16#8
    | .badArgument => 32#8
    | .refused _ => 64#8
  (if starting then 1#8 else 0#8) ||| (if rangeCleared then 2#8 else 0#8) ||| middle |||
    (if attention then 128#8 else 0#8)

/-- Chapter 11.4: the flags byte of ZONE_QUERY. -/
def ZoneFlags.byte (f : ZoneFlags) : Byte :=
  flagBits 8 0 [f.saturated, f.sensorLost, f.actuatorFault, f.curtainExpired]

end Sys2Proof.Machine
end

