-- ==== Sys2Proof/Machine/Ops.lean ====
section
/-! DEFINITION. The named operations over the state that every block shares: records and their updates, raising and
reporting conditions, the transaction queue (R133, R135 to R138), taking a MOVE, STATUS or READ request by the node's
state (R128, R139), and handing the line the next entry (R133). -/
namespace Sys2Proof.Machine

/-! ## Records -/

/-- The 24 zones in ascending number. -/
def allZones : List Zone := List.finRange 24
/-- The 31 node addresses in ascending order. -/
def allNodes : List NodeId := List.finRange 31
/-- The four doors in ascending number. -/
def allDoors : List Door := List.finRange 4

def State.zone (s : State) (z : Zone) : ZoneRec := s.zones.table[z]
def State.setZone (s : State) (z : Zone) (r : ZoneRec) : State :=
  { s with zones := { s.zones with table := s.zones.table.set z.val r z.isLt } }
def State.modZone (s : State) (z : Zone) (f : ZoneRec → ZoneRec) : State := s.setZone z (f (s.zone z))

def State.node (s : State) (n : NodeId) : NodeRec := s.nodes.table[n]
def State.setNode (s : State) (n : NodeId) (r : NodeRec) : State :=
  { s with nodes := { s.nodes with table := s.nodes.table.set n.val r n.isLt } }
def State.modNode (s : State) (n : NodeId) (f : NodeRec → NodeRec) : State := s.setNode n (f (s.node n))

def State.setArb (s : State) (a : Arbiter) : State := { s with arb := a }
def State.setPlant (s : State) (p : Plant) : State := { s with plant := p }
def State.setSequencer (s : State) (q : Sequencer) : State := { s with plant := { s.plant with seq := q } }
def State.setHeater (s : State) (h : Heater) : State := { s with plant := { s.plant with heater := h } }
def State.setQueue (s : State) (q : List Entry) : State := { s with nodes := { s.nodes with queue := q } }
def State.setLine (s : State) (l : Line) : State := { s with line := l }
def State.setOp (s : State) (o : OpControl) : State := { s with op := o }
def State.setCond (s : State) (c : CondBlock) : State := { s with cond := c }
def State.setPort (s : State) (p : Port) : State := { s with port := p }

/-- The work of each node's commissioning (R159, R160). -/
def State.work (s : State) (n : NodeId) : CommWork := s.op.work[n]
def State.setWork (s : State) (n : NodeId) (w : CommWork) : State :=
  s.setOp { s.op with work := s.op.work.set n.val w n.isLt }

/-- A timer's expiry is taken at its time: the clock stands there or later (log 2). -/
def State.reach (s : State) (t : Time) : State := { s with now := max s.now t }

/-! ## Conditions (R179) -/

/-- A raise of a sticky condition. -/
def State.raise (s : State) (c : StickyCond) (item : Option Nat) : State :=
  s.setCond (s.cond.setSticky c ((s.cond.sticky c).raised item))

/-- The part state changes (R153); STOPPED is pending exactly while the part is in STOPPED. -/
def State.enterPart (s : State) (p : PartState) : State :=
  { s with op := { s.op with state := p, entered := s.now }, cond := { s.cond with stopped := decide (p = .stopped) } }

/-- The heater's state changes (R94); AUX_LOCKOUT is pending exactly while it is LOCKED_OUT. The ignite-wait timer
runs in IGNITE_WAIT, the flame poll and stop-delay timers in RUNNING, and the stop mark stands in IGNITING alone. No
STATUS has been asked in the new state. -/
def State.enterHeater (s : State) (h : HeaterState) : State :=
  { s with
    plant := { s.plant with
      heater := { s.plant.heater with
        state := h
        stopMark := false
        igniteWaitTimer := if h = .igniteWait then some (s.now + Config.igniteWait) else none
        stopDelayTimer := none
        flamePollTimer := if h = .running then some (s.now + Config.plantPoll) else none
        checkAsked := false } }
    cond := { s.cond with auxLockout := decide (h = .lockedOut) } }

/-- The view of SHED_N changes (R73); SHED_ACTIVE is pending exactly while it is asserted. -/
def State.viewShed (s : State) (b : Bool) : State :=
  { s with plant := { s.plant with shedView := b }, cond := { s.cond with shedActive := b } }

/-! ## The transaction queue -/

/-- Two entries, or an entry and a request, equal in node and command (R133, R136). -/
def Entry.same (a b : Entry) : Bool := decide (a.node = b.node) && decide (a.cmd = b.cmd)

/-- R133: at the end of the entry's class; URGENT entries stand before NORMAL ones. -/
def insertEntry (e : Entry) (q : List Entry) : List Entry :=
  if e.urgent then q.takeWhile (·.urgent) ++ e :: q.dropWhile (·.urgent) else q ++ [e]

/-- R136: the entry after it has taken the request in. -/
def Entry.absorb (old e : Entry) : Entry :=
  if e.cmd = .move then { old with argument := e.argument, origin := e.origin }
  else { old with absorbed := old.absorbed ++ [e.origin] }

/-- R136: the queue after a request equal in node and command to a queued entry; none when there is no such entry.
An URGENT request takes a NORMAL entry to the end of the URGENT class. -/
def coalesce (e : Entry) (q : List Entry) : Option (List Entry) :=
  match q.find? (e.same ·) with
  | none => none
  | some old =>
    if e.urgent && !old.urgent then
      some (insertEntry { old.absorb e with urgent := true } (q.filter (fun x => !e.same x)))
    else some (q.map (fun x => if e.same x then x.absorb e else x))

/-- R138: the last NORMAL entry and the queue without it. -/
def removeLastNormal (q : List Entry) : Option (Entry × List Entry) :=
  let r := q.reverse
  match r.dropWhile (·.urgent) with
  | [] => none
  | v :: rest => some (v, rest.reverse ++ (r.takeWhile (·.urgent)).reverse)

/-- Whether an entry of this command stands in the queue for the node. -/
def State.queued (s : State) (n : NodeId) (c : Command) : Bool :=
  s.nodes.queue.any (fun e => decide (e.node = some n) && decide (e.cmd = c))

/-- The transaction in flight: in IDLE there is none (R110), and one whose last attempt has ended and is being
reported is in flight no more, though its record stands until after the report (R118). -/
def Line.inFlight (l : Line) : Option Txn := if l.phase ≠ .idle ∧ l.timer.isSome then l.txn else none

/-- Whether a transaction of this command is in flight for the node. -/
def State.inFlight (s : State) (n : NodeId) (c : Command) : Bool :=
  match s.line.inFlight with
  | none => false
  | some t => decide (t.node = some n) && decide (t.cmd = c)

/-- A MOVE for the node is queued, pending or in flight (R79, R98, R160). -/
def State.moveLeft (s : State) (n : NodeId) : Bool :=
  s.queued n .move || (s.node n).pending.isSome || s.inFlight n .move

/-- R163: in STOPPING, the broadcast MOVE 0 of the shutdown is queued or in flight. -/
def State.broadcastStands (s : State) : Bool :=
  decide (s.op.state = .stopping) &&
  (s.nodes.queue.any (fun e => decide (e.node = none) && decide (e.cmd = .move)) ||
    match s.line.inFlight with
    | none => false
    | some t => decide (t.node = none) && decide (t.cmd = .move))

/-- The argument of the node's queued MOVE. -/
def State.queuedMove (s : State) (n : NodeId) : Option Nat :=
  match s.nodes.queue.find? (fun e => decide (e.node = some n) && decide (e.cmd = .move)) with
  | none => none
  | some e => some e.argument

/-- R140: the latest commanded value: the queued MOVE, else the pending move, else the recorded target. -/
def State.latestCommanded (s : State) (n : NodeId) : Option Nat :=
  match s.queuedMove n with
  | some a => some a
  | none =>
    match (s.node n).pending with
    | some p => some p.argument
    | none => (s.node n).target

/-- R137, R126: the queue without the node's entries of the commands given. -/
def State.dropEntries (s : State) (n : NodeId) (p : Command → Bool) : State :=
  s.setQueue (s.nodes.queue.filter (fun e => !(decide (e.node = some n) && p e.cmd)))

/-- R135: whether the node is a plant node. -/
def State.plantBound (s : State) (n : NodeId) : Bool :=
  match (s.node n).binding with
  | some (.plant _) => true
  | some (.zone _ _) => false
  | none => false

/-! ## Handing over (R133) -/

/-- R133: a MOVE for a node in STARTING is held in its place. -/
def State.holdsBack (s : State) (e : Entry) : Bool :=
  match e.node with
  | none => false
  | some n => decide (e.cmd = .move) && decide ((s.node n).state = .starting)

/-- The first entry that may be handed over, and the queue without it. -/
def State.firstFree (s : State) : List Entry → Option (Entry × List Entry)
  | [] => none
  | e :: q =>
    if s.holdsBack e then
      match s.firstFree q with
      | none => none
      | some (x, r) => some (x, e :: r)
    else some (e, q)

/-- R115: the controller stores the transaction with attempt number 1 and begins its LEAD. -/
def State.startTxn (s : State) (e : Entry) : State :=
  s.setLine
    { phase := .lead
      txn := some ⟨e.node, e.cmd, e.argument, e.urgent, e.origin, e.origin :: e.absorbed, 1, none⟩
      timer := some (s.now + Config.charTime)
      replyStart := none
      chars := []
      cut := false }

/-- R133: the free controller is handed the first entry that may go; from the cut order of a soft reset to its end
nothing is handed over (R166). -/
def State.handOver (s : State) : State :=
  if s.line.phase = .idle ∧ (s.op.soft = .none ∨ s.op.soft = .reply) then
    match s.firstFree s.nodes.queue with
    | none => s
    | some (e, q) => (s.setQueue q).startTxn e
  else s

/-! ## Requests to the node manager -/

/-- R159, R160: the node's initial MOVE has been asked in this commissioning. -/
def CommWork.moveBegun : CommWork → Bool
  | .idle => false
  | .waitBusy => false
  | .startUp => false
  | .moveAsked => true
  | .moveOwed => true
  | .moveDone => true

/-- R138: what one originator of a refused or displaced request does about it: a retry stays owed (R147), the initial
MOVE of commissioning is owed (R160), a HALT is owed (POLL, log 39); the others wait for their own next occasion. A MOVE
that an earlier commissioning left is not the initial MOVE of this one, and its refusal leaves the node's work as R159
has it (DEDUCED, log 29). -/
def State.tellRefused (s : State) (n : NodeId) (c : Command) (o : Origin) : State :=
  match o, c with
  | .retry, .nodeReset => s.modNode n (fun r => { r with retryOwed := some .reset, retryStep := none })
  | .retry, _ => s.modNode n (fun r => { r with retryOwed := some .check, retryStep := none })
  | .commission, .move => if (s.work n).moveBegun then s.setWork n .moveOwed else s
  | .poll, .halt => s.modNode n (fun r => { r with haltOwed := true })
  | _, _ => s

/-- R136, R138: a refusal is told to the entry's originator and to each it has absorbed. -/
def State.refuseEntry (s : State) (e : Entry) : State :=
  match e.node with
  | none => s
  | some n => (e.origin :: e.absorbed).foldl (fun s o => s.tellRefused n e.cmd o) s

/-- R136: the transaction in flight takes in a READ, STATUS, WAKE or IDENT of the same node. -/
def State.absorbedInFlight (s : State) (e : Entry) : Option State :=
  match s.line.inFlight with
  | none => none
  | some t =>
    if t.node = e.node ∧ t.cmd = e.cmd ∧
        (e.cmd = .read ∨ e.cmd = .status ∨ e.cmd = .wake ∨ e.cmd = .ident) then
      some (s.setLine { s.line with txn := some { t with origins := t.origins ++ [e.origin] } })
    else none

/-- R133, R136, R138: a request is taken into an equal entry or the equal transaction in flight, joins its class, or
finds the queue full. -/
def State.joinQueue (s : State) (e : Entry) : State :=
  match coalesce e s.nodes.queue with
  | some q => s.setQueue q
  | none =>
    match s.absorbedInFlight e with
    | some s' => s'
    | none =>
      if s.nodes.queue.length < Config.queueMax then s.setQueue (insertEntry e s.nodes.queue)
      else if e.urgent then
        match removeLastNormal s.nodes.queue with
        | some (victim, q) => (s.refuseEntry victim).setQueue (insertEntry e q)
        | none => s.refuseEntry e
      else s.refuseEntry e

/-- A request, and the hand-over it may allow at once (R133, log 11). -/
def State.request (s : State) (e : Entry) : State := (s.joinQueue e).handOver

/-- R139: a MOVE asked of the node manager, taken by the node's state; its urgency is R135's. -/
def State.askMove (s : State) (n : NodeId) (argument : Nat) (o : Origin) : State :=
  match (s.node n).state with
  | .ready => s.request ⟨some n, .move, argument, s.plantBound n, o, []⟩
  | .starting => s.request ⟨some n, .move, argument, s.plantBound n, o, []⟩
  | .busy => s.modNode n (fun r => { r with pending := some ⟨argument, o⟩ })
  | .unknown => s
  | .offline => s
  | .fault => s

/-- R128: a STATUS is queued for a READY or BUSY node and refused otherwise. -/
def State.askStatus (s : State) (n : NodeId) (o : Origin) : State :=
  match (s.node n).state with
  | .ready => s.request ⟨some n, .status, 0, false, o, []⟩
  | .busy => s.request ⟨some n, .status, 0, false, o, []⟩
  | .starting => s
  | .unknown => s
  | .offline => s
  | .fault => s

/-- R128: a READ is queued for a READY node and refused otherwise. -/
def State.askRead (s : State) (n : NodeId) (o : Origin) : State :=
  match (s.node n).state with
  | .ready => s.request ⟨some n, .read, 0, false, o, []⟩
  | .busy => s
  | .starting => s
  | .unknown => s
  | .offline => s
  | .fault => s

/-- R135: the broadcast HALT and the broadcast MOVE 0 are URGENT. -/
def State.askBroadcast (s : State) (c : Command) (o : Origin) : State :=
  s.request ⟨none, c, 0, true, o, []⟩

/-- R143: the HALT of a travel timeout, with the urgency of R135 and origin POLL. -/
def State.askHalt (s : State) (n : NodeId) : State := s.request ⟨some n, .halt, 0, s.plantBound n, .poll, []⟩

/-- The node manager's own NORMAL requests: WAKE, IDENT, NODE_RESET and the STATUS and IDENT of a retry (R135). -/
def State.askOwn (s : State) (n : NodeId) (c : Command) (o : Origin) : State :=
  s.request ⟨some n, c, 0, false, o, []⟩

/-! ## Resets (R165, R166) -/

/-- Every block at its reset values. The clock, the input lines and the commands waiting are not the part's and pass
through. -/
def State.afterReset (s : State) (cause : ResetCause) : State :=
  { now := s.now, held := false, shedLine := s.shedLine, key := s.key
    zones := ZoneBlock.reset s.now, arb := Arbiter.reset, plant := Plant.reset s.shedLine
    nodes := NodeManager.reset s.now, line := Line.reset, op := OpControl.reset s.now cause
    cond := CondBlock.reset s.shedLine, port := Port.reset, pending := s.pending }

end Sys2Proof.Machine
end

