-- ==== Sys2Proof/Machine/Arbiter.lean ====
section
/-! DEFINITION. The capacity arbiter on its own record (chapter 3): numbers, filing, updating, withdrawing and
returning, the grant pass, settlements, capacity writes and revocation. Nothing here touches another block. -/
namespace Sys2Proof.Machine

/-! ## Pools (R46) -/

def Pool.grantedTotal (p : Pool) : Nat := (p.grants.map Grant.units).sum
def Pool.free (p : Pool) : Nat := p.capacity - p.grantedTotal
def Pool.grantOf (p : Pool) (z : Zone) : Option Grant := p.grants.find? (fun g => decide (g.zone = z))
def Pool.claimOf (p : Pool) (z : Zone) : Option Claim := p.claims.find? (fun c => decide (c.zone = z))
/-- The units of the zone's grant, 0 if there is none. -/
def Pool.unitsOf (p : Pool) (z : Zone) : Nat :=
  match p.grantOf z with
  | none => 0
  | some g => g.units

def Arbiter.pool (a : Arbiter) : PoolId → Pool
  | .heat => a.heat
  | .cool => a.cool
def Arbiter.setPool (a : Arbiter) (i : PoolId) (p : Pool) : Arbiter :=
  match i with
  | .heat => { a with heat := p }
  | .cool => { a with cool := p }

/-- The pool in which the zone holds a grant or waits with a claim (R20). -/
def Arbiter.holder (a : Arbiter) (z : Zone) : Option PoolId :=
  if (a.heat.grantOf z).isSome || (a.heat.claimOf z).isSome then some .heat
  else if (a.cool.grantOf z).isSome || (a.cool.claimOf z).isSome then some .cool
  else none

/-- The zone's grant as pool and units, or none (R57, R68). -/
def Arbiter.grantOf (a : Arbiter) (z : Zone) : Option (PoolId × Nat) :=
  match a.heat.grantOf z with
  | some g => some (.heat, g.units)
  | none =>
    match a.cool.grantOf z with
    | some g => some (.cool, g.units)
    | none => none

/-! ## The counter (R48) -/

/-- The numbers of every claim and grant of both pools. -/
def Arbiter.numbers (a : Arbiter) : List Nat :=
  a.heat.grants.map Grant.number ++ a.heat.claims.map Claim.arrival ++
  a.cool.grants.map Grant.number ++ a.cool.claims.map Claim.arrival

def Pool.renumber (p : Pool) (f : Nat → Nat) : Pool :=
  { p with
    grants := p.grants.map (fun g => { g with number := f g.number })
    claims := p.claims.map (fun c => { c with arrival := f c.arrival }) }

/-- R48: each record's new number is its place in the order of the present numbers, counted from 1. -/
def Arbiter.renumber (a : Arbiter) : Arbiter :=
  let all := a.numbers
  let place := fun n => (all.filter (fun m => decide (m ≤ n))).length
  { a with heat := a.heat.renumber place, cool := a.cool.renumber place, counter := all.length }

/-- R48: the arbiter ready to give a number: renumbered if the counter stands at its last value. -/
def Arbiter.readyNumber (a : Arbiter) : Arbiter :=
  if a.counter < Config.counterMax then a else a.renumber

/-- R48: a number is needed: the counter is raised by one and its new value is the number. -/
def Arbiter.tick (a : Arbiter) : Arbiter :=
  { a.readyNumber with counter := a.readyNumber.counter + 1 }

/-! ## Claims (R50, R53 to R55) -/

/-- R50: the last place in the claim's rank group. -/
def insertClaim (c : Claim) (q : List Claim) : List Claim :=
  q.takeWhile (fun x => decide (c.rank ≤ x.rank)) ++ c :: q.dropWhile (fun x => decide (c.rank ≤ x.rank))

def Pool.withoutClaim (p : Pool) (z : Zone) : Pool :=
  { p with claims := p.claims.filter (fun c => !decide (c.zone = z)) }

/-- R48, R54, R63: the zone's claim takes a fresh arrival number, the end of its rank group and passed count 0. The
claim still stands in the queue as its number is taken. -/
def Arbiter.moveClaim (a : Arbiter) (i : PoolId) (z : Zone) (units rank : Nat) (filed : Time) (mark : Bool) :
    Arbiter :=
  let a := a.tick
  let p := (a.pool i).withoutClaim z
  a.setPool i { p with claims := insertClaim ⟨z, units, rank, a.counter, 0, filed, mark⟩ p.claims }

/-- R53: a new claim with a fresh arrival number, at the end of its rank group. -/
def Arbiter.file (a : Arbiter) (i : PoolId) (z : Zone) (units rank : Nat) (now : Time) : Arbiter :=
  let a := a.tick
  let p := a.pool i
  a.setPool i { p with claims := insertClaim ⟨z, units, rank, a.counter, 0, now, false⟩ p.claims }

/-- R54: units alone change in place; a new rank takes a fresh number, the end of the new group and passed count 0.
Filed time and mark are kept. -/
def Arbiter.update (a : Arbiter) (i : PoolId) (c : Claim) (units rank : Nat) : Arbiter :=
  if c.rank = rank then
    let p := a.pool i
    a.setPool i
      { p with claims := p.claims.map (fun x => if x.zone = c.zone then { x with units := units } else x) }
  else a.moveClaim i c.zone units rank c.filed c.saturated

/-- R55. -/
def Arbiter.withdraw (a : Arbiter) (i : PoolId) (z : Zone) : Arbiter :=
  a.setPool i ((a.pool i).withoutClaim z)

/-- R56, R62: units are taken from a zone's grant; its number is kept, and a record that reaches 0 is removed. -/
def Pool.lessGrant (p : Pool) (z : Zone) (units : Nat) : Pool :=
  { p with
    grants := (p.grants.map (fun g => if g.zone = z then { g with units := g.units - units } else g)).filter
      (fun g => !(decide (g.zone = z) && decide (g.units = 0))) }

def Arbiter.giveBack (a : Arbiter) (i : PoolId) (z : Zone) (units : Nat) : Arbiter :=
  a.setPool i ((a.pool i).lessGrant z units)

/-! ## The grant pass (R58 to R61) -/

/-- R49: units added to the zone's record, which takes the number given; a new record if there is none. -/
def Pool.addGrant (p : Pool) (z : Zone) (units number : Nat) : Pool :=
  match p.grantOf z with
  | some _ =>
    { p with
      grants := p.grants.map (fun g => if g.zone = z then { g with units := g.units + units, number := number } else g) }
  | none => { p with grants := p.grants ++ [⟨z, units, number⟩] }

/-- R59: the claim leaves the queue and its units are granted under a fresh number. -/
def Arbiter.grantClaim (a : Arbiter) (i : PoolId) (c : Claim) : Arbiter :=
  let a := (a.withdraw i c.zone).tick
  a.setPool i ((a.pool i).addGrant c.zone c.units a.counter)

/-- R60: the passed counts of the claims at the places from lo up to hi are raised by one, to at most 3. -/
def raisePassed (lo hi : Nat) (q : List Claim) : List Claim :=
  q.take lo ++ ((q.take hi).drop lo).map (fun c => { c with passed := min 3 (c.passed + 1) }) ++ q.drop hi

/-- R60: whether any of those places now stands at 3. -/
def anyAtThree (lo hi : Nat) (q : List Claim) : Bool :=
  ((q.take hi).drop lo).any (fun c => decide (3 ≤ c.passed))

/-- R59, R60: the walk along the queue. at is the place reached; the places below raised have had their count
raised in this pass. A granted claim leaves the queue, so the next claim stands at the same place. -/
def Arbiter.walk (i : PoolId) : Nat → Nat → Nat → Arbiter → Arbiter
  | 0, _, _, a => a
  | fuel + 1, place, raised, a =>
    match (a.pool i).claims[place]? with
    | none => a
    | some c =>
      if c.units ≤ (a.pool i).free then
        let a := a.grantClaim i c
        let p := a.pool i
        let q := raisePassed raised place p.claims
        let a := a.setPool i { p with claims := q }
        if anyAtThree raised place q then a else Arbiter.walk i fuel place place a
      else if c.passed < 3 then Arbiter.walk i fuel (place + 1) raised a
      else a

/-- R58: one grant pass in a pool. -/
def Arbiter.pass (a : Arbiter) (i : PoolId) : Arbiter :=
  Arbiter.walk i (a.pool i).claims.length 0 0 a

/-! ## Settlement (R20, R52) -/

def Direction.pool (d : Direction) : Option PoolId :=
  match d with
  | .none => Option.none
  | .heat => some .heat
  | .cool => some .cool

/-- R20: everything the zone holds in the pool is returned and its claim withdrawn. -/
def Arbiter.release (a : Arbiter) (i : PoolId) (z : Zone) : Arbiter :=
  (a.giveBack i z ((a.pool i).unitsOf z)).withdraw i z

/-- R20, R52: the rows for a zone that holds something in the pool of its direction. -/
def Arbiter.settleWithin (a : Arbiter) (i : PoolId) (z : Zone) (w rank : Nat) (now : Time) : Arbiter :=
  let g := (a.pool i).unitsOf z
  match (a.pool i).claimOf z with
  | none =>
    if w < g then (a.giveBack i z (g - w)).pass i
    else if w = g then a
    else (a.file i z (w - g) rank now).pass i
  | some c =>
    if w ≤ g then ((a.giveBack i z (g - w)).withdraw i z).pass i
    else if c.units = w - g ∧ c.rank = rank then a
    else (a.update i c (w - g) rank).pass i

/-- R52: one settlement: the row of R20 that fits, then one pass in each pool it touched (the pool left first,
log 13). -/
def Arbiter.settle (a : Arbiter) (z : Zone) (d : Direction) (w rank : Nat) (now : Time) : Arbiter :=
  match d.pool, a.holder z with
  | none, none => a
  | none, some p => (a.release p z).pass p
  | some i, none => (a.file i z w rank now).pass i
  | some i, some p =>
    if p = i then a.settleWithin i z w rank now
    else (((a.release p z).file i z w rank now).pass p).pass i

/-! ## Capacity writes and revocation (R47, R62, R63) -/

/-- R62: whether the grant g is taken before the grant b: lower claim rank first, then the newer number. -/
def takenBefore (rankOf : Zone → Nat) (g b : Grant) : Bool :=
  decide (rankOf g.zone < rankOf b.zone) ||
  (decide (rankOf g.zone = rankOf b.zone) && decide (b.number < g.number))

/-- R62: the grant to take from next. -/
def nextVictim (rankOf : Zone → Nat) : List Grant → Option Grant
  | [] => none
  | g :: gs =>
    match nextVictim rankOf gs with
    | none => some g
    | some b => if takenBefore rankOf b g then some b else some g

/-- R63: revoked units go back into the pool's queue: a new claim, or added to the waiting one up to 16; fresh
number, passed count 0, filed now, mark clear, at the zone's claim rank. -/
def Arbiter.refile (a : Arbiter) (i : PoolId) (z : Zone) (units rank : Nat) (now : Time) : Arbiter :=
  match (a.pool i).claimOf z with
  | none => a.file i z units rank now
  | some c => a.moveClaim i z (min 16 (c.units + units)) rank now false

/-- R62: the excess is taken record by record until it is gone. Each amount is filed again as its record is taken, before
the next (DESIGN CHOICE, log 57: R63 gives the order of the numbers alone). -/
def Arbiter.revoke (i : PoolId) (rankOf : Zone → Nat) (now : Time) : Nat → Nat → Arbiter → Arbiter
  | 0, _, a => a
  | fuel + 1, excess, a =>
    if excess = 0 then a
    else
      match nextVictim rankOf (a.pool i).grants with
      | none => a
      | some g =>
        let t := min g.units excess
        Arbiter.revoke i rankOf now fuel (excess - t)
          ((a.giveBack i g.zone t).refile i g.zone t (rankOf g.zone) now)

/-- R47: a capacity write: the same value changes nothing; a rise runs a pass; a fall revokes what is above it. -/
def Arbiter.writeCapacity (a : Arbiter) (i : PoolId) (v : Nat) (rankOf : Zone → Nat) (now : Time) : Arbiter :=
  let p := a.pool i
  let b := a.setPool i { p with capacity := v }
  if v = p.capacity then a
  else if p.capacity < v then b.pass i
  else if v < p.grantedTotal then Arbiter.revoke i rankOf now p.grants.length (p.grantedTotal - v) b
  else b

/-! ## Age and part states (R66, R70) -/

/-- R66: the zone's claim takes its saturation mark. -/
def Pool.markSaturated (p : Pool) (z : Zone) : Pool :=
  { p with claims := p.claims.map (fun c => if c.zone = z then { c with saturated := true } else c) }

/-- R70: every grant and claim dropped; capacities and counter kept. -/
def Arbiter.dropAll (a : Arbiter) : Arbiter :=
  { a with heat := { a.heat with grants := [], claims := [] }, cool := { a.cool with grants := [], claims := [] } }

end Sys2Proof.Machine
end

