-- ==== Sys2Proof/Machine/Targets.lean ====
section
/-! DEFINITION. A zone's effective mode and setpoint (R7, R29), its actuator targets (R22) and the MOVE requests they
lead to (R23): what a zone does on a grant notice (R21) and in the third step of an evaluation (R11). -/
namespace Sys2Proof.Machine

/-- R29: a BASE entry on top gives its base mode. -/
def BaseMode.eff : BaseMode → EffMode
  | .off => .off
  | .auto => .auto
  | .heatOnly => .heatOnly
  | .coolOnly => .coolOnly
  | .vent => .vent

/-- R29: the effective mode, from the top entry. -/
def ZoneRec.effMode (r : ZoneRec) : EffMode :=
  match r.stack with
  | [] => r.baseMode.eff
  | e :: _ =>
    match e.kind with
    | .base => r.baseMode.eff
    | .curtain => .curtain
    | .purge => .purge
    | .defog => .defog

/-- R7: S, the temporary setpoint when one is present, else the plan setpoint. -/
def ZoneRec.setpoint (r : ZoneRec) : Int :=
  match r.tempSetpoint with
  | some t => t
  | none => r.planSetpoint

/-- R22: the opening for g units. -/
def opening (g wmax : Nat) : Nat := g * 100 / wmax

/-- R22: units granted in the pool given, 0 if the grant is elsewhere or there is none. -/
def grantIn (i : PoolId) : Option (PoolId × Nat) → Nat
  | none => 0
  | some (p, g) => if p = i then g else 0

/-- R22: units granted in whichever pool. -/
def grantUnits : Option (PoolId × Nat) → Nat
  | none => 0
  | some (_, g) => g

/-- R22: the blower target. -/
def ZoneRec.blowerTarget (r : ZoneRec) (t : ZoneTuning) (g : Option (PoolId × Nat)) : Nat :=
  match r.effMode with
  | .off => 0
  | .vent => t.ventLevel
  | .auto | .heatOnly | .coolOnly => max t.minBlower (opening (grantUnits g) r.wmax)
  | .purge | .defog | .curtain => 100

/-- R22: the valve target (pool HEAT) and the damper target (pool COOL). -/
def ZoneRec.grantTarget (r : ZoneRec) (i : PoolId) (g : Option (PoolId × Nat)) : Nat :=
  match r.effMode with
  | .off => 0
  | .vent => 0
  | .auto | .heatOnly | .coolOnly | .purge | .defog | .curtain => opening (grantIn i g) r.wmax

/-- R23: a MOVE is asked when the target differs from the latest commanded value. -/
def State.moveTo (s : State) (n : Option NodeId) (target : Nat) (o : Origin) : State :=
  match n with
  | none => s
  | some n => if s.latestCommanded n = some target then s else s.askMove n target o

/-- R22, R23: the target computation and its move requests, blower, then valve, then damper (DESIGN CHOICE, log 40: R23
gives no order). Outside RUN, and for an inactive zone, nothing is computed (R24, R5). -/
def State.zoneTargets (s : State) (z : Zone) : State :=
  let r := s.zone z
  if s.op.state = .run ∧ r.active = true then
    let g := s.arb.grantOf z
    let s := s.moveTo r.blower (r.blowerTarget s.zones.tuning g) (.zone z)
    let s := s.moveTo r.valve (r.grantTarget .heat g) (.zone z)
    s.moveTo r.damper (r.grantTarget .cool g) (.zone z)
  else s

/-- R68: every zone whose grant differs from before, but for the zone that settled itself, is sent a grant notice and
makes its target computation (R21); in ascending zone number (DESIGN CHOICE, log 10). -/
def State.grantNotices (s : State) (before : Arbiter) (settling : Option Zone) : State :=
  allZones.foldl
    (fun t z => if settling = some z ∨ before.grantOf z = s.arb.grantOf z then t else t.zoneTargets z) s

end Sys2Proof.Machine
end

