-- ==== Sys2Proof/Machine/Plant.lean ====
section
/-! DEFINITION. The plant controller's computations and decisions (chapters 4 and 5): allowed stages, capacities and
their writes, the sequencer's steps, the heater's start and stop, the intake. What it does on the node manager's
reports is in PlantReports.lean. -/
namespace Sys2Proof.Machine

/-! ## Stages and capacities -/

/-- R77: u1 + … + un. -/
def PlantDef.firstStages (d : PlantDef) (n : Nat) : Nat :=
  match n with
  | 0 => 0
  | 1 => d.u1
  | 2 => d.u1 + d.u2
  | 3 => d.u1 + d.u2 + d.u3
  | _ => d.u1 + d.u2 + d.u3 + d.u4

/-- R83: u_k. -/
def PlantDef.stageUnits (d : PlantDef) (k : Nat) : Nat :=
  match k with
  | 0 => 0
  | 1 => d.u1
  | 2 => d.u2
  | 3 => d.u3
  | _ => d.u4

/-- R74: the band maximum for a band, 0 for STOPPED. -/
def PlantDef.bandMax (d : PlantDef) : EngineBand → Nat
  | .stopped => 0
  | .idle => d.idleMax
  | .cruise => d.cruiseMax
  | .pull => d.pullMax

/-- R74: the allowed stages A. -/
def State.allowedStages (s : State) : Nat :=
  let p := s.plant
  if p.shedView = true ∨ p.band = .stopped ∨ p.seq.state = .fault ∨ s.op.state ≠ .run ∨ p.defn.compressor = none
  then 0
  else p.defn.bandMax p.band

/-- R76: the committed stages c of a sequencer state. -/
def Seq.committed : Seq → Nat
  | .off => 0
  | .engaging => 0
  | .running k => k
  | .stepUp k => k
  | .stepDown k => k - 1
  | .disengaging => 0
  | .lockout => 0
  | .fault => 0

/-- R109: k, 0 when the state has none. -/
def Seq.k : Seq → Nat
  | .off => 0
  | .engaging => 0
  | .running k => k
  | .stepUp k => k
  | .stepDown k => k
  | .disengaging => 0
  | .lockout => 0
  | .fault => 0

/-- R77: COOL capacity. -/
def State.coolCapacity (s : State) : Nat :=
  s.plant.defn.firstStages (min s.plant.seq.state.committed s.allowedStages)

/-- R93: the coolant-only capacity L × U. -/
def Plant.coolantOnly (p : Plant) : Nat := p.coolant * p.defn.coolantUnits

/-- R93: HEAT capacity. -/
def State.heatCapacity (s : State) : Nat :=
  min 64 (s.plant.coolantOnly + (if s.plant.heater.state = .running then s.plant.defn.auxUnits else 0))

/-! ## The plant nodes -/

/-- A node is named and stands in READY. -/
def State.readyNode (s : State) (n : Option NodeId) : Bool :=
  match n with
  | none => false
  | some n => decide ((s.node n).state = .ready)

def State.compressorReady (s : State) : Bool := s.readyNode s.plant.defn.compressor
def State.auxReady (s : State) : Bool := s.readyNode s.plant.defn.auxHeater

/-- A MOVE of a plant node (R78, R96, R103, R107); none is asked where no node is defined. -/
def State.plantMove (s : State) (n : Option NodeId) (argument : Nat) (o : Origin) : State :=
  match n with
  | none => s
  | some n => s.askMove n argument o

/-! ## The sequencer's state and timers -/

/-- R76 and the timer rules R83 to R88: a new sequencer state. The poll timer runs in RUNNING, the lockout timer in
LOCKOUT; the stage-down hold and its mark start afresh; the minimum run stops at DISENGAGING and FAULT. No STATUS has
been asked in the new state (R87), and LOCKOUT and FAULT end a watch (R90). -/
def State.enterSeq (s : State) (q : Seq) : State :=
  s.setSequencer
    { s.plant.seq with
      state := q
      minRunTimer := if q = .disengaging ∨ q = .fault then none else s.plant.seq.minRunTimer
      holdTimer := none
      holdMet := false
      lockoutTimer := if q = .lockout then some (s.now + s.plant.defn.minOff * Config.second) else none
      pollTimer := match q with
        | .running _ => some (s.now + Config.plantPoll)
        | _ => none
      checkAsked := false
      watch := s.plant.seq.watch && !(decide (q = .lockout) || decide (q = .fault)) }

/-- R83: the stage-down hold's condition in RUNNING(k). -/
def State.holdCondition (s : State) (k : Nat) : Bool :=
  !s.plant.viewCool.nonEmpty &&
  decide (s.plant.viewCool.granted + s.plant.defn.stageUnits k ≤ s.arb.cool.capacity)

/-- R83: the test of the condition: the hold starts when it begins to hold, and is cancelled with its mark when it
stops holding. -/
def State.testHold (s : State) : State :=
  match s.plant.seq.state with
  | .running k =>
    if s.holdCondition k then
      if s.plant.seq.holdTimer = none ∧ s.plant.seq.holdMet = false then
        s.setSequencer
          { s.plant.seq with holdTimer := some (s.now + s.plant.defn.stageDownHold * Config.second) }
      else s
    else s.setSequencer { s.plant.seq with holdTimer := none, holdMet := false }
  | _ => s

/-- R80, R81: engaging or stepping up, when the conditions hold. Neither changes COOL capacity at its start. -/
def State.seqRise (s : State) : State :=
  match s.plant.seq.state with
  | .off =>
    if 1 ≤ s.allowedStages ∧ s.plant.viewCool.nonEmpty = true ∧ s.compressorReady = true then
      (s.plantMove s.plant.defn.compressor 1 .plant).enterSeq .engaging
    else s
  | .running k =>
    if k < s.allowedStages ∧ s.plant.viewCool.nonEmpty = true ∧ s.compressorReady = true then
      (s.plantMove s.plant.defn.compressor (k + 1) .plant).enterSeq (.stepUp k)
    else s
  | _ => s

/-! ## The heater's start and stop-delay (R96, R102) -/

/-- R96: the start decision. -/
def State.heaterStart (s : State) : State :=
  if s.plant.heater.state = .off ∧ s.plant.heater.permit = true ∧ s.op.state = .run ∧ s.auxReady = true ∧
      s.plant.viewHeat.nonEmpty = true then
    (s.plantMove s.plant.defn.auxHeater 1 .plant).enterHeater .igniting
  else s

/-- R102: the stop-delay condition, and the timer that starts when it begins to hold and is cancelled when it stops
holding. -/
def State.testStopDelay (s : State) : State :=
  if s.plant.heater.state = .running then
    if s.plant.viewHeat.nonEmpty = false ∧ s.plant.viewHeat.granted ≤ s.plant.coolantOnly then
      if s.plant.heater.stopDelayTimer = none then
        s.setHeater { s.plant.heater with stopDelayTimer := some (s.now + s.plant.stopDelay * Config.second) }
      else s
    else s.setHeater { s.plant.heater with stopDelayTimer := none }
  else s

/-! ## The arbiter's notices (R69) -/

/-- The view a notice carries: queue state and granted total. -/
def Pool.view (p : Pool) : PoolView := ⟨!p.claims.isEmpty, p.grantedTotal⟩

/-- R69, R80, R81, R83: a COOL notice, if the event changed the queue state or the granted total. -/
def State.hearCool (s : State) (before : Arbiter) : State :=
  let v := s.arb.cool.view
  if before.cool.view = v then s
  else
    let s := (s.setPlant { s.plant with viewCool := v }).testHold
    if before.cool.view.nonEmpty = false ∧ v.nonEmpty = true then s.seqRise else s

/-- R69, R96, R102: a HEAT notice. -/
def State.hearHeat (s : State) (before : Arbiter) : State :=
  let v := s.arb.heat.view
  if before.heat.view = v then s
  else
    let s := (s.setPlant { s.plant with viewHeat := v }).testStopDelay
    if before.heat.view.nonEmpty = false ∧ v.nonEmpty = true then s.heaterStart else s

/-- R64, R68, R69: all the notices of one arbiter event: the zones', then the plant controller's (log 10). -/
def State.notices (s : State) (before : Arbiter) (settling : Option Zone) : State :=
  let s := s.grantNotices before settling
  (s.hearHeat before).hearCool before

/-- One event at the arbiter other than a settlement, and its notices. -/
def State.arbiterEvent (s : State) (a : Arbiter) : State := (s.setArb a).notices s.arb none

/-! ## Capacity writes (R47, R77, R93) -/

/-- R62: the claim rank that a zone's record holds. -/
def State.claimRankOf (s : State) (z : Zone) : Nat := (s.zone z).claimRank

/-- R47: the plant controller writes a pool's capacity; the value the pool holds changes nothing. -/
def State.writeCapacity (s : State) (i : PoolId) (v : Nat) : State :=
  if v = (s.arb.pool i).capacity then s
  else s.arbiterEvent (s.arb.writeCapacity i v s.claimRankOf s.now)

/-- R77: COOL capacity computed afresh and written. -/
def State.refreshCool (s : State) : State := s.writeCapacity .cool s.coolCapacity
/-- R93: HEAT capacity computed afresh and written. -/
def State.refreshHeat (s : State) : State := s.writeCapacity .heat s.heatCapacity

/-! ## The sequencer's decisions (section 4.4) -/

/-- R82, R83, R84: one stage is shed from RUNNING(k), or the clutch let out from one stage. -/
def State.shedStage (s : State) (k : Nat) : State :=
  if 2 ≤ k then
    ((s.plantMove s.plant.defn.compressor (k - 1) .plant).enterSeq (.stepDown k)).refreshCool
  else ((s.plantMove s.plant.defn.compressor 0 .plant).enterSeq .disengaging).refreshCool

/-- R80 to R84: the decisions of a resting or steady sequencer, on the events that call for them. In RUNNING(k) with
the node READY: shed when k exceeds A; step up when the queue waits; act on a hold marked met. -/
def State.seqDecide (s : State) : State :=
  match s.plant.seq.state with
  | .off => s.seqRise
  | .running k =>
    if s.compressorReady = true then
      if s.allowedStages < k then s.shedStage k
      else if k < s.allowedStages ∧ s.plant.viewCool.nonEmpty = true then s.seqRise
      else if s.plant.seq.holdMet = true ∧ (2 ≤ k ∨ s.plant.seq.minRunExpired = true) then s.shedStage k
      else s
    else s
  | _ => s

/-- R80, R81, R82, R83: entry to RUNNING(k): capacity, the hold's test and the decisions. With A above k and a queue that is
still non-empty this steps up at once, as R81 has it, so that a fall of A taken after the completion finds STEP_UP(k), where
R86's rows for STEP_UP and ENGAGING have R82 shed at once (DESIGN CHOICE between R81 and R86, log 62). With A still below k
it sheds a stage at once, as R82 has it, so that a rise of A taken after the completion finds STEP_DOWN(k) or DISENGAGING,
where R86's rows for a rise in STEP_UP and STEP_DOWN end in RUNNING(k) (DESIGN CHOICE between R82 and R86, log 62). -/
def State.enterRunning (s : State) (k : Nat) : State :=
  (((s.enterSeq (.running k)).refreshCool).testHold).seqDecide

/-- R74: after an event that may change A: a new value recomputes COOL capacity and is taken into the decisions. -/
def State.allowedChanged (s : State) (before : Nat) : State :=
  if s.allowedStages = before then s else (s.refreshCool).seqDecide

/-- R79: a step's target. -/
def Seq.stepTarget : Seq → Option Nat
  | .off => none
  | .engaging => some 1
  | .running _ => none
  | .stepUp k => some (k + 1)
  | .stepDown k => some (k - 1)
  | .disengaging => some 0
  | .lockout => none
  | .fault => none

/-- R80, R81, R82, R85: the completion of a step. A minimum run that stands as expired does so until the completion of
ENGAGING starts the timer again (DESIGN CHOICE, log 50: R84 says "until the next engagement"). -/
def State.completeStep (s : State) : State :=
  match s.plant.seq.state with
  | .engaging =>
    (s.setSequencer
      { s.plant.seq with
        minRunTimer := some (s.now + s.plant.defn.minRun * Config.second), minRunExpired := false }).enterRunning 1
  | .stepUp k => s.enterRunning (k + 1)
  | .stepDown k => s.enterRunning (k - 1)
  | .disengaging => (s.enterSeq .lockout).refreshCool
  | _ => s

/-! ## At rest (R90, R106, R164) -/

def Seq.atRest : Seq → Bool
  | .off => true
  | .engaging => false
  | .running _ => false
  | .stepUp _ => false
  | .stepDown _ => false
  | .disengaging => false
  | .lockout => true
  | .fault => true

def HeaterState.atRest : HeaterState → Bool
  | .off => true
  | .igniting => false
  | .running => false
  | .stopping => false
  | .igniteWait => true
  | .lockedOut => true

/-- R164: the plant controller's report that the plant is at rest ends STOPPING. From a RESTART on it does not: the soft
reset ends STOPPING then (DEDUCED, log 61). -/
def State.restReport (s : State) : State :=
  if s.op.state = .stopping ∧ s.op.soft = .none ∧ s.plant.seq.state.atRest = true ∧ s.plant.heater.state.atRest = true then
    s.enterPart .stopped
  else s

/-! ## The heater (sections 5.3 and 5.4) -/

/-- R99: a failure, counted; the second in a row locks the burner out. -/
def State.heaterFailure (s : State) : State :=
  let n := s.plant.heater.failures + 1
  if 2 ≤ n then (s.setHeater { s.plant.heater with failures := 2 }).enterHeater .lockedOut
  else (s.setHeater { s.plant.heater with failures := n }).enterHeater .igniteWait

/-- R100: a flame-out: the aux units leave HEAT capacity and the failure is counted. -/
def State.flameOut (s : State) : State := s.heaterFailure.refreshHeat

/-- R102, R103: a stop. From RUNNING the heater enters STOPPING at once; in IGNITING the stop mark is set; elsewhere
nothing changes. -/
def State.heaterStop (s : State) : State :=
  match s.plant.heater.state with
  | .running => ((s.plantMove s.plant.defn.auxHeater 0 .plant).enterHeater .stopping).refreshHeat
  | .igniting =>
    let s := s.setHeater { s.plant.heater with stopMark := true }
    s.plantMove s.plant.defn.auxHeater 0 .plant
  | .off => s
  | .stopping => s
  | .igniteWait => s
  | .lockedOut => s

/-- R98: ignition ended lit: failure count 0, the aux units join HEAT capacity, the stop-delay condition is tested. -/
def State.heaterLit (s : State) : State :=
  ((((s.setHeater { s.plant.heater with failures := 0 }).enterHeater .running).refreshHeat).testStopDelay)

/-! ## The intake (R107) -/

/-- R107: the intake target in RUN. -/
def Plant.runIntake (p : Plant) : Nat := if 1 ≤ p.purgeCount then 100 else p.minFreshAir

/-- R107, R108: the target against the intake node's latest commanded value. In COMMISSIONING and STOPPING the plant
controller asks for no MOVE of its own; after a reset there is no target. -/
def State.intakeCompare (s : State) : State :=
  if s.op.state = .commissioning ∨ s.op.state = .stopping then s
  else
    match s.plant.intakeTarget with
    | none => s
    | some t => s.moveTo s.plant.defn.intake t .plant

/-- R107: the comparison at the intake node's entry to READY. The node that is bound as intake counts as the intake node
while the plant definition names it, which a PLANT_DEF taken in STOPPED may have ended (DESIGN CHOICE, log 52). -/
def State.intakeNodeReady (s : State) (n : NodeId) : State :=
  if s.plant.defn.intake = some n then s.intakeCompare else s

/-- R107: a notice that a zone's effective mode became PURGE (true) or stopped being PURGE (false). -/
def State.purgeNotice (s : State) (became : Bool) : State :=
  let p := s.plant
  let p := { p with purgeCount := if became then p.purgeCount + 1 else p.purgeCount - 1 }
  (s.setPlant { p with intakeTarget := some p.runIntake }).intakeCompare

end Sys2Proof.Machine
end

