-- ==== Sys2Proof/Machine/Zones.lean ====
section
/-! DEFINITION. The zone controller (chapters 1 and 2): demand, evaluation and settlement, overrides on the mode
stack, setpoints and base modes, readings and failed reads, the loop, and the entries to RUN and STOPPING. -/
namespace Sys2Proof.Machine

/-! ## Demand (R12 to R14) -/

/-- R13: the demand from error, after the first two restrictions of R14. -/
def ZoneRec.fromError (r : ZoneRec) : Direction × Nat :=
  if r.sensorStatus = .lost then (.none, 0)
  else
    match r.temperature with
    | none => (.none, 0)
    | some t =>
      let e := r.setpoint - t
      let db : Int := r.deadband
      if db < e then (.heat, min r.wmax ((e - db).toNat / 5 + 1))
      else if e < -db then (.cool, min r.wmax ((-e - db).toNat / 5 + 1))
      else (.none, 0)

def heatPart : Direction × Nat → Direction × Nat
  | (.heat, w) => (.heat, w)
  | (.cool, _) => (.none, 0)
  | (.none, _) => (.none, 0)
def coolPart : Direction × Nat → Direction × Nat
  | (.cool, w) => (.cool, w)
  | (.heat, _) => (.none, 0)
  | (.none, _) => (.none, 0)

/-- R12: the rows of the base modes. -/
def ZoneRec.baseDemand (r : ZoneRec) (m : BaseMode) : Direction × Nat :=
  match m with
  | .off => (.none, 0)
  | .vent => (.none, 0)
  | .auto => r.fromError
  | .heatOnly => heatPart r.fromError
  | .coolOnly => coolPart r.fromError

/-- R12: direction and want before the restrictions on valve and damper. Under CURTAIN it is not asked (R11). -/
def ZoneRec.rawDemand (r : ZoneRec) : Direction × Nat :=
  match r.effMode with
  | .off => (.none, 0)
  | .vent => (.none, 0)
  | .auto => r.baseDemand .auto
  | .heatOnly => r.baseDemand .heatOnly
  | .coolOnly => r.baseDemand .coolOnly
  | .purge => r.baseDemand r.baseMode
  | .defog => (.heat, r.wmax)
  | .curtain => (r.direction, r.want)

/-- R12: the claim rank. -/
def ZoneRec.demandRank (r : ZoneRec) : Nat := if r.effMode = .defog then 3 else r.rank

/-- R14: an actuator that cannot serve: no node, or a node in OFFLINE or FAULT. -/
def State.cannotServe (s : State) (n : Option NodeId) : Bool :=
  match n with
  | none => true
  | some n => decide ((s.node n).state = .offline) || decide ((s.node n).state = .fault)

/-- R12 to R14: the zone's direction and want. -/
def State.demand (s : State) (z : Zone) : Direction × Nat :=
  let r := s.zone z
  match r.rawDemand with
  | (.heat, w) => if s.cannotServe r.valve then (.none, 0) else (.heat, w)
  | (.cool, w) => if s.cannotServe r.damper then (.none, 0) else (.cool, w)
  | (.none, _) => (.none, 0)

/-! ## Evaluation (R11) -/

/-- R11, first step: direction, want and claim rank are written. -/
def State.writeDemand (s : State) (z : Zone) : State :=
  let d := s.demand z
  s.modZone z (fun r => { r with direction := d.1, want := d.2, claimRank := r.demandRank })

/-- R11, second step: the zone's settlement (R52). -/
def State.settleZone (s : State) (z : Zone) : State :=
  let r := s.zone z
  s.setArb (s.arb.settle z r.direction r.want r.claimRank s.now)

/-- R11: an evaluation; under CURTAIN the third step alone; outside RUN or for an inactive zone nothing. The arbiter
answers the settlement, on which the zone takes its third step, and then sends its notices (R52). -/
def State.evaluate (s : State) (z : Zone) : State :=
  let r := s.zone z
  if s.op.state = .run ∧ r.active = true then
    if r.effMode = .curtain then s.zoneTargets z
    else (((s.writeDemand z).settleZone z).zoneTargets z).notices s.arb (some z)
  else s

/-! ## The mode stack (R26 to R29) -/

def ZoneRec.hasEntry (r : ZoneRec) (k : EntryKind) : Bool := r.stack.any (fun e => decide (e.kind = k))

/-- R28: the entry of a kind is removed from wherever it stands; its timer stops. -/
def ZoneRec.dropEntry (r : ZoneRec) (k : EntryKind) : ZoneRec :=
  { r with
    stack := r.stack.filter (fun e => !decide (e.kind = k))
    curtainTimer := if k = .curtain then none else r.curtainTimer
    defogTimer := if k = .defog then none else r.defogTimer }

/-- R27: a new entry on top. -/
def ZoneRec.pushEntry (r : ZoneRec) (k : EntryKind) (c : Option PurgeCause) (now : Time) : ZoneRec :=
  { r with stack := ⟨k, c, now⟩ :: r.stack }

/-- R29: the notice to the plant controller when the effective mode becomes or stops being PURGE. -/
def State.modeNotice (s : State) (before after : EffMode) : State :=
  if before = after then s
  else if after = .purge then s.purgeNotice true
  else if before = .purge then s.purgeNotice false
  else s

/-- R27, R28, R29: a change of a zone's stack with the notice it brings; the evaluation is the caller's. -/
def State.changeStack (s : State) (z : Zone) (f : ZoneRec → ZoneRec) : State :=
  (s.modZone z f).modeNotice (s.zone z).effMode (f (s.zone z)).effMode

/-- R29: a change of the stack, and the evaluation when it changes the effective mode (after the notice, log 12). -/
def State.changeMode (s : State) (z : Zone) (f : ZoneRec → ZoneRec) : State :=
  if (s.zone z).effMode = (f (s.zone z)).effMode then s.changeStack z f
  else (s.changeStack z f).evaluate z

/-- R27: the start of an override; a standing entry absorbs it. -/
def State.startOverride (s : State) (z : Zone) (k : EntryKind) (c : Option PurgeCause) : State :=
  if (s.zone z).hasEntry k then s else s.changeMode z (fun r => r.pushEntry k c s.now)

/-- R28: the end of an override. -/
def State.endOverride (s : State) (z : Zone) (k : EntryKind) : State :=
  if (s.zone z).hasEntry k then s.changeMode z (fun r => r.dropEntry k) else s

/-! ## Setpoint and base mode (R7 to R10) -/

/-- R7, R8: a temporary setpoint, with the hold timer from its full time. -/
def ZoneRec.panelSetpoint (r : ZoneRec) (v : Int) (holdUntil : Time) : ZoneRec :=
  { r with tempSetpoint := some v, holdTimer := some holdUntil }

/-- R8: the plan setpoint; any temporary setpoint goes with its hold timer. -/
def ZoneRec.planTo (r : ZoneRec) (v : Int) : ZoneRec :=
  { r with planSetpoint := v, tempSetpoint := none, holdTimer := none }

/-- R8: the setpoint change of a source. -/
def State.setpointChange (s : State) (src : Source) (v : Int) (r : ZoneRec) : ZoneRec :=
  match src with
  | .panel => r.panelSetpoint v (s.now + s.zones.tuning.holdTime * Config.minute)
  | .driver => r.planTo v
  | .service => r.planTo v

/-- R7: a change of the zone's setpoints, and the evaluation when S changes. -/
def State.changeSetpoint (s : State) (z : Zone) (f : ZoneRec → ZoneRec) : State :=
  if (s.zone z).setpoint = (f (s.zone z)).setpoint then s.modZone z f
  else (s.modZone z f).evaluate z

/-- R9: a base mode and perhaps setpoints: evaluated when S changes, or when the base mode changes and the top entry
is not CURTAIN (log 28). -/
def State.changePlan (s : State) (z : Zone) (m : BaseMode) (f : ZoneRec → ZoneRec) : State :=
  let old := s.zone z
  let new := { f old with baseMode := m }
  let t := s.setZone z new
  if old.setpoint ≠ new.setpoint ∨ (old.baseMode ≠ m ∧ old.effMode ≠ .curtain) then t.evaluate z else t

/-! ## Readings (R17, R18, R40) -/

/-- R40: the PURGE checks against a stored CO2: a start with cause AUTO, or the end of an AUTO entry. -/
def State.purgeCheck (s : State) (z : Zone) (co2 : Nat) : State :=
  let r := s.zone z
  let t := s.zones.tuning
  match r.stack.find? (fun e => decide (e.kind = .purge)) with
  | none =>
    if t.purgeOn ≤ co2 then
      (s.changeStack z (fun r => r.pushEntry .purge (some .auto) s.now)).raise .purgeAuto (some z.number)
    else s
  | some e =>
    if e.cause = some .auto ∧ co2 ≤ t.purgeOff then s.changeStack z (fun r => r.dropEntry .purge) else s

/-- R18: a failed read. -/
def State.failedRead (s : State) (z : Zone) : State :=
  let r := s.zone z
  if r.sensorStatus = .lost then s
  else if r.missed + 1 < 3 then s.setZone z { r with missed := r.missed + 1, sensorStatus := .missed }
  else
    ((s.setZone z { r with missed := 3, sensorStatus := .lost, flags := { r.flags with sensorLost := true } }).raise
      .sensorLost (some z.number)).evaluate z

/-- R17: a reading reported to the zone. -/
def State.takeReading (s : State) (z : Zone) (t : Int) (c : Nat) : State :=
  if -400 ≤ t ∧ t ≤ 800 ∧ c ≤ 5000 then
    let s := s.modZone z (fun r =>
      { r with temperature := some t, co2 := some c, sensorStatus := .ok, missed := 0 })
    (s.purgeCheck z c).evaluate z
  else s.failedRead z

/-- R16, R24: an outcome of a READ reaches an active zone in RUN alone. -/
def State.readFailed (s : State) (z : Zone) : State :=
  if s.op.state = .run ∧ (s.zone z).active = true then s.failedRead z else s
def State.readGood (s : State) (z : Zone) (t : Int) (c : Nat) : State :=
  if s.op.state = .run ∧ (s.zone z).active = true then s.takeReading z t c else s

/-! ## The loop (R15) -/

/-- R15: what the zone does at a loop expiry, the timer restarted for one loop period. -/
def State.loopExpiry (s : State) (z : Zone) : State :=
  let s := s.modZone z (fun r => { r with loopTimer := some (s.now + r.loopPeriod * Config.second) })
  match (s.zone z).sensor with
  | none => s.failedRead z
  | some n =>
    if (s.node n).state = .ready then
      if s.queued n .read = true ∨ s.inFlight n .read = true then s else s.askRead n (.zone z)
    else s.failedRead z

/-! ## Doors (R34 to R36) -/

/-- R34: DOOR OPEN in one zone. -/
def State.doorOpened (s : State) (d : Door) (z : Zone) : State :=
  let r := s.zone z
  if r.openDoors.getLsbD d.val then s
  else
    let t := s.setZone z { r with openDoors := r.openDoors ||| BitVec.twoPow 4 d.val }
    if r.openDoors = 0#4 then
      if r.hasEntry .curtain then t
      else
        t.changeMode z (fun r =>
          { r.pushEntry .curtain none s.now with
            curtainTimer := some (s.now + s.zones.tuning.curtainLimit * Config.second) })
    else t

/-- R35: DOOR CLOSE in one zone, with the recovery when the set empties. -/
def State.doorClosed (s : State) (d : Door) (z : Zone) : State :=
  let r := s.zone z
  if r.openDoors.getLsbD d.val then
    let left := r.openDoors &&& ~~~ BitVec.twoPow 4 d.val
    let s := s.setZone z { r with openDoors := left }
    if left = 0#4 then
      (s.endOverride z .curtain).modZone z (fun r =>
        { r with curtainSpent := false, loopTimer := some (s.now + Config.recoveryLoop) })
    else s
  else s

/-- R36: the curtain timer expires. -/
def State.curtainExpiry (s : State) (z : Zone) : State :=
  ((s.endOverride z .curtain).modZone z (fun r =>
    { r with curtainSpent := true, curtainTimer := none, flags := { r.flags with curtainExpired := true } })).raise
    .curtainExpired (some z.number)

/-! ## Flags (R19, R181) -/

/-- R19: none of the zone's valve, damper and blower nodes is in OFFLINE or FAULT. -/
def State.actuatorsSound (s : State) (z : Zone) : Bool :=
  let r := s.zone z
  let down := fun n : Option NodeId => match n with
    | none => false
    | some n => decide ((s.node n).state = .offline) || decide ((s.node n).state = .fault)
  !(down r.valve || down r.damper || down r.blower)

/-! ## Part states (R24) -/

/-- A change in every zone, in ascending number. -/
def State.eachZone (s : State) (f : State → Zone → State) : State := allZones.foldl f s

/-- R1, R2, R26: a record's run-time part at its reset values; the BASE entry's start time is the time given. -/
def ZoneRec.cleared (r : ZoneRec) (now : Time) : ZoneRec :=
  { r with
    tempSetpoint := none
    stack := [⟨.base, none, now⟩]
    openDoors := 0#4
    curtainSpent := false
    temperature := none
    co2 := none
    sensorStatus := .ok
    missed := 0
    direction := .none
    want := 0
    claimRank := r.rank
    flags := ⟨false, false, false, false⟩
    loopTimer := none
    holdTimer := none
    defogTimer := none
    curtainTimer := none }

/-- R24, R30: a record on entry to STOPPING: the BASE entry keeps its start time, and the flags are kept. -/
def ZoneRec.quieted (r : ZoneRec) : ZoneRec :=
  { r with
    tempSetpoint := none
    stack := r.stack.filter (fun e => decide (e.kind = .base))
    openDoors := 0#4
    curtainSpent := false
    temperature := none
    co2 := none
    sensorStatus := .ok
    missed := 0
    direction := .none
    want := 0
    claimRank := r.rank
    loopTimer := none
    holdTimer := none
    defogTimer := none
    curtainTimer := none }

/-- R24: every zone on entry to STOPPING. -/
def State.quietZones (s : State) : State :=
  s.eachZone (fun s z => s.modZone z ZoneRec.quieted)

/-- R24: an active zone on entry to RUN: its loop timer, and ACTUATOR_FAULT if an actuator is down. -/
def State.startZone (s : State) (z : Zone) : State :=
  if (s.zone z).active = true then
    s.modZone z (fun r =>
      { r with
        loopTimer := some (s.now + z.number * Config.loopStagger)
        flags := { r.flags with actuatorFault := r.flags.actuatorFault || !s.actuatorsSound z } })
  else s

/-- R24, R161: entry to RUN: every loop timer started, then each active zone evaluated, in ascending zone number
(DESIGN CHOICE, log 41: the rules give no order). -/
def State.startZones (s : State) : State :=
  (s.eachZone State.startZone).eachZone State.evaluate

end Sys2Proof.Machine
end

