-- ==== Sys2Proof/Machine/NodeStates.lean ====
section
/-! DEFINITION. Entry to RUN (R161), and the node manager's changes of a node's state with the notices they bring:
OFFLINE (R144), FAULT (R146), STARTING (R148, R149) and BUSY (R132). Each entry is a record part, which writes the
record and the queue, and a notice part (R151), since an outcome report stands between the two. -/
namespace Sys2Proof.Machine

/-! ## The end of commissioning (R160, R161) -/

/-- R145: a node's revival timer starts if the node is OFFLINE. -/
def State.startRevival (s : State) (n : NodeId) : State :=
  if (s.node n).state = .offline then
    s.modNode n (fun r => { r with revivalTimer := some (s.now + Config.revivalPeriod) })
  else s

/-- A change for every node, in ascending address order. -/
def State.eachNode (s : State) (f : State → NodeId → State) : State := allNodes.foldl f s

/-- R153, R160: the done marks and the work are cleared as the part leaves COMMISSIONING. -/
def State.clearMarks (s : State) : State :=
  s.setOp { s.op with done := Vector.replicate 31 false, work := Vector.replicate 31 .idle }

/-- R90, R106, R108: the plant controller on entry to RUN. -/
def State.plantRun (s : State) : State :=
  let s := (s.refreshCool).seqDecide
  let s := s.heaterStart
  let p := { s.plant with purgeCount := 0 }
  (s.setPlant { p with intakeTarget := some p.runIntake }).intakeCompare

/-- R161: entry to RUN. The zones' first evaluations stand before the plant controller's decisions and its intake MOVE
(DESIGN CHOICE, log 56: R161 gives no order). -/
def State.enterRun (s : State) : State :=
  let s := (s.enterPart .run).clearMarks
  let s := s.startZones
  let s := s.plantRun
  let s := s.eachNode State.startRevival
  s.raise .commissionDone none

/-- R159, R162: the commissioning sequence goes on. A RESTART ends it at once, and the part stays in COMMISSIONING until the
soft reset (DEDUCED, log 61). -/
def State.commissions (s : State) : Bool := decide (s.op.state = .commissioning) && decide (s.op.soft = .none)

/-- R161: every configured node's done mark is set. -/
def State.allDone (s : State) : Bool :=
  allNodes.all (fun n => !(s.node n).configured || s.op.done[n])

/-- R161: tested at each setting of a mark. -/
def State.testCommissioned (s : State) : State :=
  if s.commissions = true ∧ s.op.haltSent = true ∧ s.allDone = true then s.enterRun else s

/-- R160: a node's done mark is set. -/
def State.markDone (s : State) (n : NodeId) : State :=
  ((s.setOp { s.op with done := s.op.done.set n.val true n.isLt }).setWork n .idle).testCommissioned

/-- R160: a node that enters FAULT or OFFLINE during commissioning has its done mark set. The operating-state controller
takes the change after the owner and the condition block, which R151 orders among themselves (DESIGN CHOICE, log 60). -/
def State.opNodeDown (s : State) (n : NodeId) : State :=
  if s.commissions = true ∧ (s.node n).configured = true ∧ s.op.done[n] = false then s.markDone n else s

/-! ## The owner of a node that goes down (R19, R88, R105) -/

/-- R88, R179: the sequencer enters FAULT; COMP_FAULT carries the address of the node bound as compressor that went
down, which a PLANT_DEF taken in STOPPED may since have renamed (DEDUCED, log 42). -/
def State.seqFault (s : State) (n : NodeId) : State :=
  (s.enterSeq .fault).refreshCool.raise .compFault (some n.address)

/-- R105: the heater when its node enters FAULT or OFFLINE. -/
def State.heaterNodeDown (s : State) : State :=
  match s.plant.heater.state with
  | .igniting => s.enterHeater .off
  | .running => (s.enterHeater .off).refreshHeat
  | .stopping => s.enterHeater .off
  | .off => s
  | .igniteWait => s
  | .lockedOut => s

/-- R88, R105, R107: the plant controller hears that a plant node entered FAULT or OFFLINE. -/
def State.plantNodeDown (s : State) (n : NodeId) (role : PlantRole) : State :=
  match role with
  | .compressor => if s.plant.seq.state = .fault then s else (s.seqFault n).restReport
  | .auxHeater => s.heaterNodeDown.restReport
  | .intake => s

/-- R19: the zone hears that a bound node entered FAULT or OFFLINE; during COMMISSIONING nothing changes (R24). -/
def State.zoneNodeDown (s : State) (z : Zone) (role : ZoneRole) : State :=
  if role = .sensor ∨ s.op.state = .commissioning then s
  else (s.modZone z (fun r => { r with flags := { r.flags with actuatorFault := true } })).evaluate z

/-- R151: the owner is told of an entry to OFFLINE or FAULT. -/
def State.downNotice (s : State) (n : NodeId) : State :=
  match (s.node n).binding with
  | none => s
  | some (.zone z role) => s.zoneNodeDown z role
  | some (.plant role) => s.plantNodeDown n role

/-! ## OFFLINE (R144) -/

/-- R144: the record and the queue at the entry to OFFLINE. -/
def State.offlineRecord (s : State) (n : NodeId) : State :=
  let s := s.modNode n (fun r =>
    { r with
      state := .offline
      pending := none
      busySince := none
      busyFromFault := false
      haltOwed := false
      wakeTimer := none
      pollTimer := none
      travelTimer := none
      revivalTimer := if s.op.state = .run then some (s.now + Config.revivalPeriod) else none })
  s.dropEntries n (fun _ => true)

/-- R151: the owner, the condition, and the operating-state controller are told. -/
def State.offlineNotices (s : State) (n : NodeId) : State :=
  ((s.downNotice n).raise .nodeOffline (some n.address)).opNodeDown n

/-! ## FAULT (R146) -/

/-- R146, steps 1 to 4: reason, pending move and entries, timers, and the HALT of a travel timeout (R143). -/
def State.faultRecord (s : State) (n : NodeId) (why : FaultReason) : State :=
  let s := s.modNode n (fun r =>
    { r with
      state := .fault
      faultReason := some why
      pending := none
      busySince := none
      busyFromFault := false
      retryOwed := none
      retryStep := none
      haltOwed := false
      wakeTimer := none
      pollTimer := none
      travelTimer := none
      revivalTimer := none })
  let s := s.dropEntries n (fun _ => true)
  if why = .travelTimeout then s.askHalt n else s

/-- R146 step 5, R151. -/
def State.faultNotices (s : State) (n : NodeId) : State :=
  ((s.downNotice n).raise .nodeFault (some n.address)).opNodeDown n

/-- R146: entry to FAULT. -/
def State.enterFault (s : State) (n : NodeId) (why : FaultReason) : State :=
  (s.faultRecord n why).faultNotices n

/-- R88, R146: the plant controller asks for FAULT with reason UNEXPECTED_VALUE. -/
def State.unexpectedValue (s : State) (n : NodeId) : State :=
  if (s.node n).state = .unknown ∨ (s.node n).state = .fault then s else s.enterFault n .unexpectedValue

/-! ## STARTING (R145, R148, R149) -/

/-- R148, R149: the record as a start-up begins, with queued READs and STATUSes removed (R137). The pending move is dropped,
as R141 and R149 have it, also a MOVE 1 of an aux heater in IGNITING, which R98 has sent in its turn (DESIGN CHOICE,
log 65). -/
def State.startingRecord (s : State) (n : NodeId) (c : StartCause) (wakes : Nat) (step : StartStep) : State :=
  let s := s.modNode n (fun r =>
    { r with
      state := .starting
      cause := some c
      startStep := step
      wakeCount := wakes
      failCount := 0
      pending := none
      busySince := none
      busyFromFault := false
      retryOwed := none
      retryStep := none
      wakeTimer := some (s.now + Config.wakePeriod)
      pollTimer := none
      travelTimer := none
      revivalTimer := none })
  s.dropEntries n (fun c => decide (c = .read) || decide (c = .status))

/-- R148: WAKEs and IDENTs of a commissioning start-up have origin COMMISSION, of any other WAKE. -/
def startOrigin : Option StartCause → Origin
  | some .commission => .commission
  | some .restart => .wake
  | some .revival => .wake
  | some .retry => .wake
  | none => .wake

/-- R148: the WAKE or IDENT of the start-up's present step is asked. -/
def State.askStart (s : State) (n : NodeId) : State :=
  match (s.node n).startStep with
  | .wake => s.askOwn n .wake (startOrigin (s.node n).cause)
  | .ident => s.askOwn n .ident (startOrigin (s.node n).cause)

/-- R148: a start-up begins. -/
def State.startUp (s : State) (n : NodeId) (c : StartCause) : State :=
  (s.startingRecord n c 0 .wake).askStart n

/-- R145: a revival. A reply with IN_START is the start-up's first WAKE and counts 1, and the next WAKE is asked at the
wake timer's expiry (log 26); without it the start-up is at its IDENT step. -/
def State.revive (s : State) (n : NodeId) (inStart : Bool) : State :=
  if inStart then s.startingRecord n .revival 1 .wake
  else (s.startingRecord n .revival 0 .ident).askStart n

/-- R148: a failed or IN_START answer to a WAKE or IDENT: one more counted; at 30 the node enters OFFLINE. After an
IDENT the start-up returns to its WAKE step, and the wake timer restarts. -/
def State.startFailed (s : State) (n : NodeId) (afterIdent : Bool) : State :=
  let s := s.modNode n (fun r =>
    { r with
      wakeCount := r.wakeCount + 1
      startStep := if afterIdent then .wake else r.startStep
      wakeTimer := if afterIdent then some (s.now + Config.wakePeriod) else r.wakeTimer })
  if Config.wakeLimit ≤ (s.node n).wakeCount then (s.offlineRecord n).offlineNotices n else s

/-! ## BUSY (R132) -/

/-- R125: the travel limit of a kind, in seconds; a SENSOR runs under the VALVE limit. -/
def FieldTuning.travelLimit (t : FieldTuning) : Option NodeKind → Nat
  | some .blower => t.travelBlower
  | some .damper => t.travelDamper
  | some .valve => t.travelValve
  | some .compressor => t.travelCompressor
  | some .auxheat => t.travelAuxheat
  | some .sensor => t.travelValve
  | none => t.travelValve

/-- R132: a queued MOVE leaves the queue and becomes the pending move. -/
def State.pendQueued (s : State) (n : NodeId) : State :=
  match s.nodes.queue.find? (fun e => decide (e.node = some n) && decide (e.cmd = .move)) with
  | none => s
  | some e =>
    (s.dropEntries n (fun c => decide (c = .move))).modNode n (fun r => { r with pending := some ⟨e.argument, e.origin⟩ })

/-- R132: entry to BUSY; no block acts on the notice of it. -/
def State.enterBusy (s : State) (n : NodeId) (fromFault : Bool) : State :=
  (s.modNode n (fun r =>
    { r with
      state := .busy
      busySince := some s.now
      busyFromFault := fromFault
      pollTimer := some (s.now + s.nodes.tuning.pollInterval * Config.ms)
      travelTimer := some (s.now + s.nodes.tuning.travelLimit r.kind * Config.second) })).pendQueued n

end Sys2Proof.Machine
end

