-- ==== Sys2Proof/Machine/PlantReports.lean ====
section
/-! DEFINITION. What the plant controller and a zone do on the node manager's reports: an entry to READY (R19, R79,
R89, R90, R98, R104, R105, R107), the outcome of a MOVE (R79, R97, R98) and the outcome of a STATUS (R87, R90, R100,
R106). -/
namespace Sys2Proof.Machine

/-- R151: a return from OFFLINE or FAULT: by the state left, or at the end of a start-up with cause REVIVAL or RETRY. -/
def isReturn (left : NodeState) (c : Option StartCause) : Bool :=
  match left with
  | .offline => true
  | .fault => true
  | .starting => decide (c = some .revival) || decide (c = some .retry)
  | .ready => false
  | .busy => false
  | .unknown => false

/-- How a MOVE ended (R134, R144, R149). -/
inductive MoveResult
  | moving | alreadyThere | busyNotTaken | notTaken | failed | restarted
  deriving DecidableEq, Repr

/-- A node's value is this number. -/
def State.valueIs (s : State) (n : NodeId) (v : Nat) : Bool := decide ((s.node n).value = some (.num v))

/-- A node's value is a number above 0. -/
def State.valueAbove0 (s : State) (n : NodeId) : Bool :=
  match (s.node n).value with
  | some (.num v) => decide (0 < v)
  | some (.reading _ _) => false
  | none => false

/-- A MOVE with an argument above 0 is queued for the node. -/
def State.queuedAbove0 (s : State) (n : NodeId) : Bool :=
  match s.queuedMove n with
  | some a => decide (0 < a)
  | none => false

/-- A MOVE with this argument is queued or in flight for the node. -/
def State.moveUnderWay (s : State) (n : NodeId) (a : Nat) : Bool :=
  decide (s.queuedMove n = some a) ||
  match s.line.inFlight with
  | none => false
  | some t => decide (t.node = some n) && decide (t.cmd = .move) && decide (t.argument = a)

/-- The node is READY and no MOVE for it is queued, pending or in flight. -/
def State.settled (s : State) (n : NodeId) : Bool := decide ((s.node n).state = .ready) && !s.moveLeft n

/-! ## The sequencer -/

/-- R89: the sequencer leaves FAULT. -/
def State.leaveFault (s : State) (n : NodeId) : State :=
  if s.valueAbove0 n || s.queuedAbove0 n then ((s.askMove n 0 .plant).enterSeq .disengaging).refreshCool
  else (s.enterSeq .lockout).refreshCool

/-- R90, R164: the watch of a compressor that went BUSY on its initial MOVE ends when the node is READY: at value 0 in
LOCKOUT, whatever MOVE is left; above it, with no MOVE left, in FAULT. R90 gives no end for a node in READY that has no
value recorded: the sequencer stays as it is, and the watch goes on (DESIGN CHOICE, log 59). -/
def State.watchReport (s : State) (n : NodeId) : State :=
  if s.plant.seq.watch = true ∧ (s.plant.seq.state = .off ∨ s.plant.seq.state = .lockout) ∧ (s.node n).state = .ready then
    if s.valueIs n 0 then s.enterSeq .lockout
    else if s.valueAbove0 n = true ∧ s.moveLeft n = false then s.unexpectedValue n
    else s
  else s

/-- R79: a report on the compressor node against the step in flight: completion, failure, or no end yet. In STOPPING
a node that is not at 0 is sent its own MOVE 0 instead (R90, log 15). A node with no value recorded counts as one at a
value other than the target (DESIGN CHOICE, log 63: R79 compares values alone). -/
def State.seqReport (s : State) (n : NodeId) : State :=
  if s.settled n then
    match s.plant.seq.state.stepTarget with
    | some t =>
      if s.valueIs n t then s.completeStep.restReport
      else if s.op.state = .stopping then s
      else s.unexpectedValue n
    | none => s
  else s

/-- R90: during STOPPING, a STATUS shows that the broadcast MOVE 0 was not taken. One still queued or in flight stands
for the node's own MOVE 0 (log 49). -/
def State.seqStopAgain (s : State) (n : NodeId) : State :=
  if s.op.state = .stopping ∧ s.plant.seq.state = .disengaging ∧ s.settled n = true ∧ s.valueAbove0 n = true ∧
      s.broadcastStands = false then
    s.askMove n 0 .shutdown
  else s

/-- R78, R79, R80 to R84, R89, R90: the compressor node enters READY. -/
def State.compressorNodeReady (s : State) (n : NodeId) (left : NodeState) (c : Option StartCause) : State :=
  if s.plant.seq.state = .fault then (if isReturn left c then s.leaveFault n else s)
  else
    let s := (s.seqReport n).watchReport n
    (if left = .busy then s.seqStopAgain n else s).seqDecide

/-- R87: the outcome of a steady-state STATUS that was answered. One asked before the present RUNNING(k) was entered
changes nothing (log 35). -/
def State.seqSteadyCheck (s : State) (n : NodeId) (busy : Bool) (value : Nat) : State :=
  match s.plant.seq.state with
  | .running k => if s.plant.seq.checkAsked = true ∧ (busy = true ∨ value ≠ k) then s.unexpectedValue n else s
  | _ => s

/-! ## The heater -/

/-- R104, R106: STOPPING against the node: ended at value 0, MOVE 0 asked again at value 1, unless the broadcast MOVE 0
of a shutdown still stands for it (log 49). With no value recorded neither happens, and the heater waits on for a report that
shows one (DESIGN CHOICE, log 64: R104 and R106 speak of the values 0 and 1 alone). -/
def State.heaterStopReport (s : State) (n : NodeId) (o : Origin) : State :=
  if s.settled n then
    if s.valueIs n 0 then ((s.enterHeater .off).heaterStart).restReport
    else if s.valueIs n 1 = true ∧ s.broadcastStands = false then s.askMove n 0 o
    else s
  else s

/-- R98: the ending of an ignition, if the report shows one. -/
def State.ignitionReport (s : State) (n : NodeId) : State :=
  let ready := decide ((s.node n).state = .ready)
  if s.plant.heater.stopMark && ready && s.valueIs n 1 && s.moveUnderWay n 0 then s.enterHeater .stopping
  else if s.settled n then
    if s.valueIs n 1 then
      if s.plant.heater.stopMark then (s.enterHeater .stopping).heaterStopReport n .plant else s.heaterLit
    else if s.plant.heater.stopMark then s.enterHeater .off
    else s.heaterFailure
  else s

/-- R100: the outcome of a steady-state STATUS of the aux node that was answered: not busy at value 0 is a flame-out.
One asked before the present RUNNING was entered changes nothing (log 35). -/
def State.flameCheck (s : State) (busy : Bool) (value : Nat) : State :=
  if s.plant.heater.state = .running ∧ s.plant.heater.checkAsked = true ∧ busy = false ∧ value = 0 then s.flameOut
  else s

/-- R98, R104: the outcome of a MOVE of the aux node, by the heater's state: a report in which the node is READY, in
every part state (DEDUCED, log 14). -/
def State.heaterReport (s : State) (n : NodeId) : State :=
  match s.plant.heater.state with
  | .igniting => s.ignitionReport n
  | .stopping => s.heaterStopReport n .plant
  | .off => s
  | .running => s
  | .igniteWait => s
  | .lockedOut => s

/-- R96, R98, R100, R104, R105: the aux node enters READY. A return with no value recorded counts as one at value 0
(DESIGN CHOICE, log 51: R105 speaks of the values 1 and 0 alone). -/
def State.auxNodeReady (s : State) (n : NodeId) (left : NodeState) (c : Option StartCause) : State :=
  match s.plant.heater.state with
  | .igniting => (s.ignitionReport n).heaterStart
  | .stopping => s.heaterStopReport n .plant
  | .running => if s.valueIs n 0 then s.flameOut else s
  | .off =>
    if isReturn left c = true ∧ (s.valueIs n 1 = true ∨ s.queuedMove n = some 1) then
      (s.askMove n 0 .plant).enterHeater .stopping
    else s.heaterStart
  | .igniteWait => if isReturn left c = true ∧ s.valueIs n 1 = true then s.askMove n 0 .plant else s
  | .lockedOut => if isReturn left c = true ∧ s.valueIs n 1 = true then s.askMove n 0 .plant else s

/-! ## Reports by role -/

/-- The plant controller hears that a plant node entered READY. -/
def State.plantNodeReady (s : State) (n : NodeId) (role : PlantRole) (left : NodeState) (c : Option StartCause) :
    State :=
  match role with
  | .compressor => s.compressorNodeReady n left c
  | .auxHeater => s.auxNodeReady n left c
  | .intake => s.intakeNodeReady n

/-- R19: a zone hears that a bound node entered READY. -/
def State.zoneNodeReady (s : State) (z : Zone) (role : ZoneRole) (left : NodeState) (c : Option StartCause) : State :=
  if role = .sensor ∨ s.op.state = .commissioning then s
  else if isReturn left c then s.evaluate z
  else if left = .starting ∧ c = some .restart then s.zoneTargets z
  else s

/-- R151: the owner is told of an entry to READY. -/
def State.readyNotice (s : State) (n : NodeId) (left : NodeState) (c : Option StartCause) : State :=
  match (s.node n).binding with
  | none => s
  | some (.zone z role) => s.zoneNodeReady z role left c
  | some (.plant role) => s.plantNodeReady n role left c

/-- R134, R90, R97, R106: the plant controller is told the outcome of a MOVE of a plant node. A watched compressor
that answers its MOVE with "already there" has returned to READY; one whose MOVE failed stands in READY with no MOVE
left, unless it was the initial MOVE, which is asked again at once (R160; DEDUCED, log 23). -/
def State.plantMoved (s : State) (n : NodeId) (role : PlantRole) (t : Txn) (res : MoveResult) : State :=
  let wentBusy := decide (t.origin = .commission) && (decide (res = .moving) || decide (res = .busyNotTaken))
  match role with
  | .compressor =>
    let s := (if wentBusy then s.setSequencer { s.plant.seq with watch := true } else s).seqReport n
    if res = .alreadyThere ∨ (res = .failed ∧ t.origin ≠ .commission) then s.watchReport n else s
  | .auxHeater =>
    if wentBusy then s.enterHeater .stopping
    else if res = .notTaken ∧ s.plant.heater.state = .igniting ∧ t.argument = 1 then s.enterHeater .off
    else s.heaterReport n
  | .intake => s

/-- R131, R87, R90, R100, R106: the plant controller is told the answered outcome of a STATUS it asked for, by a
steady-state check (origin PLANT) or during a shutdown (origin SHUTDOWN). -/
def State.plantStatus (s : State) (n : NodeId) (role : PlantRole) (t : Txn) (busy : Bool) (value : Nat) : State :=
  let steady := t.origins.contains .plant
  let stopping := t.origins.contains .shutdown
  match role with
  | .compressor =>
    let s := if steady then s.seqSteadyCheck n busy value else s
    if stopping ∧ s.op.state = .stopping then (s.seqReport n).seqStopAgain n else s
  | .auxHeater =>
    let s := if steady then s.flameCheck busy value else s
    if stopping ∧ s.op.state = .stopping ∧ s.plant.heater.state = .stopping then s.heaterStopReport n .shutdown else s
  | .intake => s

end Sys2Proof.Machine
end

