-- ==== Sys2Proof/Machine/Outcomes.lean ====
section
/-! DEFINITION. What the node manager makes of a transaction's outcome (R130 to R134, R142, R144, R145, R147 to R149),
and how the commissioning of a node goes on (R159, R160). -/
namespace Sys2Proof.Machine

/-! ## Commissioning a node -/

/-- R160: the argument of a node's initial MOVE. -/
def State.initialTarget (s : State) (n : NodeId) : Nat :=
  if (s.node n).binding = some (.plant .intake) then s.plant.minFreshAir else 0

/-- R160: the initial MOVE is asked; a refusal leaves it owed (R138). -/
def State.initialMove (s : State) (n : NodeId) : State :=
  (s.setWork n .moveAsked).askMove n (s.initialTarget n) .commission

/-- R159, R160: a node's commissioning looked at after the node manager has handled an outcome or a change: a start-up
that waited for the end of a busy period begins; the end of a start-up leads to the initial MOVE, or, for a SENSOR, to
the done mark. A busy period that ends in a restart is waited out, READY and all, before the start-up of commissioning
begins (DESIGN CHOICE, log 45). -/
def State.opNodeCheck (s : State) (n : NodeId) : State :=
  if s.commissions = true ∧ (s.node n).state = .ready then
    match s.work n with
    | .waitBusy => (s.setWork n .startUp).startUp n .commission
    | .startUp => if (s.node n).kind = some .sensor then s.markDone n else s.initialMove n
    | .moveDone => s
    | .moveAsked => s
    | .moveOwed => s
    | .idle => s
  else s

/-- R160: a node is settled: READY with no MOVE left after its initial MOVE has had an outcome. -/
def State.opSettled (s : State) (n : NodeId) : State :=
  if s.commissions = true ∧ s.work n = .moveDone ∧ (s.node n).state = .ready ∧ s.moveLeft n = false then
    s.markDone n
  else s

/-- R160: every node settled by an event has its done mark set: the one that the event is of, and one whose last queued
MOVE has been displaced by an URGENT request of the event (R138). -/
def State.opFollow (s : State) : State :=
  if s.commissions = true then s.eachNode State.opSettled else s

/-- R134, R160: the operating-state controller is told the outcome of a MOVE with origin COMMISSION. A failed one is
asked again at once while the node is READY. -/
def State.opMoved (s : State) (n : NodeId) (res : MoveResult) : State :=
  if s.commissions = true ∧ s.op.done[n] = false then
    if res = .failed then (if (s.node n).state = .ready then s.initialMove n else s) else s.setWork n .moveDone
  else s

/-! ## Reports of an outcome -/

/-- R16: a READ reported as a failure reaches the zones that are told of it; a STATUS reported so changes nothing at
the plant controller (R87, R100). -/
def State.reportFailure (s : State) (t : Txn) : State :=
  if t.cmd = .read then
    t.origins.foldl (fun s o => match o with
      | .zone z => s.readFailed z
      | _ => s) s
  else s

/-- R16: a reading goes to the zones that are told of it. -/
def State.reportReading (s : State) (t : Txn) (temp : Int) (co2 : Nat) : State :=
  t.origins.foldl (fun s o => match o with
    | .zone z => s.readGood z temp co2
    | _ => s) s

/-- R134: the outcome of a MOVE goes to the plant controller for a plant node, and to the operating-state controller
for origin COMMISSION, in that order (DESIGN CHOICE, log 60). A zone takes no notice of it. -/
def State.reportMove (s : State) (t : Txn) (n : NodeId) (res : MoveResult) : State :=
  let s := match (s.node n).binding with
    | some (.plant role) => s.plantMoved n role t res
    | some (.zone _ _) => s
    | none => s
  if t.origin = .commission then s.opMoved n res else s

/-- R131: the answered outcome of a STATUS that the plant controller asked for. -/
def State.reportStatus (s : State) (t : Txn) (n : NodeId) (busy : Bool) (value : Nat) : State :=
  match (s.node n).binding with
  | some (.plant role) => s.plantStatus n role t busy value
  | some (.zone _ _) => s
  | none => s

/-! ## A failed transaction (R144, R147, R148) -/

/-- R144: in READY or BUSY: one more in a row; the third puts the node in OFFLINE. The record is written first, then
the outcome is reported, then the notices are sent (R151). -/
def State.failedActive (s : State) (t : Txn) (n : NodeId) : State :=
  let s := s.modNode n (fun r => { r with failCount := r.failCount + 1 })
  let offline := decide (Config.failLimit ≤ (s.node n).failCount)
  let s := if offline then s.offlineRecord n else s
  let s := s.reportFailure t
  let s := if t.cmd = .move then s.reportMove t n .failed else s
  if offline then s.offlineNotices n else s

/-- R130 step 1. -/
def State.outcomeFailed (s : State) (t : Txn) (n : NodeId) : State :=
  match (s.node n).state with
  | .unknown => s
  | .ready => s.failedActive t n
  | .busy => s.failedActive t n
  | .starting =>
    if t.cmd = .wake then s.startFailed n false
    else if t.cmd = .ident then s.startFailed n true
    else s
  | .offline => s
  | .fault => if t.origins.contains .retry then s.modNode n (fun r => { r with retryStep := none }) else s

/-! ## Replies in READY and BUSY -/

/-- R130: a reply puts the node in FAULT: the record, the report of the outcome as a failure, the notices. -/
def State.replyFault (s : State) (t : Txn) (n : NodeId) (why : FaultReason) : State :=
  ((s.faultRecord n why).reportFailure t).faultNotices n

/-- R149: the node has restarted on its own. -/
def State.replyRestart (s : State) (t : Txn) (n : NodeId) : State :=
  let s := s.startingRecord n .restart 0 .wake
  let s := s.reportFailure t
  let s := if t.cmd = .move then s.reportMove t n .restarted else s
  s.askStart n

/-- R130 step 6: whether a number lies in the range of a kind's target (0 for a SENSOR). -/
def valueFits (k : Option NodeKind) (v : Nat) : Bool :=
  match k with
  | some .blower => decide (v ≤ 100)
  | some .damper => decide (v ≤ 100)
  | some .valve => decide (v ≤ 100)
  | some .compressor => decide (v ≤ 4)
  | some .auxheat => decide (v ≤ 1)
  | some .sensor => decide (v = 0)
  | none => false

/-- R131: value and node target from a STATUS. A SENSOR's value stays its last reading (log 20). -/
def NodeRec.withStatus (r : NodeRec) (value target : Nat) : NodeRec :=
  { r with
    value := (if r.kind = some .sensor then r.value else some (Value.num value))
    nodeTarget := some target }

/-- R142, steps 1 to 3: the busy period ends: READY, and the pending move is released or dropped. -/
def State.endBusy (s : State) (n : NodeId) : State :=
  let r := s.node n
  let s := s.setNode n
    { r with
      state := .ready, pending := none, busySince := none, busyFromFault := false, pollTimer := none
      travelTimer := none }
  match r.pending with
  | none => s
  | some p =>
    if r.value = some (Value.num p.argument) then s
    else s.request ⟨some n, .move, p.argument, s.plantBound n, p.origin, []⟩

/-- R142 step 4, R151: the owner is told of the READY that ended a busy period, unless the report of the outcome has
put the node in another state. -/
def State.stillNotice (s : State) (n : NodeId) (fromFault : Bool) : State :=
  if (s.node n).state = .ready then s.readyNotice n (if fromFault then .fault else .busy) none else s

/-- R131, R142, R151: a good STATUS reply: the record, the outcome to the owner that asked, the notice of READY. -/
def State.statusReply (s : State) (t : Txn) (n : NodeId) (busy : Bool) (value target : Nat) : State :=
  let before := s.node n
  let s := s.modNode n (fun r => r.withStatus value target)
  if busy then (if before.state = .ready then s.enterBusy n false else s).reportStatus t n busy value
  else if before.state = .busy then
    ((s.endBusy n).reportStatus t n busy value).stillNotice n before.busyFromFault
  else s.reportStatus t n busy value

/-- R131: a good READ reply. The reading is the node's value even where the zone rejects it as out of range (DEDUCED,
log 43: R124 has the last good reading there). -/
def State.readReply (s : State) (t : Txn) (n : NodeId) (busy : Bool) (temp : Int) (co2 : Nat) : State :=
  let s := s.modNode n (fun r => { r with value := some (.reading temp co2) })
  let s := if busy = true ∧ (s.node n).state = .ready then s.enterBusy n false else s
  s.reportReading t temp co2

/-- R134: the taken-target fits the flags: the argument when the node says it took the move, 0xFF when, by SEQUENCE, it
says it did not. -/
def Txn.fitsTaken (t : Txn) (seq : Bool) (taken : Byte) : Bool :=
  decide (taken = if seq then 0xFF#8 else byteOf t.argument)

/-- R134: the node moves to the target it has taken. -/
def NodeRec.movesTo (r : NodeRec) (a : Nat) : NodeRec := { r with target := some a }
/-- R134: the node stands already at the target it has taken. -/
def NodeRec.standsAt (r : NodeRec) (a : Nat) : NodeRec := { r with target := some a, value := some (.num a) }

/-- R134: a good MOVE reply of a node in READY or BUSY: the rows of the table. A taken-target that does not fit the flags
is data out of form (R130 step 6). -/
def State.moveReply (s : State) (t : Txn) (n : NodeId) (busy seq : Bool) (taken : Byte) : State :=
  if t.fitsTaken seq taken then
    match busy, seq with
    | true, false => ((s.modNode n (fun r => r.movesTo t.argument)).enterBusy n false).reportMove t n .moving
    | false, false => (s.modNode n (fun r => r.standsAt t.argument)).reportMove t n .alreadyThere
    | true, true =>
      ((s.modNode n (fun r => { r with pending := some ⟨t.argument, t.origin⟩ })).enterBusy n false).reportMove t n
        .busyNotTaken
    | false, true =>
      if (s.node n).kind = some .auxheat then s.reportMove t n .notTaken else s.replyFault t n .refusedMove
  else s.replyFault t n .illegalReply

/-- R134: a good MOVE reply of a node in STARTING, whose MOVE was in flight as the start-up began. The record is written
and a refused move faults; the node goes on with its start-up, from which R128 leads to no BUSY (DEDUCED, log 19). -/
def State.moveReplyStarting (s : State) (t : Txn) (n : NodeId) (busy seq : Bool) (taken : Byte) : State :=
  if t.fitsTaken seq taken then
    match busy, seq with
    | true, false => s.modNode n (fun r => r.movesTo t.argument)
    | false, false => s.modNode n (fun r => r.standsAt t.argument)
    | true, true => s
    | false, true => if (s.node n).kind = some .auxheat then s else s.replyFault t n .refusedMove
  else s.replyFault t n .illegalReply

/-- R186: a temperature from its two characters, signed; a CO2 from its two, unsigned. -/
def readingTemp (hi lo : Byte) : Int := (joinBytes hi lo).toInt
def readingCo2 (hi lo : Byte) : Nat := (joinBytes hi lo).toNat

/-- R130, steps 3 to 7, for a node in READY or BUSY. -/
def State.replyActive (s : State) (t : Txn) (n : NodeId) (st : Byte) (data : List Byte) : State :=
  if stInStart st = true ∧ t.cmd ≠ .wake then s.replyRestart t n
  else if stFault st then s.replyFault t n .nodeReported
  else if stIllegal st || stRange st then s.replyFault t n .illegalReply
  else
    match t.cmd, data with
    | .status, [v, g] =>
      if valueFits (s.node n).kind v.toNat && valueFits (s.node n).kind g.toNat then
        s.statusReply t n (stBusy st) v.toNat g.toNat
      else s.replyFault t n .illegalReply
    | .read, [th, tl, ch, cl] => s.readReply t n (stBusy st) (readingTemp th tl) (readingCo2 ch cl)
    | .move, [taken] => s.moveReply t n (stBusy st) (stSequence st) taken
    | _, _ => s

/-! ## Replies in STARTING (R148) -/

/-- R149: the restore of the node's last taken target, if one is recorded and no MOVE for the node is queued. -/
def State.restore (s : State) (n : NodeId) : State :=
  match (s.node n).target with
  | none => s
  | some g =>
    if s.queued n .move then s else s.request ⟨some n, .move, g, s.plantBound n, .restore, []⟩

/-- R148, R149: a start-up ends in READY. -/
def State.startEnds (s : State) (n : NodeId) (version : Byte) : State :=
  let c := (s.node n).cause
  let s := s.modNode n (fun r => { r with state := .ready, version := some version, wakeTimer := none })
  let s := if c = some .restart ∨ c = some .revival ∨ c = some .retry then s.restore n else s
  s.readyNotice n .starting c

/-- R148: a reply for a node in STARTING. A STATUS, READ or MOVE that was in flight as the start-up began writes what it
says of the record, and BUSY changes no state (DEDUCED, log 19). -/
def State.replyStarting (s : State) (t : Txn) (n : NodeId) (st : Byte) (data : List Byte) : State :=
  if stInStart st then
    if t.cmd = .wake then s.startFailed n false
    else if t.cmd = .ident then s.startFailed n true
    else s
  else if stFault st then s.replyFault t n .nodeReported
  else if stIllegal st || stRange st then s.replyFault t n .illegalReply
  else
    match t.cmd, data with
    | .wake, _ =>
      if (s.node n).startStep = .wake then (s.modNode n (fun r => { r with startStep := .ident })).askStart n else s
    | .ident, [k, v] =>
      if kindOfByte k ≠ none ∧ kindOfByte k = (s.node n).kind then s.startEnds n v
      else s.replyFault t n .kindMismatch
    | .status, [v, g] =>
      if valueFits (s.node n).kind v.toNat && valueFits (s.node n).kind g.toNat then
        s.modNode n (fun r => r.withStatus v.toNat g.toNat)
      else s.replyFault t n .illegalReply
    | .read, [th, tl, ch, cl] =>
      s.modNode n (fun r => { r with value := some (.reading (readingTemp th tl) (readingCo2 ch cl)) })
    | .move, [taken] => s.moveReplyStarting t n (stBusy st) (stSequence st) taken
    | _, _ => s

/-! ## Replies in OFFLINE (R145) and FAULT (R147) -/

/-- R145: the outcome of a revival WAKE. ILLEGAL or RANGE without IN_START puts the node in FAULT (R130 step 5; DEDUCED,
log 44: R145 has every other OK start it up). -/
def State.replyOffline (s : State) (t : Txn) (n : NodeId) (st : Byte) : State :=
  if stFault st then s.replyFault t n .nodeReported
  else if stInStart st = false ∧ (stIllegal st || stRange st) = true then s.replyFault t n .illegalReply
  else if t.cmd = .wake then s.revive n (stInStart st)
  else s

/-- R147: a retry's step ends with the node still in FAULT. -/
def State.retryEnds (s : State) (n : NodeId) (why : FaultReason) : State :=
  s.modNode n (fun r => { r with faultReason := some why, retryStep := none })

/-- R147: the IDENT of a CHECK has found the node's kind: READY, or BUSY if the STATUS reported BUSY. -/
def State.retrySucceeds (s : State) (n : NodeId) (version : Byte) : State :=
  let busy := decide ((s.node n).retryStep = some (.ident true))
  let s := s.modNode n (fun r => { r with faultReason := none, retryStep := none, version := some version })
  if busy then s.enterBusy n true
  else (s.modNode n (fun r => { r with state := .ready })).readyNotice n .fault none

/-- R147: a reply to a transaction of a NODE_RETRY, for a node in FAULT. -/
def State.replyRetry (s : State) (t : Txn) (n : NodeId) (st : Byte) (data : List Byte) : State :=
  if t.cmd = .nodeReset then s.startUp n .retry
  else if stInStart st then s.startUp n .retry
  else if stFault st then s.retryEnds n .nodeReported
  else if stIllegal st || stRange st then s.retryEnds n .illegalReply
  else
    match t.cmd, data with
    | .status, [v, g] =>
      if valueFits (s.node n).kind v.toNat && valueFits (s.node n).kind g.toNat then
        (s.modNode n (fun r => { r.withStatus v.toNat g.toNat with retryStep := some (.ident (stBusy st)) })).askOwn n
          .ident .retry
      else s.retryEnds n .illegalReply
    | .ident, [k, v] =>
      if kindOfByte k ≠ none ∧ kindOfByte k = (s.node n).kind then s.retrySucceeds n v
      else s.retryEnds n .kindMismatch
    | _, _ => s

/-! ## The outcome of a transaction (R130) -/

/-- R130 step 2 on: an answered transaction. -/
def State.outcomeOk (s : State) (t : Txn) (n : NodeId) (st : Byte) (data : List Byte) : State :=
  match (s.node n).state with
  | .unknown => s
  | .ready => (s.modNode n (fun r => { r with failCount := 0 })).replyActive t n st data
  | .busy => (s.modNode n (fun r => { r with failCount := 0 })).replyActive t n st data
  | .starting => (s.modNode n (fun r => { r with failCount := 0 })).replyStarting t n st data
  | .offline => (s.modNode n (fun r => { r with failCount := 0 })).replyOffline t n st
  | .fault =>
    let s := s.modNode n (fun r => { r with failCount := 0 })
    if t.origins.contains .retry then s.replyRetry t n st data else s

/-- R118: what the field line controller reports of an addressed transaction beside the transaction itself: the reply's
status and data characters, or FAILED with the failure kind of each attempt. The number of attempts is the record's. -/
inductive TxnResult
  | ok (status : Byte) (data : List Byte)
  | failed (first : Option FailKind) (second : FailKind)
  deriving DecidableEq, Repr

/-- R130, R160: the node manager takes the outcome of an addressed transaction, and commissioning goes on. R151 orders the
record, the owner and the condition block; the operating-state controller takes a READY after all three (DESIGN CHOICE,
log 60). -/
def State.takeOutcome (s : State) (t : Txn) (n : NodeId) (res : TxnResult) : State :=
  (match res with
    | .ok st data => s.outcomeOk t n st data
    | .failed _ _ => s.outcomeFailed t n).opNodeCheck n |>.opFollow

end Sys2Proof.Machine
end

