-- ==== Sys2Proof/Machine/PartState.lean ====
section
/-! DEFINITION. The operating-state controller's changes of part state (chapter 8): the validation of a COMMISSION
(R156, R158), entry to COMMISSIONING (R157, R159), entry to STOPPING (R163), the node manager's poll intervals
(R125), and the cut order of a soft reset (R122, R166). Entry to RUN stands in NodeStates.lean. -/
namespace Sys2Proof.Machine

/-- R154: an accepted configuration request sets the configuration-changed flag. -/
def State.configChange (s : State) : State := s.setOp { s.op with configChanged := true }

/-! ## Validation (R156, R158) -/

/-- A node is configured with the kind given. -/
def State.kindIs (s : State) (n : NodeId) (k : NodeKind) : Bool :=
  (s.node n).configured && decide ((s.node n).kind = some k)

/-- A named node of the wrong kind, or not configured; a node that is not named passes. -/
def State.wrongKind (s : State) (n : Option NodeId) (k : NodeKind) : Bool :=
  match n with
  | none => false
  | some n => !s.kindIs n k

/-- R156, pass 1, for one zone: the sensor must be named and fit; the others must fit where they are named. -/
def State.checkZone (s : State) (z : Zone) : Option BadConfig :=
  let r := s.zone z
  if r.active = false then none
  else if r.sensor = none ∨ s.wrongKind r.sensor .sensor = true then some ⟨.zone, z.number, .sensorKind⟩
  else if s.wrongKind r.blower .blower then some ⟨.zone, z.number, .blowerKind⟩
  else if s.wrongKind r.valve .valve then some ⟨.zone, z.number, .valveKind⟩
  else if s.wrongKind r.damper .damper then some ⟨.zone, z.number, .damperKind⟩
  else none

/-- R75: M, the largest of the three band maxima. -/
def PlantDef.largestMax (d : PlantDef) : Nat := max d.idleMax (max d.cruiseMax d.pullMax)

/-- R156: u1 to uM are each above 0. -/
def PlantDef.stagesSet (d : PlantDef) : Bool :=
  (List.range d.largestMax).all (fun i => decide (0 < d.stageUnits (i + 1)))

/-- The item number of a named node. -/
def nodeItem (n : Option NodeId) : Nat :=
  match n with
  | none => 0
  | some n => n.address

/-- R156, pass 2. -/
def State.checkPlant (s : State) : Option BadConfig :=
  let d := s.plant.defn
  if s.wrongKind d.compressor .compressor then some ⟨.node, nodeItem d.compressor, .compressorKind⟩
  else if d.compressor.isSome && !d.stagesSet then some ⟨.node, nodeItem d.compressor, .stageUnits⟩
  else if s.wrongKind d.auxHeater .auxheat then some ⟨.node, nodeItem d.auxHeater, .auxKind⟩
  else if d.auxHeater.isSome && decide (d.auxUnits = 0) then some ⟨.node, nodeItem d.auxHeater, .auxUnits⟩
  else if s.wrongKind d.intake .damper then some ⟨.node, nodeItem d.intake, .intakeKind⟩
  else if d.coolantUnits = 0 then some ⟨.plant, 0, .coolantUnits⟩
  else none

/-- The roles in which an active zone names a node. -/
def ZoneRec.rolesOf (r : ZoneRec) (z : Zone) (n : NodeId) : List Binding :=
  if r.active then
    (if r.sensor = some n then [.zone z .sensor] else []) ++ (if r.blower = some n then [.zone z .blower] else []) ++
    (if r.valve = some n then [.zone z .valve] else []) ++ (if r.damper = some n then [.zone z .damper] else [])
  else []

/-- The roles in which the plant definition names a node. -/
def PlantDef.rolesOf (d : PlantDef) (n : NodeId) : List Binding :=
  (if d.compressor = some n then [.plant .compressor] else []) ++
  (if d.auxHeater = some n then [.plant .auxHeater] else []) ++
  (if d.intake = some n then [.plant .intake] else [])

/-- R127, R156: every role that names a node. -/
def State.rolesOf (s : State) (n : NodeId) : List Binding :=
  (allZones.map (fun z => (s.zone z).rolesOf z n)).flatten ++ s.plant.defn.rolesOf n

/-- R156, pass 3, for one address. -/
def State.checkBinding (s : State) (n : NodeId) : Option BadConfig :=
  if 2 ≤ (s.rolesOf n).length then some ⟨.node, n.address, .doubleBinding⟩ else none

/-- R156, pass 4, for one door. -/
def State.checkDoor (s : State) (d : Door) : Option BadConfig :=
  if allZones.all (fun z => !s.zones.doorMap[d].getLsbD z.val || (s.zone z).active) then none
  else some ⟨.door, d.number, .doorZone⟩

/-- R156: the first failing check of the four passes, or none. -/
def State.validate (s : State) : Option BadConfig :=
  (allZones.findSome? s.checkZone).or <|
    s.checkPlant.or <| (allNodes.findSome? s.checkBinding).or (allDoors.findSome? s.checkDoor)

/-! ## Entry to COMMISSIONING (R127, R157, R159) -/

/-- R127: the binding of one node, cleared and recorded afresh. -/
def State.bind (s : State) (n : NodeId) : State :=
  s.modNode n (fun r => { r with binding := (s.rolesOf n).head? })

/-- R90: the sequencer on entry to COMMISSIONING: FAULT ends unless its node is in FAULT. DISENGAGING, left by a return
from FAULT in STOPPED (R89), is kept (DESIGN CHOICE, log 46: R90 speaks of FAULT and LOCKOUT alone), also where the
definition names no compressor now, of which R75 says that the sequencer stays in OFF (log 46 too). A watch left by an
earlier commissioning goes on only for the node that it watches (R164). -/
def State.seqCommissioning (s : State) (watched : Bool) : State :=
  let down := match s.plant.defn.compressor with
    | none => false
    | some n => decide ((s.node n).state = .fault)
  let s := if s.plant.seq.state = .fault ∧ down = false then s.enterSeq .off else s
  s.setSequencer { s.plant.seq with watch := s.plant.seq.watch && watched }

/-- The plant definition's compressor node is the node bound as compressor. -/
def State.compressorBound (s : State) : Bool :=
  match s.plant.defn.compressor with
  | none => false
  | some n => decide ((s.node n).binding = some (.plant .compressor))

/-- R107, R108: the intake record on entry to COMMISSIONING; the target is computed whether or not an intake node is
defined, as R107 has it (DESIGN CHOICE between R107 and R91, log 47). -/
def State.intakeCommissioning (s : State) : State :=
  s.setPlant { s.plant with purgeCount := 0, intakeTarget := some s.plant.minFreshAir }

/-- R159: the commissioning work of one configured node begins, by its state. -/
def State.beginWork (s : State) (n : NodeId) : State :=
  if (s.node n).configured then
    match (s.node n).state with
    | .unknown => (s.setWork n .startUp).startUp n .commission
    | .ready => (s.setWork n .startUp).startUp n .commission
    | .offline => (s.setWork n .startUp).startUp n .commission
    | .starting => (s.setWork n .startUp).modNode n (fun r => { r with cause := some .commission })
    | .busy => s.setWork n .waitBusy
    | .fault => s.markDone n
  else s

/-- R157, R159: an accepted COMMISSION. -/
def State.enterCommissioning (s : State) : State :=
  let watched := s.compressorBound
  let s := s.setOp { s.op with configChanged := false, lastRefusal := none, haltSent := false }
  let s := s.clearMarks.enterPart .commissioning
  let s := s.eachNode State.bind
  let s := (s.seqCommissioning watched).intakeCommissioning
  let s := s.askBroadcast .halt .commission
  s.eachNode State.beginWork

/-! ## Entry to STOPPING (R163) -/

/-- R150: a transaction in flight completes, but the outcome of a READ or STATUS is not passed to a zone or the plant
controller. The node manager's own retry still hears it (R147). -/
def Txn.cutOff (t : Txn) : Txn :=
  if t.cmd = .read ∨ t.cmd = .status then { t with origins := t.origins.filter (· == .retry) } else t

/-- The transaction in flight belongs to a retry of the node. -/
def State.retryInFlight (s : State) (n : NodeId) : Bool :=
  match s.line.inFlight with
  | none => false
  | some t => decide (t.node = some n) && t.origins.contains .retry

/-- R150: one node record on entry to STOPPING. A retry whose transaction went with the queue has ended (log 36). -/
def State.quietNode (s : State) (n : NodeId) : State :=
  let r := s.node n
  let kept := decide (r.binding = some (.plant .compressor)) || decide (r.binding = some (.plant .auxHeater))
  let r := { r with
    pending := none
    revivalTimer := none
    retryStep := if s.retryInFlight n then r.retryStep else none }
  s.setNode n (if r.state = .starting ∧ kept = false then { r with state := .unknown, wakeTimer := none } else r)

/-- R150: the node manager on entry to STOPPING. -/
def State.quietNodes (s : State) : State :=
  let s := (s.setQueue []).setLine { s.line with txn := s.line.txn.map Txn.cutOff }
  s.eachNode State.quietNode

/-- R90: the sequencer's working states, which are marked DISENGAGING at a shutdown. -/
def Seq.working : Seq → Bool
  | .off => false
  | .engaging => true
  | .running _ => true
  | .stepUp _ => true
  | .stepDown _ => true
  | .disengaging => true
  | .lockout => false
  | .fault => false

/-- R90: the sequencer on entry to STOPPING. -/
def State.quietSequencer (s : State) : State :=
  let s := if s.plant.seq.state.working then s.enterSeq .disengaging else s
  s.setSequencer
    { s.plant.seq with
      minRunTimer := none, minRunExpired := false, holdTimer := none, holdMet := false, pollTimer := none }

/-- R106: the heater on entry to STOPPING. -/
def State.quietHeater (s : State) : State :=
  match s.plant.heater.state with
  | .igniting => s.enterHeater .stopping
  | .running => s.enterHeater .stopping
  | .off => s
  | .stopping => s
  | .igniteWait => s
  | .lockedOut => s

/-- R90, R106, R108: the plant controller on entry to STOPPING, with its two capacity writes. -/
def State.quietPlant (s : State) : State :=
  let s := s.quietSequencer.quietHeater
  let s := s.setPlant
    { s.plant with viewHeat := ⟨false, 0⟩, viewCool := ⟨false, 0⟩, purgeCount := 0, intakeTarget := some 0 }
  s.refreshCool.refreshHeat

/-- R163, R164: an accepted SHUTDOWN: the arbiter's drop, the zones, the node manager, the plant controller, the
broadcast MOVE 0, and STOPPED at once when the plant is at rest. -/
def State.enterStopping (s : State) : State :=
  let s := s.clearMarks.enterPart .stopping
  let s := s.setArb s.arb.dropAll
  let s := s.quietZones.quietNodes.quietPlant
  (s.askBroadcast .move .shutdown).restReport

/-! ## The node manager's poll intervals (R125) -/

/-- R147: the first transaction of a retry is asked. It stays owed if the queue refuses it. -/
def State.startRetry (s : State) (n : NodeId) (a : RetryAction) : State :=
  match a with
  | .check =>
    (s.modNode n (fun r => { r with retryOwed := none, retryStep := some .status })).askOwn n .status .retry
  | .reset =>
    (s.modNode n (fun r => { r with retryOwed := none, retryStep := some .reset })).askOwn n .nodeReset .retry

/-- R90, R106: a plant node whose stopping is watched by STATUS. -/
def State.stopWatched (s : State) (n : NodeId) : Bool :=
  decide (s.op.state = .stopping) &&
  ((decide (s.plant.defn.compressor = some n) && decide (s.plant.seq.state = .disengaging)) ||
   (decide (s.plant.defn.auxHeater = some n) && decide (s.plant.heater.state = .stopping)))

/-- R138: an owed HALT of a travel timeout is asked again (log 39). -/
def State.owedHalt (s : State) (n : NodeId) : State :=
  if (s.node n).haltOwed = true then (s.modNode n (fun r => { r with haltOwed := false })).askHalt n else s

/-- R147: an owed retry of a node in FAULT is asked. -/
def State.owedRetry (s : State) (n : NodeId) : State :=
  match (s.node n).retryOwed with
  | none => s
  | some a => if (s.node n).state = .fault then s.startRetry n a else s

/-- R160: an owed initial MOVE is asked. -/
def State.owedMove (s : State) (n : NodeId) : State :=
  if s.commissions = true ∧ s.work n = .moveOwed then s.initialMove n else s

/-- R125: what is asked for a node at its poll interval (where several are due, in this order: log 48). -/
def State.dueAtPoll (s : State) (n : NodeId) : State :=
  let s := if s.stopWatched n then s.askStatus n .shutdown else s
  ((s.owedHalt n).owedRetry n).owedMove n

/-! ## The cut (R122) -/

/-- R122: the end of the character being sent, of a frame that ends at the time given; between two characters, and at
the instant SENDING begins, that is at once (DEDUCED, log 33; DESIGN CHOICE, log 53). -/
def characterEnd (frameEnd now : Time) : Time := now + (frameEnd - now) % Config.charTime

/-- R122, R166 step 2: the cut order, by phase. -/
def State.orderCut (s : State) : State :=
  let s := s.setOp { s.op with soft := .cut }
  let gap : Line := { s.line with
    phase := .gap, timer := some (s.now + Config.twoChars), replyStart := none, chars := [], cut := true }
  match s.line.phase with
  | .idle => s.setLine gap
  | .lead => s.setLine gap
  | .sending =>
    s.setLine { s.line with cut := true, timer := s.line.timer.map (fun e => characterEnd e s.now) }
  | .trail => s.setLine gap
  | .awaitReply => s.setLine gap
  | .receiving => s.setLine { s.line with phase := .drain, cut := true }
  | .closing => s.setLine { s.line with phase := .drain, cut := true }
  | .drain => s.setLine { s.line with cut := true }
  | .broadcastWait => s.setLine gap
  | .gap => s.setLine { s.line with cut := true }

end Sys2Proof.Machine
end

