-- ==== Sys2Proof/Machine/Line.lean ====
section
/-! DEFINITION. The field line controller (chapter 6): the phases of an attempt, the reply's characters, the retry, the
report, the broadcast and the cut; and the meaning of each field-line command. Each timed event takes the clock to its
own time and changes nothing in another phase (log 2, 3). -/
namespace Sys2Proof.Machine

/-- What every event of the model answers: the next state; during the hold of a hard reset nothing is acted on
(R165). -/
def State.answer (s : State) (f : State → State) : Host.Outcome State Fault Refusal :=
  .next (if s.held then s else f s)

/-- The end of the phase timer in the phase given. -/
def State.phaseEnd (s : State) (p : LinePhase) (f : State → State) : State :=
  match s.line.timer with
  | none => s
  | some t => if s.line.phase = p then f (s.reach t) else s

/-- A phase with its timer, the rest of the line's record kept. -/
def State.enterPhase (s : State) (p : LinePhase) (wait : Nat) : State :=
  s.setLine { s.line with phase := p, timer := some (s.now + wait) }

/-- The controller clears its record, enters IDLE and tells the node manager that it is free (R110, R118). -/
def State.freeLine (s : State) : State := (s.setLine Line.reset).handOver

/-- R118: the report of an addressed transaction is delivered first, with the phase ended and the record standing; then
the record is cleared and the controller is free. -/
def State.deliver (s : State) (t : Txn) (res : TxnResult) : State :=
  let s := s.setLine { s.line with timer := none }
  (match t.node with
    | none => s
    | some n => s.takeOutcome t n res).freeLine

/-- R118, R119: an attempt has failed: the gap before the second, or the report FAILED. -/
def State.attemptFailed (s : State) (k : FailKind) : State :=
  match s.line.txn with
  | none => s.freeLine
  | some t =>
    if t.attempt < 2 then
      s.setLine
        { phase := .gap
          txn := some { t with attempt := 2, firstFail := some k }
          timer := some (s.now + Config.twoChars)
          replyStart := none
          chars := []
          cut := false }
    else s.deliver t (.failed t.firstFail k)

/-! ## Sending (R115, R121) -/

/-- R115: the lead has ended, the frame goes out. -/
def State.beginFrame (s : State) : State :=
  match s.line.txn with
  | none => s
  | some t => s.enterPhase .sending (t.cmd.requestChars * Config.charTime)

/-- R115: the last stop bit is out. A cut ends the frame at its own event instead (log 33). -/
def State.endFrame (s : State) : State := s.enterPhase .trail Config.charTime

/-- R115, R121: the trail has ended. -/
def State.endTrail (s : State) : State :=
  match s.line.txn with
  | none => s
  | some t =>
    match t.node with
    | some _ => s.enterPhase .awaitReply Config.replyWindow
    | none => s.enterPhase .broadcastWait Config.broadcastWait

/-- R121, R157, R166: SENT. A HALT of commissioning sets its mark, also one of an earlier commissioning that was still in
flight at the present COMMISSION (DESIGN CHOICE, log 54); the broadcast of a soft reset ends in the reset. -/
def State.reportSent (s : State) (t : Txn) : State :=
  if s.op.soft = .broadcast then s.afterReset .restart
  else
    let s := s.setLine { s.line with timer := none }
    (if t.cmd = .halt ∧ t.origin = .commission then
      (s.setOp { s.op with haltSent := true }).testCommissioned
    else s).freeLine

/-! ## Receiving (R113, R116, R117) -/

/-- R117: the first defect of a reply, or a character while draining: the wait for two character times of quiet. The
20 ms from the reply's first start bit bound it (drainDue). -/
def State.drain (s : State) (start : Time) : State :=
  s.setLine { s.line with
    phase := .drain
    timer := some (s.now + Config.twoChars)
    replyStart := some start }

/-- R113, R116: a good reply character with the characters before it: the next is waited for, the reply is closed, or
the sum fails. -/
def State.takeChar (s : State) (start : Time) (cmd : Command) (data : Byte) : State :=
  let chars := s.line.chars ++ [data]
  let want := expectedChars cmd (chars.headD 0#8)
  if chars.length < want then
    s.setLine { s.line with
      phase := .receiving, timer := some (s.now + Config.twoChars), replyStart := some start, chars := chars }
  else if sumBytes chars = 0#8 then
    s.setLine { s.line with
      phase := .closing, timer := some (s.now + Config.twoChars), replyStart := some start, chars := chars }
  else s.drain start

/-- The time of the start bit of a character that ends now (log 24). -/
def State.charStart (s : State) : Time := s.now - Config.charTime

/-- A character takes its character time after the trail or the character before it (R111, log 24). -/
def State.charArrives (s : State) : State :=
  match s.line.phase, s.line.timer with
  | .awaitReply, some t => s.reach (t - Config.replyWindow + Config.charTime)
  | .receiving, some t => s.reach (t - Config.twoChars + Config.charTime)
  | .closing, some t => s.reach (t - Config.twoChars + Config.charTime)
  | .drain, some t => s.reach (t - Config.twoChars + Config.charTime)
  | _, _ => s

/-- R116, R117, R121, R122: a character has arrived; the clock stands at its end. -/
def State.receiveChar (s : State) (data : Byte) (mark parity stop : Bool) : State :=
  let good := charGood data mark parity stop && !mark
  match s.line.phase, s.line.txn with
  | .awaitReply, some t =>
    let s := s.setLine { s.line with chars := [] }
    if good && !data.getLsbD 7 then s.takeChar s.charStart t.cmd data else s.drain s.charStart
  | .receiving, some t =>
    let start := s.line.replyStart.getD s.charStart
    if good then s.takeChar start t.cmd data else s.drain start
  | .closing, _ => s.drain (s.line.replyStart.getD s.charStart)
  | .drain, _ => s.drain (s.line.replyStart.getD s.charStart)
  | _, _ => s

/-- R118: the reply is complete. -/
def State.replyComplete (s : State) : State :=
  match s.line.txn, s.line.chars with
  | some t, st :: rest =>
    if stCheckError st then s.attemptFailed .checkError else s.deliver t (.ok st rest.dropLast)
  | _, _ => s

/-- R117: when DRAIN ends, for a quiet that ends at the time given: then, or at the limit of 20 ms from the reply's
first start bit. -/
def Line.drainDue (l : Line) (quiet : Time) : Time :=
  match l.replyStart with
  | none => quiet
  | some b => min quiet (b + Config.drainLimit)

/-- R117, R122: the line has fallen quiet, or the limit is reached. -/
def State.drained (s : State) : State :=
  if s.line.cut then s.enterPhase .gap Config.twoChars else s.attemptFailed .badReply

/-- R117: the end of DRAIN. -/
def State.drainEnd (s : State) : State :=
  match s.line.timer with
  | none => s
  | some t => if s.line.phase = .drain then (s.reach (s.line.drainDue t)).drained else s

/-! ## The gap (R119, R122, R166) -/

/-- R166 step 3: the broadcast MOVE 0 of a soft reset, handed over directly. -/
def State.softBroadcast (s : State) : State :=
  (s.setOp { s.op with soft := .broadcast }).startTxn ⟨none, .move, 0, true, .shutdown, []⟩

/-- R119, R122: the gap has ended: the retry's lead, or the end of the cut. -/
def State.gapEnded (s : State) : State :=
  if s.line.cut then
    let s := s.setLine Line.reset
    if s.op.soft = .cut then s.softBroadcast else s.handOver
  else s.enterPhase .lead Config.charTime

/-! ## The commands -/

/-- LEAD_END (R115). -/
def execLeadEnd (s : State) : Host.Outcome State Fault Refusal := s.answer (·.phaseEnd .lead State.beginFrame)

/-- FRAME_SENT (R115). -/
def execFrameSent (s : State) : Host.Outcome State Fault Refusal :=
  s.answer (fun s => if s.line.cut then s else s.phaseEnd .sending State.endFrame)

/-- TRAIL_END (R115, R121). -/
def execTrailEnd (s : State) : Host.Outcome State Fault Refusal := s.answer (·.phaseEnd .trail State.endTrail)

/-- REPLY_WINDOW_EXPIRY (R116). -/
def execReplyWindowExpiry (s : State) : Host.Outcome State Fault Refusal :=
  s.answer (·.phaseEnd .awaitReply (·.attemptFailed .noReply))

/-- REPLY_CHARACTER_RECEIVED (R116). -/
def execReplyCharacterReceived (data : Byte) (mark parity stop : Bool) (s : State) :
    Host.Outcome State Fault Refusal :=
  s.answer (·.charArrives.receiveChar data mark parity stop)

/-- REPLY_GAP_TIMEOUT (R117): declared without further wait. -/
def execReplyGapTimeout (s : State) : Host.Outcome State Fault Refusal :=
  s.answer (·.phaseEnd .receiving (·.attemptFailed .badReply))

/-- CLOSING_QUIET_END (R116, R118). -/
def execClosingQuietEnd (s : State) : Host.Outcome State Fault Refusal :=
  s.answer (·.phaseEnd .closing State.replyComplete)

/-- DRAIN_END (R117, R122). -/
def execDrainEnd (s : State) : Host.Outcome State Fault Refusal := s.answer State.drainEnd

/-- BROADCAST_WAIT_END (R121). -/
def execBroadcastWaitEnd (s : State) : Host.Outcome State Fault Refusal :=
  s.answer (·.phaseEnd .broadcastWait (fun s =>
    match s.line.txn with
    | none => s.freeLine
    | some t => s.reportSent t))

/-- GAP_END (R119, R122). -/
def execGapEnd (s : State) : Host.Outcome State Fault Refusal := s.answer (·.phaseEnd .gap State.gapEnded)

/-- CUT_CHARACTER_END (R122): the character being sent at the cut has ended. -/
def execCutCharacterEnd (s : State) : Host.Outcome State Fault Refusal :=
  s.answer (fun s => if s.line.cut then s.phaseEnd .sending (·.enterPhase .gap Config.twoChars) else s)

end Sys2Proof.Machine
end

