-- ==== Sys2Proof/Machine/Expiries.lean ====
section
/-! DEFINITION. The meaning of each timer expiry: the zones' timers and the claim-age watch (chapters 1 to 3), the
plant's timers (chapters 4 and 5), the nodes' timers and the poll tick (chapter 7). An expiry of a stopped timer
changes nothing; a running timer expires at its own time (log 2). -/
namespace Sys2Proof.Machine

/-- A timer's expiry. -/
def State.expire (s : State) (t : Timer) (f : State → State) : State :=
  match t with
  | none => s
  | some d => f (s.reach d)

/-- An event of a zone, by its number; a number that names no zone is a fault (log 7). -/
def State.zoneEvent (s : State) (zone : Nat) (f : Zone → State → State) : Host.Outcome State Fault Refusal :=
  match zoneOfNat zone with
  | none => .fault (.noSuchZone zone)
  | some z => s.answer (f z)

/-- An event of a node, by its address; an address that names no node is a fault (log 7). -/
def State.nodeEvent (s : State) (node : Nat) (f : NodeId → State → State) : Host.Outcome State Fault Refusal :=
  match nodeOfNat node with
  | none => .fault (.noSuchNode node)
  | some n => s.answer (f n)

/-! ## Zone timers -/

/-- LOOP_TIMER_EXPIRY (R15). -/
def execLoopTimerExpiry (zone : Nat) (s : State) : Host.Outcome State Fault Refusal :=
  s.zoneEvent zone (fun z s => s.expire (s.zone z).loopTimer (·.loopExpiry z))

/-- R10: the temporary setpoint is removed with its timer. -/
def State.holdExpiry (s : State) (z : Zone) : State :=
  s.changeSetpoint z (fun r => { r with tempSetpoint := none, holdTimer := none })

/-- HOLD_TIMER_EXPIRY (R10). -/
def execHoldTimerExpiry (zone : Nat) (s : State) : Host.Outcome State Fault Refusal :=
  s.zoneEvent zone (fun z s => s.expire (s.zone z).holdTimer (·.holdExpiry z))

/-- DEFOG_TIMER_EXPIRY (R44). -/
def execDefogTimerExpiry (zone : Nat) (s : State) : Host.Outcome State Fault Refusal :=
  s.zoneEvent zone (fun z s => s.expire (s.zone z).defogTimer (·.endOverride z .defog))

/-- CURTAIN_TIMER_EXPIRY (R36). -/
def execCurtainTimerExpiry (zone : Nat) (s : State) : Host.Outcome State Fault Refusal :=
  s.zoneEvent zone (fun z s => s.expire (s.zone z).curtainTimer (·.curtainExpiry z))

/-- The pool in which the zone's claim waits, and the claim. -/
def Arbiter.claimOf (a : Arbiter) (z : Zone) : Option (PoolId × Claim) :=
  match a.heat.claimOf z with
  | some c => some (.heat, c)
  | none =>
    match a.cool.claimOf z with
    | some c => some (.cool, c)
    | none => none

/-- R66: the claim's mark, the zone's flag, the condition. -/
def State.saturate (s : State) (z : Zone) (i : PoolId) : State :=
  ((s.setArb (s.arb.setPool i ((s.arb.pool i).markSaturated z))).modZone z
    (fun r => { r with flags := { r.flags with saturated := true } })).raise .zoneSaturated (some z.number)

/-- R66: a waiting claim whose mark is clear reaches the saturation time. -/
def State.claimAges (s : State) (z : Zone) : State :=
  match s.arb.claimOf z with
  | none => s
  | some (i, c) =>
    if c.saturated then s else (s.reach (c.filed + s.arb.saturationTime * Config.second)).saturate z i

/-- CLAIM_SATURATION (R66). -/
def execClaimSaturation (zone : Nat) (s : State) : Host.Outcome State Fault Refusal :=
  s.zoneEvent zone (fun z s => s.claimAges z)

/-! ## Plant timers -/

/-- R84: the minimum run stands as expired; a hold marked met is acted on. -/
def State.minRunExpiry (s : State) : State :=
  let s := s.setSequencer { s.plant.seq with minRunTimer := none, minRunExpired := true }
  if s.plant.seq.state = .running 1 ∧ s.plant.seq.holdMet = true ∧ s.compressorReady = true then s.shedStage 1 else s

/-- MINIMUM_RUN_EXPIRY (R84). -/
def execMinimumRunExpiry (s : State) : Host.Outcome State Fault Refusal :=
  s.answer (fun s => s.expire s.plant.seq.minRunTimer State.minRunExpiry)

/-- R83: the hold has lasted: a stage is shed, or the hold is kept as met. -/
def State.holdDone (s : State) : State :=
  let s := s.setSequencer { s.plant.seq with holdTimer := none }
  match s.plant.seq.state with
  | .running k =>
    if s.compressorReady = true ∧ (2 ≤ k ∨ s.plant.seq.minRunExpired = true) then s.shedStage k
    else s.setSequencer { s.plant.seq with holdMet := true }
  | _ => s

/-- STAGE_DOWN_HOLD_EXPIRY (R83). -/
def execStageDownHoldExpiry (s : State) : Host.Outcome State Fault Refusal :=
  s.answer (fun s => s.expire s.plant.seq.holdTimer State.holdDone)

/-- LOCKOUT_EXPIRY (R85). -/
def execLockoutExpiry (s : State) : Host.Outcome State Fault Refusal :=
  s.answer (fun s => s.expire s.plant.seq.lockoutTimer (fun s => (s.enterSeq .off).seqDecide))

/-- R87, R100: a steady-state STATUS is asked of a READY node. -/
def State.steadyStatus (s : State) (n : Option NodeId) : State :=
  match n with
  | none => s
  | some n => if (s.node n).state = .ready then s.askStatus n .plant else s

/-- R87. -/
def State.compressorPoll (s : State) : State :=
  (s.setSequencer
    { s.plant.seq with
      pollTimer := some (s.now + Config.plantPoll)
      checkAsked := s.plant.seq.checkAsked || s.compressorReady }).steadyStatus s.plant.defn.compressor

/-- COMPRESSOR_POLL_EXPIRY (R87). -/
def execCompressorPollExpiry (s : State) : Host.Outcome State Fault Refusal :=
  s.answer (fun s => s.expire s.plant.seq.pollTimer State.compressorPoll)

/-- IGNITE_WAIT_EXPIRY (R99). -/
def execIgniteWaitExpiry (s : State) : Host.Outcome State Fault Refusal :=
  s.answer (fun s => s.expire s.plant.heater.igniteWaitTimer (fun s => (s.enterHeater .off).heaterStart))

/-- STOP_DELAY_EXPIRY (R102). -/
def execStopDelayExpiry (s : State) : Host.Outcome State Fault Refusal :=
  s.answer (fun s => s.expire s.plant.heater.stopDelayTimer State.heaterStop)

/-- R100. -/
def State.flamePoll (s : State) : State :=
  (s.setHeater
    { s.plant.heater with
      flamePollTimer := some (s.now + Config.plantPoll)
      checkAsked := s.plant.heater.checkAsked || s.auxReady }).steadyStatus s.plant.defn.auxHeater

/-- FLAME_POLL_EXPIRY (R100). -/
def execFlamePollExpiry (s : State) : Host.Outcome State Fault Refusal :=
  s.answer (fun s => s.expire s.plant.heater.flamePollTimer State.flamePoll)

/-! ## Node timers -/

/-- R148: the wake timer restarts; the WAKE or IDENT of the present step is asked if none is queued or in flight. -/
def State.wakeExpiry (s : State) (n : NodeId) : State :=
  let c : Command := match (s.node n).startStep with
    | .wake => .wake
    | .ident => .ident
  let s := s.modNode n (fun r => { r with wakeTimer := some (s.now + Config.wakePeriod) })
  if s.queued n c || s.inFlight n c then s else s.askStart n

/-- WAKE_TIMER_EXPIRY (R148). -/
def execWakeTimerExpiry (node : Nat) (s : State) : Host.Outcome State Fault Refusal :=
  s.nodeEvent node (fun n s => s.expire (s.node n).wakeTimer (·.wakeExpiry n))

/-- R142, R125: the busy poll, and what waits for the node's poll interval, in that order (DESIGN CHOICE, log 48: no rule
orders the two). -/
def State.nodePoll (s : State) (n : NodeId) : State :=
  (((s.modNode n (fun r =>
    { r with pollTimer := some (s.now + s.nodes.tuning.pollInterval * Config.ms) })).askStatus n .poll).dueAtPoll
    n).opFollow

/-- NODE_POLL_TIMER_EXPIRY (R142). -/
def execNodePollTimerExpiry (node : Nat) (s : State) : Host.Outcome State Fault Refusal :=
  s.nodeEvent node (fun n s => s.expire (s.node n).pollTimer (·.nodePoll n))

/-- R143. -/
def State.travelExpiry (s : State) (n : NodeId) : State :=
  if (s.node n).state = .busy then (s.enterFault n .travelTimeout).opFollow else s

/-- TRAVEL_TIMER_EXPIRY (R143). -/
def execTravelTimerExpiry (node : Nat) (s : State) : Host.Outcome State Fault Refusal :=
  s.nodeEvent node (fun n s => s.expire (s.node n).travelTimer (·.travelExpiry n))

/-- R145: the revival timer restarts and a WAKE is asked. -/
def State.revivalExpiry (s : State) (n : NodeId) : State :=
  (s.modNode n (fun r => { r with revivalTimer := some (s.now + Config.revivalPeriod) })).askOwn n .wake .wake

/-- REVIVAL_TIMER_EXPIRY (R145). -/
def execRevivalTimerExpiry (node : Nat) (s : State) : Host.Outcome State Fault Refusal :=
  s.nodeEvent node (fun n s => s.expire (s.node n).revivalTimer (·.revivalExpiry n))

/-- R125: at the poll tick, for a node whose own poll timer does not run. -/
def State.tickNode (s : State) (n : NodeId) : State :=
  if (s.node n).pollTimer = none then s.dueAtPoll n else s

/-- R125: the poll tick restarts and serves each node, in ascending address (DESIGN CHOICE, log 48: R125 gives no
order). -/
def State.pollTickExpiry (s : State) : State :=
  (State.eachNode
    { s with
      nodes := { s.nodes with pollTick := some (s.now + s.nodes.tuning.pollInterval * Config.ms) } }
    State.tickNode).opFollow

/-- POLL_TICK_EXPIRY (R125). -/
def execPollTickExpiry (s : State) : Host.Outcome State Fault Refusal :=
  s.answer (fun s => s.expire s.nodes.pollTick State.pollTickExpiry)

end Sys2Proof.Machine
end

