-- ==== Sys2Proof/Machine/Requests.lean ====
section
/-! DEFINITION. What each owning block does with a request that has passed the port's checks (step 7 of R172): the new
state and the answer. A refused request leaves the state as it was. The owners of the range requests and of
PROTECT_LOCK, which are the port itself, stand in Port.lean; the queries in Queries.lean. -/
namespace Sys2Proof.Machine

/-- What an owner gives back. -/
abbrev Taken := State × Answer

/-! ## Refusals (R173) -/

def refuseWrongState (p : PartState) : Answer := .refused [1#8, byteOf p.code]
def refuseProtected : Answer := .refused [2#8]
def refuseLocked : Answer := .refused [3#8]
def refuseBadConfig (b : BadConfig) : Answer :=
  .refused [4#8, byteOf b.item.code, byteOf b.number, byteOf b.check.code]
def refuseNotActive : Answer := .refused [5#8]
def refuseNodeState (st : NodeState) : Answer := .refused [6#8, byteOf st.code]

/-- Accepted, with no payload. -/
def accept (s : State) : Taken := (s, .ok [])
/-- BAD_ARGUMENT, nothing changed. -/
def badArgument (s : State) : Taken := (s, .badArgument)

/-- A field's value, or BAD_ARGUMENT; fields are checked in the order in which they are asked for. -/
def withField (s : State) (v : Option α) (f : α → Taken) : Taken :=
  match v with
  | none => badArgument s
  | some a => f a

/-! ## Configuration (R4, R5, R126, R31, R75, R91, R155) -/

/-- R127: an accepted ZONE_DEF ends the bindings that name the zone. -/
def State.unbindZone (s : State) (z : Zone) : State :=
  s.eachNode (fun s n =>
    match (s.node n).binding with
    | some (.zone y _) => if y = z then s.modNode n (fun r => { r with binding := none }) else s
    | some (.plant _) => s
    | none => s)

/-- R4: the record of an active definition. -/
def ZoneRec.define (rank wmax deadband loopPeriod : Nat) (sensor : NodeId) (blower valve damper : Option NodeId)
    (setpoint : Int) (mode : BaseMode) (now : Time) : ZoneRec :=
  { ZoneRec.reset now with
    active := true, rank := rank, wmax := wmax, deadband := deadband, loopPeriod := loopPeriod
    sensor := some sensor, blower := blower, valve := valve, damper := damper
    planSetpoint := setpoint, baseMode := mode, claimRank := rank }

/-- R4. -/
def State.defineZone (s : State) (a : ZoneDefArgs) : Taken :=
  withField s (zoneOfNat a.zone.toNat) fun z =>
  withField s (rangeByte 0 2 a.rank) fun rank =>
  withField s (rangeByte 1 16 a.wmax) fun wmax =>
  withField s (rangeByte 2 20 a.deadband) fun deadband =>
  withField s (rangeByte 2 30 a.loopPeriod) fun period =>
  withField s (nodeOfNat a.sensor.toNat) fun sensor =>
  withField s (nodeField a.blower) fun blower =>
  withField s (nodeField a.valve) fun valve =>
  withField s (nodeField a.damper) fun damper =>
  withField s (setpointField a.planSetpoint) fun setpoint =>
  withField s (baseModeOfNat a.baseMode.toNat) fun mode =>
  accept
    ((s.setZone z (ZoneRec.define rank wmax deadband period sensor blower valve damper setpoint mode s.now)).unbindZone
      z).configChange

/-- R5: only the zone number is checked. -/
def State.undefineZone (s : State) (zone : Byte) : Taken :=
  withField s (zoneOfNat zone.toNat) fun z =>
  accept ((s.setZone z (ZoneRec.reset s.now)).unbindZone z).configChange

/-- R126: the record of an accepted NODE_DEF, and the queue without the node's entries. -/
def State.defineNode (s : State) (n : NodeId) (configured : Bool) (k : Option NodeKind) : State :=
  ((s.setNode n { NodeRec.reset with configured := configured, kind := k }).dropEntries n
    (fun _ => true)).configChange

/-- R126. -/
def State.takeNodeDef (s : State) (address configured kind : Byte) : Taken :=
  withField s (nodeOfNat address.toNat) fun n =>
  withField s (flagField configured) fun c =>
  if c then withField s (kindOfByte kind) fun k => accept (s.defineNode n true (some k))
  else accept (s.defineNode n false none)

/-- R31. -/
def State.takeDoorDef (s : State) (door : Byte) (zones : BitVec 24) : Taken :=
  withField s (doorOfNat door.toNat) fun d =>
  accept ({ s with zones := { s.zones with doorMap := s.zones.doorMap.set d.val zones d.isLt } }).configChange

/-- R75, R91: every field in the order of the layout. -/
def checkPlantDef (a : PlantDefArgs) : Option PlantDef :=
  (nodeField a.compressor).bind fun compressor =>
  (rangeByte 0 16 a.u1).bind fun u1 =>
  (rangeByte 0 16 a.u2).bind fun u2 =>
  (rangeByte 0 16 a.u3).bind fun u3 =>
  (rangeByte 0 16 a.u4).bind fun u4 =>
  (rangeByte 0 4 a.idleMax).bind fun idleMax =>
  (rangeByte 0 4 a.cruiseMax).bind fun cruiseMax =>
  (rangeByte 0 4 a.pullMax).bind fun pullMax =>
  (rangeWord 30 600 a.minRun).bind fun minRun =>
  (rangeWord 30 300 a.minOff).bind fun minOff =>
  (rangeByte 10 120 a.stageDownHold).bind fun hold =>
  (nodeField a.auxHeater).bind fun auxHeater =>
  (rangeByte 0 32 a.auxUnits).bind fun auxUnits =>
  (rangeByte 0 21 a.coolantUnits).bind fun coolantUnits =>
  (nodeField a.intake).map fun intake =>
    { compressor := compressor, u1 := u1, u2 := u2, u3 := u3, u4 := u4, idleMax := idleMax, cruiseMax := cruiseMax
      pullMax := pullMax, minRun := minRun, minOff := minOff, stageDownHold := hold, auxHeater := auxHeater
      auxUnits := auxUnits, coolantUnits := coolantUnits, intake := intake }

/-- R75, R91, R93: the definition is replaced and HEAT capacity recomputed. -/
def State.takePlantDef (s : State) (a : PlantDefArgs) : Taken :=
  withField s (checkPlantDef a) fun d => accept ((s.setPlant { s.plant with defn := d }).refreshHeat).configChange

/-- R155: the tuning values of every owner. -/
structure Tuning where
  zone : ZoneTuning
  saturationTime : Nat
  stopDelay : Nat
  minFreshAir : Nat
  field : FieldTuning
  deriving DecidableEq, Repr

/-- R3, R155: purge-off is checked against the purge-on of the same request. -/
def checkTuneDef (a : TuneDefArgs) : Option Tuning :=
  (rangeByte 10 100 a.ventLevel).bind fun vent =>
  (rangeByte 0 50 a.minBlower).bind fun blower =>
  (rangeByte 0 30 a.panelBand).bind fun band =>
  (rangeByte 10 240 a.holdTime).bind fun hold =>
  (rangeWord 30 600 a.curtainLimit).bind fun curtain =>
  (rangeWord 800 3000 a.purgeOn).bind fun on =>
  (rangeWord 400 (on - 100) a.purgeOff).bind fun off =>
  (rangeWord 60 900 a.saturationTime).bind fun sat =>
  (rangeWord 60 900 a.stopDelay).bind fun stop =>
  (rangeByte 10 50 a.minFreshAir).bind fun fresh =>
  (rangeWord 100 2000 a.pollInterval).bind fun poll =>
  (rangeWord 5 300 a.travelBlower).bind fun tb =>
  (rangeWord 5 300 a.travelDamper).bind fun td =>
  (rangeWord 5 300 a.travelValve).bind fun tv =>
  (rangeWord 5 300 a.travelCompressor).bind fun tc =>
  (rangeWord 5 300 a.travelAuxheat).map fun ta =>
    { zone := ⟨vent, blower, band, hold, curtain, on, off⟩, saturationTime := sat, stopDelay := stop
      minFreshAir := fresh, field := ⟨poll, tb, td, tv, tc, ta⟩ }

/-- R155: each owning block takes its new values in the same event. -/
def State.tune (s : State) (t : Tuning) : State :=
  { s with
    zones := { s.zones with tuning := t.zone }
    arb := { s.arb with saturationTime := t.saturationTime }
    plant := { s.plant with stopDelay := t.stopDelay, minFreshAir := t.minFreshAir }
    nodes := { s.nodes with tuning := t.field } }

/-- R155. -/
def State.takeTuneDef (s : State) (a : TuneDefArgs) : Taken :=
  withField s (checkTuneDef a) fun t => accept (s.tune t).configChange

/-! ## Part state (R156 to R158, R163, R166) -/

/-- R156 to R158. -/
def State.takeCommission (s : State) : Taken :=
  match s.validate with
  | some b => (s.setOp { s.op with lastRefusal := some b }, refuseBadConfig b)
  | none => accept s.enterCommissioning

/-- R163. -/
def State.takeShutdown (s : State) : Taken := accept s.enterStopping

/-- R162, R164, R166: the soft reset begins with the reply. The commissioning sequence and the wait for rest end with it
(`State.commissions`, `State.restReport`). -/
def State.takeRestart (s : State) : Taken := accept (s.setOp { s.op with soft := .reply })

/-! ## Zones (R8, R9, R33, R39, R43) -/

/-- The zone controller's first two checks: the zone number, and that the zone is active. -/
def State.withZone (s : State) (zone : Byte) (f : Zone → Taken) : Taken :=
  withField s (zoneOfNat zone.toNat) fun z =>
  if (s.zone z).active then f z else (s, refuseNotActive)

/-- R8: the value 160 to 300 and, for source PANEL, within the panel band of the plan setpoint. -/
def State.setpointAllowed (s : State) (z : Zone) (src : Source) (v : Int) : Bool :=
  match src with
  | .panel =>
    decide ((s.zone z).planSetpoint - s.zones.tuning.panelBand ≤ v) &&
    decide (v ≤ (s.zone z).planSetpoint + s.zones.tuning.panelBand)
  | .driver => true
  | .service => true

/-- R8: the setpoint change of a source at a zone. -/
def State.changeSetpointBy (s : State) (z : Zone) (src : Source) (v : Int) : State :=
  s.changeSetpoint z (s.setpointChange src v)

/-- R8. -/
def State.takeSetpoint (s : State) (zone : Byte) (src : Source) (value : Word) : Taken :=
  s.withZone zone fun z =>
  withField s (setpointField value) fun v =>
  if s.setpointAllowed z src v then accept (s.changeSetpointBy z src v) else badArgument s

/-- R9. -/
def State.takePlan (s : State) (zone : Byte) (src : Source) (mode : Byte) (value : Word) : Taken :=
  s.withZone zone fun z =>
  withField s (baseModeOfNat mode.toNat) fun m =>
  withField s (setpointField value) fun v =>
  if s.setpointAllowed z src v then accept (s.changePlan z m (s.setpointChange src v)) else badArgument s

/-- R33: every zone of the door's map, in ascending number. -/
def State.eachDoorZone (s : State) (d : Door) (f : State → Zone → State) : State :=
  let map := s.zones.doorMap[d]
  s.eachZone (fun s z => if map.getLsbD z.val then f s z else s)

/-- R33 to R35. -/
def State.takeDoor (s : State) (door action : Byte) : Taken :=
  withField s (doorOfNat door.toNat) fun d =>
  if action = 1#8 then accept (s.eachDoorZone d (·.doorOpened d ·))
  else if action = 2#8 then accept (s.eachDoorZone d (·.doorClosed d ·))
  else badArgument s

/-- R43: a DEFOG of one minute or more. -/
def State.defogFor (s : State) (z : Zone) (minutes : Nat) : State :=
  let until_ := s.now + minutes * Config.minute
  if (s.zone z).hasEntry .defog then s.modZone z (fun r => { r with defogTimer := some until_ })
  else s.changeMode z (fun r => { r.pushEntry .defog none s.now with defogTimer := some until_ })

/-- R43. -/
def State.takeDefog (s : State) (zone : Byte) (duration : Byte) : Taken :=
  s.withZone zone fun z =>
  withField s (rangeByte 0 30 duration) fun d =>
  accept (if d = 0 then s.endOverride z .defog else s.defogFor z d)

/-- R39. -/
def State.takePurge (s : State) (zone : Byte) (action : Byte) : Taken :=
  s.withZone zone fun z =>
  if action = 1#8 then accept (s.startOverride z .purge (some .host))
  else if action = 2#8 then accept (s.endOverride z .purge)
  else badArgument s

/-! ## The plant (R72, R95, R101) -/

/-- R72, R74: a change of band. -/
def State.setBand (s : State) (b : EngineBand) : State :=
  (s.setPlant { s.plant with band := b }).allowedChanged s.allowedStages

/-- R72, R93, R102: a change of coolant level. -/
def State.setCoolant (s : State) (level : Nat) : State :=
  if s.plant.coolant = level then s
  else (s.setPlant { s.plant with coolant := level }).refreshHeat.testStopDelay

/-- R72. The effects of a new band stand before those of a new level (DESIGN CHOICE, log 58: R72 orders the two checks,
not the effects). -/
def State.takeEngine (s : State) (band level : Byte) : Taken :=
  withField s (bandField band) fun b =>
  withField s (rangeByte 0 3 level) fun l =>
  accept ((s.setBand b).setCoolant l)

/-- R95. -/
def State.takeAux (s : State) (action : Byte) : Taken :=
  if action = 1#8 then accept (s.setHeater { s.plant.heater with permit := true }).heaterStart
  else if action = 2#8 then accept (s.setHeater { s.plant.heater with permit := false }).heaterStop
  else badArgument s

/-- R101. -/
def State.takeAuxClear (s : State) : Taken :=
  if s.plant.heater.state = .lockedOut then
    accept (((s.setHeater { s.plant.heater with failures := 0 }).enterHeater .off).heaterStart)
  else accept s

/-! ## The node manager (R147) -/

def retryField (b : Byte) : Option RetryAction :=
  if b = 1#8 then some .check else if b = 2#8 then some .reset else none

/-- R147: a retry of a node in FAULT; one under way absorbs it. -/
def State.retryNode (s : State) (n : NodeId) (a : RetryAction) : State :=
  if (s.node n).retryStep = none then s.startRetry n a else s

/-- R147. -/
def State.takeNodeRetry (s : State) (address action : Byte) : Taken :=
  withField s (nodeOfNat address.toNat) fun n =>
  withField s (retryField action) fun a =>
  if (s.node n).state = .fault then accept (s.retryNode n a) else (s, refuseNodeState (s.node n).state)

/-! ## The condition block (R181, R182) -/

/-- The sticky conditions with the places of their bits (R185). -/
def stickyPlaces : List (Nat × StickyCond) :=
  [(0, .compFault), (1, .nodeOffline), (2, .nodeFault), (4, .sensorLost), (6, .zoneSaturated), (7, .curtainExpired),
   (8, .purgeAuto), (9, .linkOverrun), (10, .commissionDone)]

/-- A condition set, its four upper bits 0 (R185). -/
def condSetField (w : Word) : Option (BitVec 12) :=
  if w.extractLsb' 12 4 = 0#4 then some (w.extractLsb' 0 12) else none

/-- R181: each named sticky condition is cleared; a level condition is not. -/
def CondBlock.clearNamed (c : CondBlock) (set : BitVec 12) : CondBlock :=
  stickyPlaces.foldl (fun c p => if set.getLsbD p.1 then c.setSticky p.2 .clear else c) c

/-- R181, R19: the zone flags that go with the named conditions. -/
def ZoneFlags.clearNamed (f : ZoneFlags) (set : BitVec 12) (sound : Bool) : ZoneFlags :=
  { saturated := f.saturated && !set.getLsbD 6
    sensorLost := f.sensorLost && !set.getLsbD 4
    actuatorFault := f.actuatorFault && !((set.getLsbD 1 || set.getLsbD 2) && sound)
    curtainExpired := f.curtainExpired && !set.getLsbD 7 }

/-- R181: the zone controller's part of a clear. -/
def State.clearZoneFlags (s : State) (set : BitVec 12) : State :=
  s.eachZone (fun s z =>
    s.modZone z (fun r => { r with flags := r.flags.clearNamed set (s.actuatorsSound z) }))

/-- R181. -/
def State.takeCondClear (s : State) (set : Word) : Taken :=
  withField s (condSetField set) fun named =>
  let s := (s.setCond (s.cond.clearNamed named)).clearZoneFlags named
  (s, .ok (condSetBytes s.cond.pendingSet))

/-- R182. -/
def State.takeCondMask (s : State) (set : Word) (enable : Byte) : Taken :=
  withField s (condSetField set) fun mask =>
  withField s (flagField enable) fun e =>
  accept (s.setCond { s.cond with mask := mask, enable := e })

end Sys2Proof.Machine
end

