-- ==== Sys2Proof/Machine/Queries.lean ====
section
/-! DEFINITION. The payloads of the six query replies, byte by byte as chapter 11.4 lays them out. A query reads the
state and changes nothing, so each is a function of the state. -/
namespace Sys2Proof.Machine

/-! ## STATE_QUERY (R167), 36 bytes -/

/-- How many of a list fit. -/
def countOf (l : List α) (p : α → Bool) : Nat := (l.filter p).length

def configuredNodes (s : State) : List NodeId := allNodes.filter (fun n => (s.node n).configured)

/-- Configured nodes in a state. -/
def nodesIn (s : State) (st : NodeState) : Nat :=
  countOf (configuredNodes s) (fun n => decide ((s.node n).state = st))

/-- R158, R167: the last refusal, item kind 0 for none. -/
def refusalBytes : Option BadConfig → List Byte
  | none => [0#8, 0#8, 0#8]
  | some b => [byteOf b.item.code, byteOf b.number, byteOf b.check.code]

/-- R167: at rest 1, not 0; outside STOPPING not applicable, 2. -/
def restByte (s : State) (rest : Bool) : Byte := if s.op.state = .stopping then flagByte rest else 2#8

def stateHead (s : State) : List Byte :=
  byteOf s.op.state.code :: natBytes2 (ageSeconds s.op.entered s.now) ++
    [byteOf s.op.cause.code, flagByte s.op.configChanged] ++ refusalBytes s.op.lastRefusal

/-- R167: outside COMMISSIONING the count is 0 and the mark clear. -/
def commissioningBytes (s : State) : List Byte :=
  byteOf (configuredNodes s).length ::
    (if s.op.state = .commissioning then
      [byteOf (countOf (configuredNodes s) (fun n => s.op.done[n])), flagByte s.op.haltSent]
    else [0#8, 0#8])

def stateCounts (s : State) : List Byte :=
  [restByte s s.plant.seq.state.atRest, restByte s s.plant.heater.state.atRest,
   byteOf (countOf allZones (fun z => (s.zone z).active)),
   byteOf (nodesIn s .unknown), byteOf (nodesIn s .starting), byteOf (nodesIn s .ready), byteOf (nodesIn s .busy),
   byteOf (nodesIn s .offline), byteOf (nodesIn s .fault)]

/-- R174: the protection record, range 0 and 0 for none. -/
def protectionBytes (p : Protection) : List Byte :=
  (match p.range with
    | none => [0#8, 0#8]
    | some (a, b) => [byteOf a, byteOf b]) ++ [byteOf p.level.code, flagByte p.locked]

def stateReply (s : State) : List Byte :=
  stateHead s ++ commissioningBytes s ++ stateCounts s ++
    (allDoors.map (fun d => zoneSetBytes s.zones.doorMap[d])).flatten ++ protectionBytes s.port.protection

/-! ## ZONE_QUERY (R25), 56 bytes -/

def zoneConfigBytes (z : Zone) (r : ZoneRec) : List Byte :=
  [byteOf z.number, flagByte r.active, byteOf r.rank, byteOf r.wmax, byteOf r.deadband, byteOf r.loopPeriod,
   nodeByte r.sensor, nodeByte r.blower, nodeByte r.valve, nodeByte r.damper] ++
  tempBytes (some r.planSetpoint) ++ [byteOf r.baseMode.code]

/-- Bits 0 to 3 the open-door set, bit 7 the curtain-spent marker. -/
def doorByte (r : ZoneRec) : Byte := r.openDoors.zeroExtend 8 ||| (if r.curtainSpent then 0x80#8 else 0#8)

def zoneRunBytes (r : ZoneRec) : List Byte :=
  tempBytes r.tempSetpoint ++ tempBytes r.temperature ++ co2Bytes r.co2 ++
  [byteOf r.sensorStatus.code, byteOf r.missed, byteOf r.direction.code, byteOf r.want, byteOf r.claimRank,
   r.flags.byte, doorByte r]

/-- An entry byte, the kind in bits 0 to 3 and the cause in bits 4 and 5, and the entry's age. -/
def entryBytes (now : Time) (e : ModeEntry) : List Byte :=
  byteOf (e.kind.code + 16 * causeCode e.cause) :: natBytes2 (ageSeconds e.start now)

/-- Four entries from the bottom, the unused ones 0. -/
def stackBytes (now : Time) (r : ZoneRec) : List Byte :=
  [byteOf r.effMode.code, byteOf r.stack.length] ++
  ((r.stack.reverse.map (entryBytes now)).flatten ++ List.replicate 12 0#8).take 12

def zoneTimerBytes (now : Time) (r : ZoneRec) : List Byte :=
  natBytes2 (timeLeft Config.second r.loopTimer now) ++ natBytes2 (timeLeft Config.second r.holdTimer now) ++
  natBytes2 (timeLeft Config.second r.defogTimer now) ++ natBytes2 (timeLeft Config.second r.curtainTimer now)

/-- R25: the grant and the claim as the arbiter holds them. -/
def zoneShareBytes (s : State) (z : Zone) : List Byte :=
  (match s.arb.grantOf z with
    | none => [0#8, 0#8]
    | some (p, u) => [byteOf p.code, byteOf u]) ++
  (match s.arb.claimOf z with
    | none => [0#8, 0#8, 0#8, 0#8, 0#8, 0#8]
    | some (p, c) =>
      [byteOf p.code, byteOf c.units, byteOf c.rank, byteOf c.passed] ++ natBytes2 (ageSeconds c.filed s.now))

def zoneReply (s : State) (z : Zone) : List Byte :=
  let r := s.zone z
  zoneConfigBytes z r ++ zoneRunBytes r ++ stackBytes s.now r ++ zoneTimerBytes s.now r ++ zoneShareBytes s z

/-! ## POOL_QUERY (R71) -/

inductive PoolList
  | grants | claims
  deriving DecidableEq, Repr

def listField (b : Byte) : Option PoolList :=
  if b = 1#8 then some .grants else if b = 2#8 then some .claims else none

/-- Into its place by ascending grant number. -/
def insertGrant (g : Grant) : List Grant → List Grant
  | [] => [g]
  | x :: q => if g.number ≤ x.number then g :: x :: q else x :: insertGrant g q

def sortGrants (q : List Grant) : List Grant := q.foldr insertGrant []

def grantBytes (s : State) (g : Grant) : List Byte :=
  [byteOf g.zone.number, byteOf g.units] ++ natBytes4 g.number ++ [byteOf (s.zone g.zone).claimRank]

def claimBytes (now : Time) (c : Claim) : List Byte :=
  [byteOf c.zone.number, byteOf c.units, byteOf c.rank] ++ natBytes4 c.arrival ++ [byteOf c.passed] ++
  natBytes2 (ageSeconds c.filed now) ++ [flagByte c.saturated]

/-- R71: the entries chosen: up to 7 grants or 4 claims from the first index. -/
def poolEntries (s : State) (p : Pool) (l : PoolList) (first : Nat) : List (List Byte) :=
  match l with
  | .grants => (((sortGrants p.grants).drop first).take 7).map (grantBytes s)
  | .claims => ((p.claims.drop first).take 4).map (claimBytes s.now)

def poolReply (s : State) (i : PoolId) (l : PoolList) (first : Nat) : List Byte :=
  let p := s.arb.pool i
  let es := poolEntries s p l first
  [byteOf i.code, byteOf p.capacity, byteOf p.grantedTotal, byteOf p.free, byteOf p.grants.length,
   byteOf p.claims.length, (match l with | .grants => 1#8 | .claims => 2#8), byteOf first, byteOf es.length] ++
  es.flatten

/-! ## NODE_QUERY (R152), 34 bytes and 2 for each queued entry -/

/-- The pending move's argument, absent 0xFF. -/
def pendingArgByte : Option PendingMove → Byte
  | none => 0xFF#8
  | some p => byteOf p.argument

/-- The pending move's origin, 0 when absent. -/
def pendingOriginByte : Option PendingMove → Byte
  | none => 0#8
  | some p => byteOf p.origin.code

/-- Chapter 11.4: four bytes: a SENSOR's temperature and CO2, or one byte and three of 0 (log 22). -/
def valueBytes (k : Option NodeKind) (v : Option Value) : List Byte :=
  match v with
  | some (.reading t c) => tempBytes (some t) ++ co2Bytes (some c)
  | some (.num n) => [byteOf n, 0#8, 0#8, 0#8]
  | none => if k = some .sensor then tempBytes none ++ co2Bytes none else [0xFF#8, 0#8, 0#8, 0#8]

/-- Bit 0 version present, bit 1 busy since present, bit 2 transaction in flight. -/
def presenceByte (s : State) (n : NodeId) : Byte :=
  let flight := match s.line.inFlight with
    | none => false
    | some t => decide (t.node = some n)
  flagBits 8 0 [(s.node n).version.isSome, (s.node n).busySince.isSome, flight]

/-- The version, 0 when absent (log 22). -/
def versionByte : Option Byte → Byte
  | none => 0#8
  | some v => v

def nodeRecordBytes (n : NodeId) (r : NodeRec) : List Byte :=
  [byteOf n.address, flagByte r.configured, byteOf (kindCode r.kind), byteOf (ownerCode r.binding),
   byteOf (roleCode r.binding), byteOf r.state.code, byteOf r.failCount, byteOf r.wakeCount,
   byteOf (startCauseCode r.cause), argByte r.target, pendingArgByte r.pending, pendingOriginByte r.pending] ++
  valueBytes r.kind r.value ++ [argByte r.nodeTarget, versionByte r.version]

/-- R152: the time since busy since, in whole seconds. -/
def busyAge (now : Time) : Option Time → Nat
  | none => 0
  | some t => ageSeconds t now

def nodeTimerBytes (now : Time) (r : NodeRec) : List Byte :=
  natBytes2 (timeLeft Config.ms r.wakeTimer now) ++ natBytes2 (timeLeft Config.ms r.pollTimer now) ++
  natBytes2 (timeLeft Config.second r.travelTimer now) ++ natBytes2 (timeLeft Config.second r.revivalTimer now) ++
  natBytes2 (busyAge now r.busySince)

/-- The queue's entries for a node. -/
def entriesFor (s : State) (n : NodeId) : List Entry := s.nodes.queue.filter (fun e => decide (e.node = some n))

/-- The command in bits 0 to 3 with bit 7 set for URGENT; the argument, or 0. -/
def queuedBytes (e : Entry) : List Byte :=
  [byteOf (e.cmd.code + (if e.urgent then 128 else 0)), byteOf (if e.cmd = .move then e.argument else 0)]

def nodeReply (s : State) (n : NodeId) : List Byte :=
  let r := s.node n
  let mine := entriesFor s n
  nodeRecordBytes n r ++ [presenceByte s n, byteOf (faultReasonCode r.faultReason), byteOf (retryCode r.retryOwed)] ++
  nodeTimerBytes s.now r ++
  [byteOf (countOf s.nodes.queue (·.urgent)), byteOf (countOf s.nodes.queue (fun e => !e.urgent)),
   byteOf mine.length] ++ (mine.map queuedBytes).flatten

/-! ## PLANT_QUERY (R109), 35 bytes -/

def sequencerBytes (s : State) : List Byte :=
  let q := s.plant.seq
  [byteOf q.state.code, byteOf q.state.k, byteOf q.state.committed, byteOf s.allowedStages, flagByte q.holdMet,
   flagByte q.minRunExpired, byteOf s.arb.cool.capacity] ++
  natBytes2 (timeLeft Config.second q.minRunTimer s.now) ++ [byteOf (timeLeft Config.second q.holdTimer s.now)] ++
  natBytes2 (timeLeft Config.second q.lockoutTimer s.now) ++ [byteOf (timeLeft Config.second q.pollTimer s.now)]

def heaterBytes (s : State) : List Byte :=
  let h := s.plant.heater
  [byteOf h.state.code, byteOf h.failures, flagByte h.permit, flagByte h.stopMark, byteOf s.plant.coolantOnly,
   byteOf s.arb.heat.capacity, byteOf (timeLeft Config.second h.igniteWaitTimer s.now)] ++
  natBytes2 (timeLeft Config.second h.stopDelayTimer s.now) ++
  [byteOf (timeLeft Config.second h.flamePollTimer s.now)]

def viewBytes (v : PoolView) : List Byte := [flagByte v.nonEmpty, byteOf v.granted]

def plantReply (s : State) : List Byte :=
  let p := s.plant
  [byteOf p.band.code, byteOf p.coolant, flagByte p.shedView] ++ sequencerBytes s ++ heaterBytes s ++
  [byteOf p.purgeCount, argByte p.intakeTarget, nodeByte p.defn.compressor, nodeByte p.defn.auxHeater,
   nodeByte p.defn.intake] ++ viewBytes p.viewHeat ++ viewBytes p.viewCool

/-! ## COND_QUERY (R184), 25 bytes -/

def stickyBytes (r : Sticky) : List Byte :=
  [byteOf r.count, (match r.last with | none => 0#8 | some i => byteOf i)]

def condReply (s : State) : List Byte :=
  let c := s.cond
  byteOf (firstBit (c.pendingSet &&& c.mask)) :: condSetBytes c.pendingSet ++ condSetBytes c.mask ++
  [flagByte c.enable, flagByte s.attnDriven] ++ (stickyPlaces.map (fun p => stickyBytes (c.sticky p.2))).flatten

/-! ## The queries -/

/-- R25. -/
def State.takeZoneQuery (s : State) (zone : Byte) : Taken :=
  withField s (zoneOfNat zone.toNat) fun z => (s, .ok (zoneReply s z))

/-- R71. -/
def State.takePoolQuery (s : State) (pool list first : Byte) : Taken :=
  withField s (poolField pool) fun i =>
  withField s (listField list) fun l =>
  withField s (rangeByte 0 23 first) fun f => (s, .ok (poolReply s i l f))

/-- R152. -/
def State.takeNodeQuery (s : State) (address : Byte) : Taken :=
  withField s (nodeOfNat address.toNat) fun n => (s, .ok (nodeReply s n))

end Sys2Proof.Machine
end

