-- ==== Sys2Proof/Machine/Port.lean ====
section
/-! DEFINITION. The body link port (chapter 9): the request kinds, the checks of R172 in their order, the range tag
and the protection record, the holding slot, the receiver, and the meaning of each request row, of the frame events
and of the hardware lines. -/
namespace Sys2Proof.Machine

/-! ## Request kinds (chapter 11.3) -/

inductive Kind
  | zoneDef | nodeDef | doorDef | plantDef | tuneDef
  | commission | shutdown | restart
  | plan | setpoint | rangeOpen | rangeClose | rangeApply
  | door | engine | defog | purge | aux | auxClear | nodeRetry | protectLock
  | stateQuery | zoneQuery | poolQuery | nodeQuery | plantQuery | condQuery | condClear | condMask
  deriving DecidableEq, Repr

def Kind.code : Kind → Byte
  | .zoneDef => 0x01#8 | .nodeDef => 0x02#8 | .doorDef => 0x03#8 | .plantDef => 0x04#8 | .tuneDef => 0x05#8
  | .commission => 0x10#8 | .shutdown => 0x11#8 | .restart => 0x12#8
  | .plan => 0x20#8 | .setpoint => 0x21#8 | .rangeOpen => 0x22#8 | .rangeClose => 0x23#8 | .rangeApply => 0x24#8
  | .door => 0x25#8 | .engine => 0x26#8 | .defog => 0x27#8 | .purge => 0x28#8 | .aux => 0x29#8
  | .auxClear => 0x2A#8 | .nodeRetry => 0x2B#8 | .protectLock => 0x2C#8
  | .stateQuery => 0x40#8 | .zoneQuery => 0x41#8 | .poolQuery => 0x42#8 | .nodeQuery => 0x43#8
  | .plantQuery => 0x44#8 | .condQuery => 0x45#8 | .condClear => 0x46#8 | .condMask => 0x47#8

def allKinds : List Kind :=
  [.zoneDef, .nodeDef, .doorDef, .plantDef, .tuneDef, .commission, .shutdown, .restart, .plan, .setpoint,
   .rangeOpen, .rangeClose, .rangeApply, .door, .engine, .defog, .purge, .aux, .auxClear, .nodeRetry, .protectLock,
   .stateQuery, .zoneQuery, .poolQuery, .nodeQuery, .plantQuery, .condQuery, .condClear, .condMask]

/-- R172, step 1. -/
def requestKind (b : Byte) : Option Kind := allKinds.find? (fun k => k.code == b)

/-- Chapter 11.3: the payload's length. -/
def Kind.length : Kind → Nat
  | .zoneDef => 13 | .nodeDef => 3 | .doorDef => 4 | .plantDef => 17 | .tuneDef => 27
  | .commission => 0 | .shutdown => 0 | .restart => 0
  | .plan => 5 | .setpoint => 4 | .rangeOpen => 1 | .rangeClose => 1 | .rangeApply => 4
  | .door => 2 | .engine => 2 | .defog => 3 | .purge => 3 | .aux => 1
  | .auxClear => 0 | .nodeRetry => 2 | .protectLock => 0
  | .stateQuery => 0 | .zoneQuery => 1 | .poolQuery => 3 | .nodeQuery => 1
  | .plantQuery => 0 | .condQuery => 0 | .condClear => 2 | .condMask => 3

/-- In which part states a kind is taken: four rows of the table of R172. -/
inductive TakenIn
  | anyState | configuration | underWay | runOnly
  deriving DecidableEq, Repr

def Kind.takenIn : Kind → TakenIn
  | .zoneDef => .configuration | .nodeDef => .configuration | .doorDef => .configuration
  | .plantDef => .configuration | .tuneDef => .configuration | .commission => .configuration
  | .shutdown => .underWay | .restart => .anyState
  | .plan => .runOnly | .setpoint => .runOnly | .rangeOpen => .runOnly | .rangeClose => .runOnly
  | .rangeApply => .runOnly | .door => .runOnly | .defog => .runOnly | .purge => .runOnly | .aux => .runOnly
  | .auxClear => .runOnly | .nodeRetry => .runOnly
  | .engine => .anyState | .protectLock => .anyState
  | .stateQuery => .anyState | .zoneQuery => .anyState | .poolQuery => .anyState | .nodeQuery => .anyState
  | .plantQuery => .anyState | .condQuery => .anyState | .condClear => .anyState | .condMask => .anyState

def TakenIn.includes : TakenIn → PartState → Bool
  | .anyState, _ => true
  | .configuration, p => decide (p = .config) || decide (p = .stopped)
  | .underWay, p => decide (p = .commissioning) || decide (p = .run)
  | .runOnly, p => decide (p = .run)

/-! ## The range tag (R176) -/

/-- How a kind acts on the tag. -/
inductive TagEffect
  | keeps | opens | closes | applies | clears
  deriving DecidableEq, Repr

def Kind.tagEffect : Kind → TagEffect
  | .stateQuery => .keeps | .zoneQuery => .keeps | .poolQuery => .keeps | .nodeQuery => .keeps
  | .plantQuery => .keeps | .condQuery => .keeps
  | .rangeOpen => .opens | .rangeClose => .closes | .rangeApply => .applies
  | .zoneDef => .clears | .nodeDef => .clears | .doorDef => .clears | .plantDef => .clears | .tuneDef => .clears
  | .commission => .clears | .shutdown => .clears | .restart => .clears | .plan => .clears | .setpoint => .clears
  | .door => .clears | .engine => .clears | .defog => .clears | .purge => .clears | .aux => .clears
  | .auxClear => .clears | .nodeRetry => .clears | .protectLock => .clears
  | .condClear => .clears | .condMask => .clears

/-- R172 step 2: the tag after the request's kind has acted on it; RANGE_OPEN and RANGE_CLOSE write it later. -/
def TagEffect.after (e : TagEffect) (found : RangeTag) : RangeTag :=
  match e with
  | .keeps => found
  | .closes => found
  | .opens => .none
  | .applies => .none
  | .clears => .none

/-- R176, R177: the tag checks that give SEQUENCE_ERROR. -/
def TagEffect.outOfSequence (e : TagEffect) (found : RangeTag) : Bool :=
  match e, found with
  | .closes, .none => true
  | .closes, .opened _ => false
  | .closes, .closed _ _ => false
  | .applies, .none => true
  | .applies, .opened _ => true
  | .applies, .closed _ _ => false
  | .keeps, _ => false
  | .opens, _ => false
  | .clears, _ => false

def Answer.isOk : Answer → Bool
  | .ok _ => true
  | .unknownKind => false
  | .checkFailed => false
  | .sequenceError => false
  | .badArgument => false
  | .refused _ => false

/-- R176: RANGE_CLEARED: the request found a tag and left it NONE, or cleared it before opening a new one, without
applying it. -/
def TagEffect.cleared (e : TagEffect) (found : RangeTag) (a : Answer) : Bool :=
  match e with
  | .keeps => false
  | .closes => false
  | .opens => decide (found ≠ .none)
  | .clears => decide (found ≠ .none)
  | .applies => decide (found ≠ .none) && !a.isOk

def State.setTag (s : State) (t : RangeTag) : State := s.setPort { s.port with tag := t }

/-- R176: RANGE_OPEN. -/
def State.takeRangeOpen (s : State) (first : Byte) : Taken :=
  withField s (rangeByte 1 24 first) fun f => accept (s.setTag (.opened f))

/-- R176: RANGE_CLOSE, with the tag that the request found. -/
def State.takeRangeClose (s : State) (found : RangeTag) (last : Byte) : Taken :=
  match found with
  | .none => (s, .sequenceError)
  | .opened f => withField s (rangeByte f 24 last) fun l => accept (s.setTag (.closed f l))
  | .closed f _ => withField s (rangeByte f 24 last) fun l => accept (s.setTag (.closed f l))

/-! ## Protection (R174, R175) -/

/-- R174: the level covers the source. -/
def ProtectLevel.covers : ProtectLevel → Source → Bool
  | .panelOnly, .panel => true
  | .panelOnly, .driver => false
  | .panelAndDriver, .panel => true
  | .panelAndDriver, .driver => true
  | _, .service => false

/-- R174: a zone number in the protected range. -/
def Protection.inRange (p : Protection) (zone : Nat) : Bool :=
  match p.range with
  | none => false
  | some (a, b) => decide (a ≤ zone) && decide (zone ≤ b)

/-- R174: a zone is protected against a source. -/
def Protection.bars (p : Protection) (zone : Nat) (src : Source) : Bool := p.inRange zone && p.level.covers src

/-- R172, steps 5 and 6: source, then protection of the zone named. -/
def State.withSource (s : State) (zone source : Byte) (f : Source → Taken) : Taken :=
  withField s (sourceField source) fun src =>
  if s.port.protection.bars zone.toNat src then (s, refuseProtected) else f src

/-- R175: the KEY line in LOCK with the lock flag set. -/
def State.keyLocked (s : State) : Bool := s.port.protection.locked && decide (s.key = .lock)

def State.setProtection (s : State) (p : Protection) : State := s.setPort { s.port with protection := p }

/-- R175. -/
def State.takeProtectLock (s : State) : Taken :=
  if s.keyLocked then (s, refuseLocked) else accept (s.setProtection { s.port.protection with locked := true })

/-! ## RANGE_APPLY (R177, R178) -/

inductive RangeAction
  | planMode (m : BaseMode)
  | planSetpoint (v : Int)
  | protect (l : ProtectLevel)
  | unprotect
  deriving DecidableEq, Repr

/-- R177, check 3; the two-byte argument is read as one number (R185). -/
def rangeAction (action : Byte) (argument : Word) : Option RangeAction :=
  if action = 1#8 then (baseModeOfNat argument.toNat).map .planMode
  else if action = 2#8 then (setpointField argument).map .planSetpoint
  else if action = 3#8 then (levelOfNat argument.toNat).map .protect
  else if action = 4#8 then some .unprotect
  else none

/-- R177: the zones of a tag, in ascending number. -/
def tagZones (first last : Nat) : List Zone :=
  allZones.filter (fun z => decide (first ≤ z.number) && decide (z.number ≤ last))

/-- R177: whether a PLAN action applies at a zone: active, not protected, and its setpoint change not refused. -/
def State.planApplies (s : State) (src : Source) (v : Option Int) (z : Zone) : Bool :=
  (s.zone z).active && !s.port.protection.bars z.number src &&
  (match v with
    | none => true
    | some v => s.setpointAllowed z src v)

/-- R177: the walk over the tag's zones, zone by zone in the same event. -/
def State.walkTag (s : State) (zs : List Zone) (applies : State → Zone → Bool) (f : State → Zone → State) :
    State × Nat :=
  zs.foldl (fun r z => if applies r.1 z then (f r.1 z, r.2 + 1) else r) (s, 0)

/-- R177: status OK with the two counts. -/
def countsAnswer (applied skipped : Nat) : Answer := .ok [byteOf applied, byteOf skipped]

def State.applyPlan (s : State) (src : Source) (v : Option Int) (f : State → Zone → State) (first last : Nat) :
    Taken :=
  let zs := tagZones first last
  let r := s.walkTag zs (fun s z => s.planApplies src v z) f
  (r.1, countsAnswer r.2 (zs.length - r.2))

/-- R178, step 2: UNPROTECT: the tag's zones leave the range; none when the range would be split. -/
def unprotectRange (range : Option (Nat × Nat)) (first last : Nat) : Option (Option (Nat × Nat)) :=
  match range with
  | none => some none
  | some (a, b) =>
    if last < a ∨ b < first then some (some (a, b))
    else if first ≤ a ∧ b ≤ last then some none
    else if first ≤ a then some (some (last + 1, b))
    else if b ≤ last then some (some (a, first - 1))
    else none

/-- R178: the zones of the tag that are in the protected range. -/
def Protection.inTag (p : Protection) (first last : Nat) : Nat :=
  ((tagZones first last).filter (fun z => p.inRange z.number)).length

/-- R178, steps 3 and 4: the lock, the write and the counts. -/
def State.writeProtection (s : State) (p : Protection) (applied skipped : Nat) : Taken :=
  if p ≠ s.port.protection ∧ s.keyLocked = true then (s, refuseLocked)
  else (s.setProtection p, countsAnswer applied skipped)

/-- R178. -/
def State.applyProtect (s : State) (src : Source) (l : ProtectLevel) (first last : Nat) : Taken :=
  if src = .panel then (s, refuseProtected)
  else
    s.writeProtection { s.port.protection with range := some (first, last), level := l }
      (tagZones first last).length 0

/-- R178. -/
def State.applyUnprotect (s : State) (src : Source) (first last : Nat) : Taken :=
  if src = .panel then (s, refuseProtected)
  else
    match unprotectRange s.port.protection.range first last with
    | none => badArgument s
    | some r =>
      let n := s.port.protection.inTag first last
      s.writeProtection { s.port.protection with range := r } n ((tagZones first last).length - n)

/-- R177, R178: an action on the zones of a CLOSED tag. -/
def State.applyAction (s : State) (src : Source) (a : RangeAction) (first last : Nat) : Taken :=
  match a with
  | .planMode m => s.applyPlan src none (fun s z => s.changePlan z m (fun r => r)) first last
  | .planSetpoint v => s.applyPlan src (some v) (fun s z => s.changeSetpointBy z src v) first last
  | .protect l => s.applyProtect src l first last
  | .unprotect => s.applyUnprotect src first last

/-- R177, checks 1 to 3, with the tag that the request found. -/
def State.takeRangeApply (s : State) (found : RangeTag) (source action : Byte) (argument : Word) : Taken :=
  match found with
  | .none => (s, .sequenceError)
  | .opened _ => (s, .sequenceError)
  | .closed first last =>
    withField s (sourceField source) fun src =>
    withField s (rangeAction action argument) fun a => s.applyAction src a first last

/-! ## Payloads to owners (step 7 of R172) -/

/-- R4, R5: the zone number, then the active flag. -/
def State.takeZoneDef (s : State) (active : Byte) (a : ZoneDefArgs) : Taken :=
  withField s (zoneOfNat a.zone.toNat) fun _ =>
  withField s (flagField active) fun c => if c then s.defineZone a else s.undefineZone a.zone

def zoneDefPayload (active : Byte) (a : ZoneDefArgs) : List Byte :=
  [a.zone, active, a.rank, a.wmax, a.deadband, a.loopPeriod, a.sensor, a.blower, a.valve, a.damper] ++
  wordBytes a.planSetpoint ++ [a.baseMode]

def plantDefPayload (a : PlantDefArgs) : List Byte :=
  [a.compressor, a.u1, a.u2, a.u3, a.u4, a.idleMax, a.cruiseMax, a.pullMax] ++ wordBytes a.minRun ++
  wordBytes a.minOff ++ [a.stageDownHold, a.auxHeater, a.auxUnits, a.coolantUnits, a.intake]

def tuneDefPayload (a : TuneDefArgs) : List Byte :=
  [a.ventLevel, a.minBlower, a.panelBand, a.holdTime] ++ wordBytes a.curtainLimit ++ wordBytes a.purgeOn ++
  wordBytes a.purgeOff ++ wordBytes a.saturationTime ++ wordBytes a.stopDelay ++ [a.minFreshAir] ++
  wordBytes a.pollInterval ++ wordBytes a.travelBlower ++ wordBytes a.travelDamper ++ wordBytes a.travelValve ++
  wordBytes a.travelCompressor ++ wordBytes a.travelAuxheat

/-- A payload of its kind's length goes to the owner; the last arm is never reached after step 4 of R172. -/
def State.ownerTakes (s : State) (k : Kind) (found : RangeTag) (p : List Byte) : Taken :=
  match k with
  | .zoneDef => match p with
    | [z, act, rank, wmax, db, lp, se, bl, va, da, sh, sl, bm] =>
      s.takeZoneDef act ⟨z, rank, wmax, db, lp, se, bl, va, da, joinBytes sh sl, bm⟩
    | _ => badArgument s
  | .nodeDef => match p with
    | [a, c, k] => s.takeNodeDef a c k
    | _ => badArgument s
  | .doorDef => match p with
    | [d, b2, b1, b0] => s.takeDoorDef d (joinZoneSet b2 b1 b0)
    | _ => badArgument s
  | .plantDef => match p with
    | [co, u1, u2, u3, u4, im, cm, pm, rh, rl, oh, ol, sd, ax, au, cu, ik] =>
      s.takePlantDef ⟨co, u1, u2, u3, u4, im, cm, pm, joinBytes rh rl, joinBytes oh ol, sd, ax, au, cu, ik⟩
    | _ => badArgument s
  | .tuneDef => match p with
    | [vl, mb, pb, ht, clh, cll, onh, onl, ofh, ofl, sth, stl, sdh, sdl, fa, pih, pil, bh, bl, dh, dl, vh, vll,
       ch, cl, ah, al] =>
      s.takeTuneDef ⟨vl, mb, pb, ht, joinBytes clh cll, joinBytes onh onl, joinBytes ofh ofl, joinBytes sth stl,
        joinBytes sdh sdl, fa, joinBytes pih pil, joinBytes bh bl, joinBytes dh dl, joinBytes vh vll,
        joinBytes ch cl, joinBytes ah al⟩
    | _ => badArgument s
  | .commission => s.takeCommission
  | .shutdown => s.takeShutdown
  | .restart => s.takeRestart
  | .plan => match p with
    | [z, src, m, vh, vl] => s.withSource z src fun src => s.takePlan z src m (joinBytes vh vl)
    | _ => badArgument s
  | .setpoint => match p with
    | [z, src, vh, vl] => s.withSource z src fun src => s.takeSetpoint z src (joinBytes vh vl)
    | _ => badArgument s
  | .rangeOpen => match p with
    | [f] => s.takeRangeOpen f
    | _ => badArgument s
  | .rangeClose => match p with
    | [l] => s.takeRangeClose found l
    | _ => badArgument s
  | .rangeApply => match p with
    | [src, act, ah, al] => s.takeRangeApply found src act (joinBytes ah al)
    | _ => badArgument s
  | .door => match p with
    | [d, act] => s.takeDoor d act
    | _ => badArgument s
  | .engine => match p with
    | [b, l] => s.takeEngine b l
    | _ => badArgument s
  | .defog => match p with
    | [z, src, d] => s.withSource z src fun _ => s.takeDefog z d
    | _ => badArgument s
  | .purge => match p with
    | [z, src, act] => s.withSource z src fun _ => s.takePurge z act
    | _ => badArgument s
  | .aux => match p with
    | [act] => s.takeAux act
    | _ => badArgument s
  | .auxClear => s.takeAuxClear
  | .nodeRetry => match p with
    | [a, act] => s.takeNodeRetry a act
    | _ => badArgument s
  | .protectLock => s.takeProtectLock
  | .stateQuery => (s, .ok (stateReply s))
  | .zoneQuery => match p with
    | [z] => s.takeZoneQuery z
    | _ => badArgument s
  | .poolQuery => match p with
    | [i, l, f] => s.takePoolQuery i l f
    | _ => badArgument s
  | .nodeQuery => match p with
    | [a] => s.takeNodeQuery a
    | _ => badArgument s
  | .plantQuery => (s, .ok (plantReply s))
  | .condQuery => (s, .ok (condReply s))
  | .condClear => match p with
    | [h, l] => s.takeCondClear (joinBytes h l)
    | _ => badArgument s
  | .condMask => match p with
    | [h, l, e] => s.takeCondMask (joinBytes h l) e
    | _ => badArgument s

/-! ## Taking a frame (R169, R171, R172) -/

/-- R172, steps 2 to 7, for a known kind. -/
def State.takeRequest (s : State) (k : Kind) (p : List Byte) : Taken :=
  let found := s.port.tag
  let s := s.setTag (k.tagEffect.after found)
  if k.takenIn.includes s.op.state then
    if k.tagEffect.outOfSequence found then (s, .sequenceError)
    else if p.length = k.length then s.ownerTakes k found p
    else badArgument s
  else (s, refuseWrongState s.op.state)

/-- R171: the reply is built once the request has been taken, and its sending begins. -/
def State.reply (s : State) (kind tag : Byte) (cleared : Bool) (a : Answer) : State :=
  s.setPort { s.port with
    sending := some
      ⟨kind, tag, statusByte (decide (s.op.state = .commissioning)) cleared s.attnDriven a, a.payload⟩ }

/-- R172: a good frame. -/
def State.takeGood (s : State) (kind tag : Byte) (p : List Byte) : State :=
  match requestKind kind with
  | none => s.reply (if kind.msb then 0xFF#8 else kind + 0x80#8) tag false .unknownKind
  | some k =>
    let r := s.takeRequest k p
    r.1.reply (kind + 0x80#8) tag (k.tagEffect.cleared s.port.tag r.2) r.2

/-- R169: the port takes a frame. -/
def State.takeFrame (s : State) (f : RxFrame) : State :=
  match f with
  | .badLen => s.reply 0xFF#8 0#8 false .checkFailed
  | .whole kind tag p crc =>
    if crc = requestCrc kind tag p then s.takeGood kind tag p else s.reply 0xFF#8 0#8 false .checkFailed

/-- R170: busy from the taking of a frame to the last byte of its reply, and to the end of a soft reset. -/
def State.busy (s : State) : Bool := s.port.sending.isSome || !decide (s.op.soft = .none)

/-- R170: a frame is offered to the holding slot. -/
def State.offer (s : State) (f : RxFrame) : State :=
  if s.port.slot.isSome then s.raise .linkOverrun none
  else if s.busy then s.setPort { s.port with slot := some f }
  else s.takeFrame f

/-- R170: the frame waiting in the slot is taken. -/
def State.takeSlot (s : State) : State :=
  match s.port.slot with
  | none => s
  | some f => (s.setPort { s.port with slot := none }).takeFrame f

/-- R170, R166: the last byte of a reply has been sent. -/
def State.replyEnds (s : State) : State :=
  match s.port.sending with
  | none => s
  | some _ =>
    let s := s.setPort { s.port with sending := none }
    if s.op.soft = .reply then s.orderCut else s.takeSlot

/-! ## The receiver (R168) -/

def State.setRx (s : State) (p : RxPhase) : State :=
  s.setPort { s.port with
    rx := p
    rxTimer := match p with
      | .hunt => none
      | .inFrame _ => some (s.now + Config.frameGap) }

/-- A frame as collected: LEN, KIND, TAG, the payload, CRC high, CRC low. -/
def frameOf (got : List Byte) : RxFrame :=
  match got with
  | _ :: kind :: tag :: rest =>
    let body := rest.take (rest.length - 2)
    match rest.drop (rest.length - 2) with
    | [h, l] => .whole kind tag body (joinBytes h l)
    | _ => .badLen
  | _ => .badLen

/-- R168: one byte from the link. -/
def State.takeByte (s : State) (b : Byte) : State :=
  match s.port.rx with
  | .hunt => if b = 0xC3#8 then s.setRx (.inFrame []) else s
  | .inFrame [] =>
    if 2 ≤ b.toNat ∧ b.toNat ≤ 62 then s.setRx (.inFrame [b]) else (s.setRx .hunt).offer .badLen
  | .inFrame (len :: got) =>
    let all := len :: got ++ [b]
    if all.length < len.toNat + 3 then s.setRx (.inFrame all) else (s.setRx .hunt).offer (frameOf all)

/-- R168: a run of bytes. -/
def State.takeBytes (s : State) (bs : List Byte) : State := bs.foldl State.takeByte s

/-- FRAME_RECEIVED (R168, R170): a run of bytes from the host, one complete frame or any part or number of frames. -/
def execFrameReceived (bytes : List Byte) (s : State) : Host.Outcome State Fault Refusal := s.answer (·.takeBytes bytes)

/-- FRAME_GAP_TIMEOUT (R168): the partial frame is abandoned. -/
def execFrameGapTimeout (s : State) : Host.Outcome State Fault Refusal :=
  s.answer (fun s =>
    match s.port.rxTimer with
    | none => s
    | some t => (s.reach t).setRx .hunt)

/-- REPLY_SENT (R170). -/
def execReplySent (s : State) : Host.Outcome State Fault Refusal := s.answer State.replyEnds

/-! ## The request rows: each a whole good frame of its kind, offered to the slot (log 4) -/

/-- R168, R170: a whole good request frame. -/
def State.hostRequest (s : State) (k : Kind) (tag : Byte) (p : List Byte) : State :=
  s.offer (.whole k.code tag p (requestCrc k.code tag p))

/-- The KEY line's level, an input that the host's side sets (R175, log 5). -/
def State.setKey (s : State) (k : KeyPos) : State := { s with key := k }

/-- ZONE_DEF with its active flag yes (R4). -/
def execZoneDef (tag : Byte) (a : ZoneDefArgs) (s : State) : Host.Outcome State Fault Refusal :=
  s.answer (·.hostRequest .zoneDef tag (zoneDefPayload 1#8 a))
/-- ZONE_DEF with its active flag no (R5). -/
def execZoneDefInactive (tag : Byte) (a : ZoneDefArgs) (s : State) : Host.Outcome State Fault Refusal :=
  s.answer (·.hostRequest .zoneDef tag (zoneDefPayload 0#8 a))
/-- NODE_DEF (R126). -/
def execNodeDef (tag address configured kind : Byte) (s : State) : Host.Outcome State Fault Refusal :=
  s.answer (·.hostRequest .nodeDef tag [address, configured, kind])
/-- DOOR_DEF (R31). -/
def execDoorDef (tag door : Byte) (zones : BitVec 24) (s : State) : Host.Outcome State Fault Refusal :=
  s.answer (·.hostRequest .doorDef tag (door :: zoneSetBytes zones))
/-- PLANT_DEF (R75, R91). -/
def execPlantDef (tag : Byte) (a : PlantDefArgs) (s : State) : Host.Outcome State Fault Refusal :=
  s.answer (·.hostRequest .plantDef tag (plantDefPayload a))
/-- TUNE_DEF (R155). -/
def execTuneDef (tag : Byte) (a : TuneDefArgs) (s : State) : Host.Outcome State Fault Refusal :=
  s.answer (·.hostRequest .tuneDef tag (tuneDefPayload a))
/-- COMMISSION (R156). -/
def execCommission (tag : Byte) (s : State) : Host.Outcome State Fault Refusal :=
  s.answer (·.hostRequest .commission tag [])
/-- SHUTDOWN (R163). -/
def execShutdown (tag : Byte) (s : State) : Host.Outcome State Fault Refusal :=
  s.answer (·.hostRequest .shutdown tag [])
/-- RESTART (R166). -/
def execRestart (tag : Byte) (s : State) : Host.Outcome State Fault Refusal :=
  s.answer (·.hostRequest .restart tag [])
/-- PLAN (R9). -/
def execPlan (tag zone source baseMode : Byte) (setpoint : Word) (s : State) : Host.Outcome State Fault Refusal :=
  s.answer (·.hostRequest .plan tag ([zone, source, baseMode] ++ wordBytes setpoint))
/-- SETPOINT (R8). -/
def execSetpoint (tag zone source : Byte) (setpoint : Word) (s : State) : Host.Outcome State Fault Refusal :=
  s.answer (·.hostRequest .setpoint tag ([zone, source] ++ wordBytes setpoint))
/-- RANGE_OPEN (R176). -/
def execRangeOpen (tag first : Byte) (s : State) : Host.Outcome State Fault Refusal :=
  s.answer (·.hostRequest .rangeOpen tag [first])
/-- RANGE_CLOSE (R176). -/
def execRangeClose (tag last : Byte) (s : State) : Host.Outcome State Fault Refusal :=
  s.answer (·.hostRequest .rangeClose tag [last])
/-- RANGE_APPLY with action PLAN_MODE (R177). -/
def execRangeApplyPlanMode (tag source : Byte) (mode : Word) (s : State) : Host.Outcome State Fault Refusal :=
  s.answer (·.hostRequest .rangeApply tag ([source, 1#8] ++ wordBytes mode))
/-- RANGE_APPLY with action PLAN_SETPOINT (R177). -/
def execRangeApplyPlanSetpoint (tag source : Byte) (setpoint : Word) (s : State) :
    Host.Outcome State Fault Refusal :=
  s.answer (·.hostRequest .rangeApply tag ([source, 2#8] ++ wordBytes setpoint))
/-- RANGE_APPLY with action PROTECT (R178); the KEY line stands as given. -/
def execRangeApplyProtect (tag source : Byte) (level : Word) (key : KeyPos) (s : State) :
    Host.Outcome State Fault Refusal :=
  (s.setKey key).answer (·.hostRequest .rangeApply tag ([source, 3#8] ++ wordBytes level))
/-- RANGE_APPLY with action UNPROTECT (R178); the KEY line stands as given. -/
def execRangeApplyUnprotect (tag source : Byte) (argument : Word) (key : KeyPos) (s : State) :
    Host.Outcome State Fault Refusal :=
  (s.setKey key).answer (·.hostRequest .rangeApply tag ([source, 4#8] ++ wordBytes argument))
/-- DOOR with action OPEN (R34). -/
def execDoorOpen (tag door : Byte) (s : State) : Host.Outcome State Fault Refusal :=
  s.answer (·.hostRequest .door tag [door, 1#8])
/-- DOOR with action CLOSE (R35). -/
def execDoorClose (tag door : Byte) (s : State) : Host.Outcome State Fault Refusal :=
  s.answer (·.hostRequest .door tag [door, 2#8])
/-- ENGINE (R72). -/
def execEngine (tag band level : Byte) (s : State) : Host.Outcome State Fault Refusal :=
  s.answer (·.hostRequest .engine tag [band, level])
/-- DEFOG (R43). -/
def execDefog (tag zone source duration : Byte) (s : State) : Host.Outcome State Fault Refusal :=
  s.answer (·.hostRequest .defog tag [zone, source, duration])
/-- PURGE with action START (R39). -/
def execPurgeStart (tag zone source : Byte) (s : State) : Host.Outcome State Fault Refusal :=
  s.answer (·.hostRequest .purge tag [zone, source, 1#8])
/-- PURGE with action END (R39). -/
def execPurgeEnd (tag zone source : Byte) (s : State) : Host.Outcome State Fault Refusal :=
  s.answer (·.hostRequest .purge tag [zone, source, 2#8])
/-- AUX with action GRANT (R95). -/
def execAuxGrant (tag : Byte) (s : State) : Host.Outcome State Fault Refusal :=
  s.answer (·.hostRequest .aux tag [1#8])
/-- AUX with action WITHDRAW (R95). -/
def execAuxWithdraw (tag : Byte) (s : State) : Host.Outcome State Fault Refusal :=
  s.answer (·.hostRequest .aux tag [2#8])
/-- AUX_CLEAR (R101). -/
def execAuxClear (tag : Byte) (s : State) : Host.Outcome State Fault Refusal :=
  s.answer (·.hostRequest .auxClear tag [])
/-- NODE_RETRY with action CHECK (R147). -/
def execNodeRetryCheck (tag address : Byte) (s : State) : Host.Outcome State Fault Refusal :=
  s.answer (·.hostRequest .nodeRetry tag [address, 1#8])
/-- NODE_RETRY with action RESET (R147). -/
def execNodeRetryReset (tag address : Byte) (s : State) : Host.Outcome State Fault Refusal :=
  s.answer (·.hostRequest .nodeRetry tag [address, 2#8])
/-- PROTECT_LOCK (R175); the KEY line stands as given. -/
def execProtectLock (tag : Byte) (key : KeyPos) (s : State) : Host.Outcome State Fault Refusal :=
  (s.setKey key).answer (·.hostRequest .protectLock tag [])
/-- STATE_QUERY (R167). -/
def execStateQuery (tag : Byte) (s : State) : Host.Outcome State Fault Refusal :=
  s.answer (·.hostRequest .stateQuery tag [])
/-- ZONE_QUERY (R25). -/
def execZoneQuery (tag zone : Byte) (s : State) : Host.Outcome State Fault Refusal :=
  s.answer (·.hostRequest .zoneQuery tag [zone])
/-- POOL_QUERY (R71). -/
def execPoolQuery (tag pool list first : Byte) (s : State) : Host.Outcome State Fault Refusal :=
  s.answer (·.hostRequest .poolQuery tag [pool, list, first])
/-- NODE_QUERY (R152). -/
def execNodeQuery (tag address : Byte) (s : State) : Host.Outcome State Fault Refusal :=
  s.answer (·.hostRequest .nodeQuery tag [address])
/-- PLANT_QUERY (R109). -/
def execPlantQuery (tag : Byte) (s : State) : Host.Outcome State Fault Refusal :=
  s.answer (·.hostRequest .plantQuery tag [])
/-- COND_QUERY (R184). -/
def execCondQuery (tag : Byte) (s : State) : Host.Outcome State Fault Refusal :=
  s.answer (·.hostRequest .condQuery tag [])
/-- COND_CLEAR (R181). -/
def execCondClear (tag : Byte) (set : Word) (s : State) : Host.Outcome State Fault Refusal :=
  s.answer (·.hostRequest .condClear tag (wordBytes set))
/-- COND_MASK (R182). -/
def execCondMask (tag : Byte) (set : Word) (enable : Byte) (s : State) : Host.Outcome State Fault Refusal :=
  s.answer (·.hostRequest .condMask tag (wordBytes set ++ [enable]))

/-! ## The hardware lines (R73, R165) -/

/-- R165: the part is held: the field line is let go, a reply and a frame under way are broken off. -/
def State.hold (s : State) : State :=
  { s with
    held := true
    line := Line.reset
    port := { s.port with rx := .hunt, rxTimer := none, sending := none } }

/-- HARD_RESET_HOLD (R165). -/
def execHardResetHold (s : State) : Host.Outcome State Fault Refusal := .next s.hold

/-- R153: the reset cause that goes with what held the part. -/
def hardCause : HardCause → ResetCause
  | .power => .power
  | .pin => .pin

/-- HARD_RESET (R165): every block takes its reset values. -/
def execHardReset (cause : HardCause) (s : State) : Host.Outcome State Fault Refusal :=
  .next (s.afterReset (hardCause cause))

/-- R73: a change of the SHED_N line: the view, the condition, the allowed stages. -/
def State.shedEvent (s : State) (asserted : Bool) : State :=
  (s.viewShed asserted).allowedChanged s.allowedStages

/-- The level of SHED_N, an input (log 6). -/
def State.setShedLine (s : State) (asserted : Bool) : State := { s with shedLine := asserted }

/-- SHED_N_ASSERTED (R73). -/
def execShedNAsserted (s : State) : Host.Outcome State Fault Refusal :=
  (s.setShedLine true).answer (·.shedEvent true)
/-- SHED_N_RELEASED (R73). -/
def execShedNReleased (s : State) : Host.Outcome State Fault Refusal :=
  (s.setShedLine false).answer (·.shedEvent false)

end Sys2Proof.Machine
end

