-- ==== Sys2Proof/Machine/Dispatch.lean ====
section
/-! DEFINITION. Dispatch: one arm per command, each one direct call of its meaning. -/
namespace Sys2Proof.Machine

def exec (i : Instr) (s : State) : Host.Outcome State Fault Refusal :=
  match i with
  | .frameReceived bytes => Sys2Proof.Machine.execFrameReceived bytes s
  | .frameGapTimeout => Sys2Proof.Machine.execFrameGapTimeout s
  | .replySent => Sys2Proof.Machine.execReplySent s
  | .zoneDef tag a => Sys2Proof.Machine.execZoneDef tag a s
  | .zoneDefInactive tag a => Sys2Proof.Machine.execZoneDefInactive tag a s
  | .nodeDef tag address configured kind => Sys2Proof.Machine.execNodeDef tag address configured kind s
  | .doorDef tag door zones => Sys2Proof.Machine.execDoorDef tag door zones s
  | .plantDef tag a => Sys2Proof.Machine.execPlantDef tag a s
  | .tuneDef tag a => Sys2Proof.Machine.execTuneDef tag a s
  | .commission tag => Sys2Proof.Machine.execCommission tag s
  | .shutdown tag => Sys2Proof.Machine.execShutdown tag s
  | .restart tag => Sys2Proof.Machine.execRestart tag s
  | .plan tag zone source baseMode setpoint => Sys2Proof.Machine.execPlan tag zone source baseMode setpoint s
  | .setpoint tag zone source setpoint => Sys2Proof.Machine.execSetpoint tag zone source setpoint s
  | .rangeOpen tag first => Sys2Proof.Machine.execRangeOpen tag first s
  | .rangeClose tag last => Sys2Proof.Machine.execRangeClose tag last s
  | .rangeApplyPlanMode tag source mode => Sys2Proof.Machine.execRangeApplyPlanMode tag source mode s
  | .rangeApplyPlanSetpoint tag source setpoint => Sys2Proof.Machine.execRangeApplyPlanSetpoint tag source setpoint s
  | .rangeApplyProtect tag source level key => Sys2Proof.Machine.execRangeApplyProtect tag source level key s
  | .rangeApplyUnprotect tag source argument key => Sys2Proof.Machine.execRangeApplyUnprotect tag source argument key s
  | .doorOpen tag door => Sys2Proof.Machine.execDoorOpen tag door s
  | .doorClose tag door => Sys2Proof.Machine.execDoorClose tag door s
  | .engine tag band level => Sys2Proof.Machine.execEngine tag band level s
  | .defog tag zone source duration => Sys2Proof.Machine.execDefog tag zone source duration s
  | .purgeStart tag zone source => Sys2Proof.Machine.execPurgeStart tag zone source s
  | .purgeEnd tag zone source => Sys2Proof.Machine.execPurgeEnd tag zone source s
  | .auxGrant tag => Sys2Proof.Machine.execAuxGrant tag s
  | .auxWithdraw tag => Sys2Proof.Machine.execAuxWithdraw tag s
  | .auxClear tag => Sys2Proof.Machine.execAuxClear tag s
  | .nodeRetryCheck tag address => Sys2Proof.Machine.execNodeRetryCheck tag address s
  | .nodeRetryReset tag address => Sys2Proof.Machine.execNodeRetryReset tag address s
  | .protectLock tag key => Sys2Proof.Machine.execProtectLock tag key s
  | .stateQuery tag => Sys2Proof.Machine.execStateQuery tag s
  | .zoneQuery tag zone => Sys2Proof.Machine.execZoneQuery tag zone s
  | .poolQuery tag pool list first => Sys2Proof.Machine.execPoolQuery tag pool list first s
  | .nodeQuery tag address => Sys2Proof.Machine.execNodeQuery tag address s
  | .plantQuery tag => Sys2Proof.Machine.execPlantQuery tag s
  | .condQuery tag => Sys2Proof.Machine.execCondQuery tag s
  | .condClear tag set => Sys2Proof.Machine.execCondClear tag set s
  | .condMask tag set enable => Sys2Proof.Machine.execCondMask tag set enable s
  | .hardResetHold => Sys2Proof.Machine.execHardResetHold s
  | .hardReset cause => Sys2Proof.Machine.execHardReset cause s
  | .shedNAsserted => Sys2Proof.Machine.execShedNAsserted s
  | .shedNReleased => Sys2Proof.Machine.execShedNReleased s
  | .loopTimerExpiry zone => Sys2Proof.Machine.execLoopTimerExpiry zone s
  | .holdTimerExpiry zone => Sys2Proof.Machine.execHoldTimerExpiry zone s
  | .defogTimerExpiry zone => Sys2Proof.Machine.execDefogTimerExpiry zone s
  | .curtainTimerExpiry zone => Sys2Proof.Machine.execCurtainTimerExpiry zone s
  | .claimSaturation zone => Sys2Proof.Machine.execClaimSaturation zone s
  | .minimumRunExpiry => Sys2Proof.Machine.execMinimumRunExpiry s
  | .stageDownHoldExpiry => Sys2Proof.Machine.execStageDownHoldExpiry s
  | .lockoutExpiry => Sys2Proof.Machine.execLockoutExpiry s
  | .compressorPollExpiry => Sys2Proof.Machine.execCompressorPollExpiry s
  | .igniteWaitExpiry => Sys2Proof.Machine.execIgniteWaitExpiry s
  | .stopDelayExpiry => Sys2Proof.Machine.execStopDelayExpiry s
  | .flamePollExpiry => Sys2Proof.Machine.execFlamePollExpiry s
  | .wakeTimerExpiry node => Sys2Proof.Machine.execWakeTimerExpiry node s
  | .nodePollTimerExpiry node => Sys2Proof.Machine.execNodePollTimerExpiry node s
  | .travelTimerExpiry node => Sys2Proof.Machine.execTravelTimerExpiry node s
  | .revivalTimerExpiry node => Sys2Proof.Machine.execRevivalTimerExpiry node s
  | .pollTickExpiry => Sys2Proof.Machine.execPollTickExpiry s
  | .leadEnd => Sys2Proof.Machine.execLeadEnd s
  | .frameSent => Sys2Proof.Machine.execFrameSent s
  | .trailEnd => Sys2Proof.Machine.execTrailEnd s
  | .replyWindowExpiry => Sys2Proof.Machine.execReplyWindowExpiry s
  | .replyCharacterReceived data mark parity stop => Sys2Proof.Machine.execReplyCharacterReceived data mark parity stop s
  | .replyGapTimeout => Sys2Proof.Machine.execReplyGapTimeout s
  | .closingQuietEnd => Sys2Proof.Machine.execClosingQuietEnd s
  | .drainEnd => Sys2Proof.Machine.execDrainEnd s
  | .broadcastWaitEnd => Sys2Proof.Machine.execBroadcastWaitEnd s
  | .gapEnd => Sys2Proof.Machine.execGapEnd s
  | .cutCharacterEnd => Sys2Proof.Machine.execCutCharacterEnd s

end Sys2Proof.Machine
end

