-- ==== Sys2Proof/Machine/Step.lean ====
section
/-! DEFINITION. One step of the block: the command at the front of the queue is taken whole; on an empty queue one
tick of time passes (DESIGN CHOICE, log 1). -/
namespace Sys2Proof.Machine

/-- The state without the commands waiting, but for those given. -/
def State.withPending (s : State) (q : List Instr) : State := { s with pending := q }

/-- One tick of the clock. -/
def State.tick (s : State) : State := { s with now := s.now + 1 }

/-- One step. -/
def step (s : State) : Host.Outcome State Fault Refusal :=
  match s.pending with
  | [] => .next s.tick
  | c :: rest => exec c (s.withPending rest)

/-- The command that a word spells, put in front of the queue; no word spells one. -/
def State.withFetchWord (s : State) (nbits w : Nat) : State :=
  match decodeTableWord nbits w with
  | none => s
  | some c => s.withPending (c :: s.pending)

end Sys2Proof.Machine
end

