-- ==== Sys2Proof/WellFormed.lean ====
section
/-! DEFINITION. Which commands name things that exist: the zone of a zone's timer and the node of a node's timer.
A request needs no check here, since the part itself answers every payload (R172). -/
namespace Sys2Proof

/-- A zone number (R1: 1 to 24). -/
def zoneNumberOk (z : Nat) : Bool := decide (1 ≤ z) && decide (z ≤ 24)

/-- A node address (R124: 1 to 31). -/
def nodeNumberOk (a : Nat) : Bool := decide (1 ≤ a) && decide (a ≤ 31)

/-- The check of a command: an event of a zone's timer names a zone, an event of a node's timer names a node. -/
def Instr.wellFormed : Instr → Bool
  | .loopTimerExpiry z => zoneNumberOk z
  | .holdTimerExpiry z => zoneNumberOk z
  | .defogTimerExpiry z => zoneNumberOk z
  | .curtainTimerExpiry z => zoneNumberOk z
  | .claimSaturation z => zoneNumberOk z
  | .wakeTimerExpiry a => nodeNumberOk a
  | .nodePollTimerExpiry a => nodeNumberOk a
  | .travelTimerExpiry a => nodeNumberOk a
  | .revivalTimerExpiry a => nodeNumberOk a
  | .frameReceived .. | .frameGapTimeout .. | .replySent .. | .zoneDef .. | .zoneDefInactive ..
  | .nodeDef .. | .doorDef .. | .plantDef .. | .tuneDef .. | .commission .. | .shutdown .. | .restart ..
  | .plan .. | .setpoint .. | .rangeOpen .. | .rangeClose .. | .rangeApplyPlanMode ..
  | .rangeApplyPlanSetpoint .. | .rangeApplyProtect .. | .rangeApplyUnprotect .. | .doorOpen ..
  | .doorClose .. | .engine .. | .defog .. | .purgeStart .. | .purgeEnd .. | .auxGrant .. | .auxWithdraw ..
  | .auxClear .. | .nodeRetryCheck .. | .nodeRetryReset .. | .protectLock .. | .stateQuery ..
  | .zoneQuery .. | .poolQuery .. | .nodeQuery .. | .plantQuery .. | .condQuery .. | .condClear ..
  | .condMask .. | .hardResetHold .. | .hardReset .. | .shedNAsserted .. | .shedNReleased ..
  | .minimumRunExpiry .. | .stageDownHoldExpiry .. | .lockoutExpiry .. | .compressorPollExpiry ..
  | .igniteWaitExpiry .. | .stopDelayExpiry .. | .flamePollExpiry .. | .pollTickExpiry .. | .leadEnd ..
  | .frameSent .. | .trailEnd .. | .replyWindowExpiry .. | .replyCharacterReceived .. | .replyGapTimeout ..
  | .closingQuietEnd .. | .drainEnd .. | .broadcastWaitEnd .. | .gapEnd .. | .cutCharacterEnd .. => true

end Sys2Proof
end

