-- ==== Sys2Proof/Safety.lean ====
section
/-! DEFINITION. What the statements speak of: a port that is free to take a request, the replies, the parts of the
state that each layer of operations leaves as they were, and the invariants of the transaction queue and of the level
conditions. -/
namespace Sys2Proof.Machine

/-! ## The port and its replies -/

/-- R170: not held, not busy, the holding slot empty: a frame offered now is taken at once. -/
abbrev State.portFree (s : State) : Prop :=
  s.held = false ∧ s.port.slot = none ∧ s.port.sending = none ∧ s.op.soft = .none

/-- The five flags of a STATUS byte of which at most one is set (R171). -/
def answerFlags (status : Byte) : Byte := status &&& 0x7C#8

/-- A reply is being sent with this KIND, TAG, answer flag and payload (R171). -/
def State.replies (t : State) (kind tag flag : Byte) (payload : List Byte) : Prop :=
  ∃ r, t.port.sending = some r ∧ r.kind = kind ∧ r.tag = tag ∧ answerFlags r.status = flag ∧ r.payload = payload

/-- Status OK. -/
def State.repliesOk (t : State) (kind tag : Byte) (payload : List Byte) : Prop := t.replies kind tag 0#8 payload
/-- BAD_ARGUMENT. -/
def State.repliesBadArgument (t : State) (kind tag : Byte) : Prop := t.replies kind tag 0x20#8 []
/-- SEQUENCE_ERROR. -/
def State.repliesSequenceError (t : State) (kind tag : Byte) : Prop := t.replies kind tag 0x10#8 []
/-- REFUSED with its reason and further bytes. -/
def State.repliesRefused (t : State) (kind tag : Byte) (payload : List Byte) : Prop :=
  t.replies kind tag 0x40#8 payload

/-- The configuration requests, COMMISSION included, are taken (R172). -/
abbrev State.takesConfiguration (s : State) : Prop := s.op.state = .config ∨ s.op.state = .stopped

/-- A byte's bits, the most significant first. -/
def bitsFromTop (b : Byte) : List Bool := [7, 6, 5, 4, 3, 2, 1, 0].map (fun i => b.getLsbD i)

/-- R169: the CRC register as it takes one bit: it shifts up, and where the bit that leaves it differs from the bit taken,
x^12 + x^5 + 1 is added, the generator below its x^16. -/
def crcTakesBit (r : Word) (b : Bool) : Word := if r.getLsbD 15 = b then r <<< 1 else (r <<< 1) ^^^ 0x1021#16

/-! ## Payload fields in range (R1, R75, R91, R155, R185) -/

/-- A byte field in its range. -/
abbrev byteIn (lo hi : Nat) (b : Byte) : Prop := lo ≤ b.toNat ∧ b.toNat ≤ hi
/-- A two-byte field in its range. -/
abbrev wordIn (lo hi : Nat) (w : Word) : Prop := lo ≤ w.toNat ∧ w.toNat ≤ hi
/-- A setpoint field, 160 to 300. -/
abbrev setpointIn (w : Word) : Prop := 160 ≤ w.toInt ∧ w.toInt ≤ 300
/-- A field that names this node, or none. -/
def namesNode (b : Byte) (n : Option NodeId) : Prop :=
  match n with
  | none => b = 0#8
  | some n => b.toNat = n.address
/-- The source codes of chapter 11.5. -/
def Source.code : Source → Byte
  | .driver => 1#8 | .panel => 2#8 | .service => 3#8
/-- Every field of an active ZONE_DEF is in range (R4). -/
abbrev zoneDefInRange (a : ZoneDefArgs) : Prop :=
  byteIn 1 24 a.zone ∧ byteIn 0 2 a.rank ∧ byteIn 1 16 a.wmax ∧ byteIn 2 20 a.deadband ∧ byteIn 2 30 a.loopPeriod ∧
  byteIn 1 31 a.sensor ∧ byteIn 0 31 a.blower ∧ byteIn 0 31 a.valve ∧ byteIn 0 31 a.damper ∧
  setpointIn a.planSetpoint ∧ byteIn 0 4 a.baseMode
/-- Every field of a PLANT_DEF is in range (R75, R91). -/
abbrev plantDefInRange (a : PlantDefArgs) : Prop :=
  byteIn 0 31 a.compressor ∧ byteIn 0 16 a.u1 ∧ byteIn 0 16 a.u2 ∧ byteIn 0 16 a.u3 ∧ byteIn 0 16 a.u4 ∧
  byteIn 0 4 a.idleMax ∧ byteIn 0 4 a.cruiseMax ∧ byteIn 0 4 a.pullMax ∧ wordIn 30 600 a.minRun ∧
  wordIn 30 300 a.minOff ∧ byteIn 10 120 a.stageDownHold ∧ byteIn 0 31 a.auxHeater ∧ byteIn 0 32 a.auxUnits ∧
  byteIn 0 21 a.coolantUnits ∧ byteIn 0 31 a.intake
/-- Every field of a TUNE_DEF is in range (R3, R66, R92, R125, R155). -/
abbrev tuneDefInRange (a : TuneDefArgs) : Prop :=
  byteIn 10 100 a.ventLevel ∧ byteIn 0 50 a.minBlower ∧ byteIn 0 30 a.panelBand ∧ byteIn 10 240 a.holdTime ∧
  wordIn 30 600 a.curtainLimit ∧ wordIn 800 3000 a.purgeOn ∧ wordIn 400 (a.purgeOn.toNat - 100) a.purgeOff ∧
  wordIn 60 900 a.saturationTime ∧ wordIn 60 900 a.stopDelay ∧ byteIn 10 50 a.minFreshAir ∧
  wordIn 100 2000 a.pollInterval ∧ wordIn 5 300 a.travelBlower ∧ wordIn 5 300 a.travelDamper ∧
  wordIn 5 300 a.travelValve ∧ wordIn 5 300 a.travelCompressor ∧ wordIn 5 300 a.travelAuxheat

/-- A zone request may act: the port is free, the part is in RUN, the zone is active and not protected against the
source (R172, R174). -/
abbrev State.zoneOpen (s : State) (z : Zone) (src : Source) : Prop :=
  s.portFree ∧ s.op.state = .run ∧ (s.zone z).active = true ∧
  s.port.protection.bars z.number src = false

/-! ## The query replies, byte by byte (chapter 11.4, R185) -/

/-- A number of two bytes, big-endian. -/
def Layout.num2 (n : Nat) : List Byte := [byteOf (n / 256), byteOf n]
/-- A number of four bytes, big-endian. -/
def Layout.num4 (n : Nat) : List Byte :=
  [byteOf (n / 16777216), byteOf (n / 65536), byteOf (n / 256), byteOf n]
/-- A temperature or setpoint: two's complement, 0x8000 when absent. -/
def Layout.temp : Option Int → List Byte
  | none => [0x80#8, 0x00#8]
  | some v => Layout.num2 (v % 65536).toNat
/-- A CO2 value, 0xFFFF when absent. -/
def Layout.co2 : Option Nat → List Byte
  | none => [0xFF#8, 0xFF#8]
  | some v => Layout.num2 v
/-- A percent, stage count, lit state or move argument, 0xFF when absent. -/
def Layout.arg : Option Nat → Byte
  | none => 0xFF#8
  | some v => byteOf v
/-- A node address in a field that may name none. -/
def Layout.node : Option NodeId → Byte
  | none => 0#8
  | some n => byteOf n.address
def Layout.flag (b : Bool) : Byte := if b = true then 1#8 else 0#8
/-- An age or time since an event, in seconds, capped at 65,535; a part of a second is left off (log 55). -/
def Layout.age (since now : Time) : List Byte := Layout.num2 (min 65535 ((now - since) / 8000))
/-- The time left of a timer in the unit: 0 when stopped, otherwise rounded up and at least 1. -/
def Layout.left (unit : Nat) (t : Timer) (now : Time) : Nat :=
  match t with
  | none => 0
  | some d => max 1 ((d - now + unit - 1) / unit)
/-- A zone set of three bytes, a condition set of two. -/
def Layout.zoneSet (b : BitVec 24) : List Byte :=
  [byteOf (b.toNat / 65536), byteOf (b.toNat / 256), byteOf b.toNat]
def Layout.condSet (b : BitVec 12) : List Byte := Layout.num2 b.toNat

/-- Configured nodes of which p holds. -/
def Layout.nodesOf (s : State) (p : NodeId → Bool) : Byte :=
  byteOf ((List.finRange 31).filter (fun n => (s.node n).configured && p n)).length

/-- STATE_QUERY (R167), 36 bytes. -/
def Layout.state (s : State) : List Byte :=
  let inComm := decide (s.op.state = .commissioning)
  let rest (b : Bool) : Byte := if s.op.state = .stopping then Layout.flag b else 2#8
  [byteOf s.op.state.code] ++ Layout.age s.op.entered s.now ++
  [byteOf s.op.cause.code, Layout.flag s.op.configChanged] ++
  (match s.op.lastRefusal with
    | none => [0#8, 0#8, 0#8]
    | some b => [byteOf b.item.code, byteOf b.number, byteOf b.check.code]) ++
  [Layout.nodesOf s (fun _ => true), Layout.nodesOf s (fun n => inComm && s.op.done[n]),
   Layout.flag (inComm && s.op.haltSent),
   rest (decide (s.plant.seq.state ∈ [Seq.off, .lockout, .fault])),
   rest (decide (s.plant.heater.state ∈ [HeaterState.off, .igniteWait, .lockedOut])),
   byteOf ((List.finRange 24).filter (fun z => (s.zone z).active)).length] ++
  [NodeState.unknown, .starting, .ready, .busy, .offline, .fault].map
    (fun st => Layout.nodesOf s (fun n => decide ((s.node n).state = st))) ++
  Layout.zoneSet s.zones.doorMap[(0 : Door)] ++ Layout.zoneSet s.zones.doorMap[(1 : Door)] ++
  Layout.zoneSet s.zones.doorMap[(2 : Door)] ++ Layout.zoneSet s.zones.doorMap[(3 : Door)] ++
  (match s.port.protection.range with
    | none => [0#8, 0#8]
    | some (a, b) => [byteOf a, byteOf b]) ++
  [byteOf s.port.protection.level.code, Layout.flag s.port.protection.locked]

/-- ZONE_QUERY (R25), 56 bytes. -/
def Layout.zone (s : State) (z : Zone) : List Byte :=
  let r := s.zone z
  [byteOf z.number, Layout.flag r.active, byteOf r.rank, byteOf r.wmax, byteOf r.deadband, byteOf r.loopPeriod,
   Layout.node r.sensor, Layout.node r.blower, Layout.node r.valve, Layout.node r.damper] ++
  Layout.temp (some r.planSetpoint) ++ [byteOf r.baseMode.code] ++
  Layout.temp r.tempSetpoint ++ Layout.temp r.temperature ++ Layout.co2 r.co2 ++
  [byteOf r.sensorStatus.code, byteOf r.missed, byteOf r.direction.code, byteOf r.want, byteOf r.claimRank,
   byteOf (r.flags.saturated.toNat + 2 * r.flags.sensorLost.toNat + 4 * r.flags.actuatorFault.toNat +
     8 * r.flags.curtainExpired.toNat),
   byteOf (r.openDoors.toNat + 128 * r.curtainSpent.toNat)] ++
  [byteOf r.effMode.code, byteOf r.stack.length] ++
  (r.stack.reverse.flatMap (fun e => byteOf (e.kind.code + 16 * causeCode e.cause) :: Layout.age e.start s.now) ++
    List.replicate 12 0#8).take 12 ++
  Layout.num2 (Layout.left 8000 r.loopTimer s.now) ++ Layout.num2 (Layout.left 8000 r.holdTimer s.now) ++
  Layout.num2 (Layout.left 8000 r.defogTimer s.now) ++ Layout.num2 (Layout.left 8000 r.curtainTimer s.now) ++
  (match s.arb.grantOf z with
    | none => [0#8, 0#8]
    | some (i, u) => [byteOf i.code, byteOf u]) ++
  (match s.arb.claimOf z with
    | none => [0#8, 0#8, 0#8, 0#8, 0#8, 0#8]
    | some (i, c) => [byteOf i.code, byteOf c.units, byteOf c.rank, byteOf c.passed] ++ Layout.age c.filed s.now)

/-- POOL_QUERY (R71): the 9 bytes before the entries. -/
def Layout.poolHead (s : State) (i : PoolId) (list first : Byte) (entries : Nat) : List Byte :=
  [byteOf i.code, byteOf (s.arb.pool i).capacity, byteOf (s.arb.pool i).grantedTotal, byteOf (s.arb.pool i).free,
   byteOf (s.arb.pool i).grants.length, byteOf (s.arb.pool i).claims.length, list, first, byteOf entries]
def Layout.grant (s : State) (g : Grant) : List Byte :=
  [byteOf g.zone.number, byteOf g.units] ++ Layout.num4 g.number ++ [byteOf (s.zone g.zone).claimRank]
def Layout.claim (s : State) (c : Claim) : List Byte :=
  [byteOf c.zone.number, byteOf c.units, byteOf c.rank] ++ Layout.num4 c.arrival ++ [byteOf c.passed] ++
  Layout.age c.filed s.now ++ [Layout.flag c.saturated]

/-- NODE_QUERY (R152), 34 bytes and 2 for each entry of the node. A SENSOR's absent value is 0x8000 and 0xFFFF, an absent
version 0 (log 22). -/
def Layout.nodeRec (s : State) (n : NodeId) : List Byte :=
  let r := s.node n
  let mine := s.nodes.queue.filter (fun e => decide (e.node = some n))
  [byteOf n.address, Layout.flag r.configured, byteOf (kindCode r.kind), byteOf (ownerCode r.binding),
   byteOf (roleCode r.binding), byteOf r.state.code, byteOf r.failCount, byteOf r.wakeCount,
   byteOf (startCauseCode r.cause), Layout.arg r.target, Layout.arg (r.pending.map (·.argument)),
   (match r.pending with | none => 0#8 | some p => byteOf p.origin.code)] ++
  (match r.value with
    | some (.reading a c) => Layout.temp (some a) ++ Layout.co2 (some c)
    | some (.num v) => [byteOf v, 0#8, 0#8, 0#8]
    | none => if r.kind = some .sensor then [0x80#8, 0x00#8, 0xFF#8, 0xFF#8] else [0xFF#8, 0#8, 0#8, 0#8]) ++
  [Layout.arg r.nodeTarget, (match r.version with | none => 0#8 | some v => v),
   byteOf (r.version.isSome.toNat + 2 * r.busySince.isSome.toNat +
     4 * (match s.line.inFlight with | none => false | some x => decide (x.node = some n)).toNat),
   byteOf (faultReasonCode r.faultReason), byteOf (retryCode r.retryOwed)] ++
  Layout.num2 (Layout.left 8 r.wakeTimer s.now) ++ Layout.num2 (Layout.left 8 r.pollTimer s.now) ++
  Layout.num2 (Layout.left 8000 r.travelTimer s.now) ++ Layout.num2 (Layout.left 8000 r.revivalTimer s.now) ++
  (match r.busySince with | none => [0#8, 0#8] | some b => Layout.age b s.now) ++
  [byteOf (s.nodes.queue.filter (·.urgent)).length, byteOf (s.nodes.queue.filter (!·.urgent)).length,
   byteOf mine.length] ++
  mine.flatMap (fun e =>
    [byteOf (e.cmd.code + 128 * e.urgent.toNat), byteOf (if e.cmd = .move then e.argument else 0)])

/-- PLANT_QUERY (R109), 35 bytes. -/
def Layout.plant (s : State) : List Byte :=
  let p := s.plant
  let q := p.seq
  let h := p.heater
  [byteOf p.band.code, byteOf p.coolant, Layout.flag p.shedView,
   byteOf q.state.code, byteOf q.state.k, byteOf q.state.committed, byteOf s.allowedStages, Layout.flag q.holdMet,
   Layout.flag q.minRunExpired, byteOf s.arb.cool.capacity] ++
  Layout.num2 (Layout.left 8000 q.minRunTimer s.now) ++ [byteOf (Layout.left 8000 q.holdTimer s.now)] ++
  Layout.num2 (Layout.left 8000 q.lockoutTimer s.now) ++ [byteOf (Layout.left 8000 q.pollTimer s.now)] ++
  [byteOf h.state.code, byteOf h.failures, Layout.flag h.permit, Layout.flag h.stopMark,
   byteOf (p.coolant * p.defn.coolantUnits), byteOf s.arb.heat.capacity,
   byteOf (Layout.left 8000 h.igniteWaitTimer s.now)] ++
  Layout.num2 (Layout.left 8000 h.stopDelayTimer s.now) ++ [byteOf (Layout.left 8000 h.flamePollTimer s.now)] ++
  [byteOf p.purgeCount, Layout.arg p.intakeTarget, Layout.node p.defn.compressor, Layout.node p.defn.auxHeater,
   Layout.node p.defn.intake, Layout.flag p.viewHeat.nonEmpty, byteOf p.viewHeat.granted,
   Layout.flag p.viewCool.nonEmpty, byteOf p.viewCool.granted]

/-- The pending flags in priority order, as bits from bit 0 (R179). -/
def Layout.pendingBits (c : CondBlock) : Nat :=
  c.compFault.pending.toNat + 2 * c.nodeOffline.pending.toNat + 4 * c.nodeFault.pending.toNat + 8 * c.auxLockout.toNat +
  16 * c.sensorLost.pending.toNat + 32 * c.shedActive.toNat + 64 * c.zoneSaturated.pending.toNat +
  128 * c.curtainExpired.pending.toNat + 256 * c.purgeAuto.pending.toNat + 512 * c.linkOverrun.pending.toNat +
  1024 * c.commissionDone.pending.toNat + 2048 * c.stopped.toNat

/-- COND_QUERY (R184), 25 bytes, with the first condition that is pending and in the mask. -/
def Layout.cond (s : State) (first : Nat) : List Byte :=
  [byteOf first] ++ Layout.num2 (Layout.pendingBits s.cond) ++ Layout.condSet s.cond.mask ++
  [Layout.flag s.cond.enable, Layout.flag s.attnDriven] ++
  [s.cond.compFault, s.cond.nodeOffline, s.cond.nodeFault, s.cond.sensorLost, s.cond.zoneSaturated,
    s.cond.curtainExpired, s.cond.purgeAuto, s.cond.linkOverrun, s.cond.commissionDone].flatMap
    (fun r => [byteOf r.count, byteOf (r.last.getD 0)])

/-- R184: the first condition, counted from 1, that is pending and in the mask; 0 when none is. -/
def firstCondition (s : State) (p : Nat) : Prop :=
  (p = 0 ∧ s.cond.pendingSet &&& s.cond.mask = 0#12) ∨
  (1 ≤ p ∧ p ≤ 12 ∧ (s.cond.pendingSet &&& s.cond.mask).getLsbD (p - 1) = true ∧
    ∀ j, j + 1 < p → (s.cond.pendingSet &&& s.cond.mask).getLsbD j = false)

/-- Chapter 11.5: the codes of every name that a reply carries. -/
def codesAsListed : Prop :=
  [EffMode.off, .auto, .heatOnly, .coolOnly, .vent, .curtain, .purge, .defog].map EffMode.code = List.range 8 ∧
  [BaseMode.off, .auto, .heatOnly, .coolOnly, .vent].map BaseMode.code = List.range 5 ∧
  [EntryKind.base, .curtain, .purge, .defog].map EntryKind.code = List.range 4 ∧
  [none, some PurgeCause.host, some .auto].map causeCode = List.range 3 ∧
  [Direction.none, .heat, .cool].map Direction.code = List.range 3 ∧
  [PoolId.heat, .cool].map PoolId.code = [1, 2] ∧
  [SensorStatus.ok, .missed, .lost].map SensorStatus.code = List.range 3 ∧
  [ProtectLevel.panelOnly, .panelAndDriver].map ProtectLevel.code = [1, 2] ∧
  [EngineBand.stopped, .idle, .cruise, .pull].map EngineBand.code = List.range 4 ∧
  [PartState.config, .commissioning, .run, .stopping, .stopped].map PartState.code = List.range 5 ∧
  [ResetCause.power, .pin, .restart].map ResetCause.code = [1, 2, 3] ∧
  [none, some NodeKind.sensor, some .blower, some .damper, some .valve, some .compressor, some .auxheat].map kindCode =
    List.range 7 ∧
  (∀ z, ([.sensor, .blower, .valve, .damper].map (fun r => roleCode (some (.zone z r))) = [1, 2, 3, 4]) ∧
    ∀ r, ownerCode (some (.zone z r)) = z.number) ∧
  [PlantRole.compressor, .auxHeater, .intake].map (fun r => roleCode (some (.plant r))) = [5, 6, 7] ∧
  (∀ r, ownerCode (some (.plant r)) = 0x81) ∧ roleCode none = 0 ∧ ownerCode none = 0 ∧
  [NodeState.unknown, .starting, .ready, .busy, .offline, .fault].map NodeState.code = List.range 6 ∧
  [none, some StartCause.commission, some .restart, some .revival, some .retry].map startCauseCode = List.range 5 ∧
  [none, some FaultReason.kindMismatch, some .nodeReported, some .illegalReply, some .travelTimeout,
    some .unexpectedValue, some .refusedMove].map faultReasonCode = List.range 7 ∧
  [none, some RetryAction.check, some .reset].map retryCode = List.range 3 ∧
  (∀ z, (Origin.zone z).code = z.number) ∧
  [Origin.plant, .poll, .wake, .restore, .commission, .shutdown, .retry].map Origin.code =
    [0x81, 0x82, 0x83, 0x84, 0x85, 0x86, 0x87] ∧
  (∀ k, [Seq.off, .engaging, .running k, .stepUp k, .stepDown k, .disengaging, .lockout, .fault].map Seq.code =
    List.range 8) ∧
  [HeaterState.off, .igniting, .running, .stopping, .igniteWait, .lockedOut].map HeaterState.code = List.range 6 ∧
  [ItemKind.zone, .node, .plant, .door].map ItemKind.code = [1, 2, 3, 4] ∧
  [CheckCode.sensorKind, .blowerKind, .valveKind, .damperKind, .compressorKind, .stageUnits, .auxKind, .auxUnits,
    .intakeKind, .coolantUnits, .doubleBinding, .doorZone].map CheckCode.code =
    [1, 2, 3, 4, 5, 6, 7, 8, 9, 10, 11, 12] ∧
  [Command.wake, .ident, .status, .read, .move, .halt, .nodeReset].map Command.code = [1, 2, 3, 4, 5, 6, 7]

/-! ## What an operation leaves as it was -/

/-- Everything but the body link port is as before. -/
structure OnlyPort (s t : State) : Prop where
  now : t.now = s.now
  held : t.held = s.held
  shedLine : t.shedLine = s.shedLine
  key : t.key = s.key
  zones : t.zones = s.zones
  arb : t.arb = s.arb
  plant : t.plant = s.plant
  nodes : t.nodes = s.nodes
  line : t.line = s.line
  op : t.op = s.op
  cond : t.cond = s.cond
  pending : t.pending = s.pending

/-- What a request put to the node manager can change: the queue, the line (by a hand-over), a node's pending move,
an owed retry or HALT, and the work of commissioning. A node that is not BUSY keeps its pending move. Everything else is
as before. -/
structure NodeSide (s t : State) : Prop where
  now : t.now = s.now
  held : t.held = s.held
  shedLine : t.shedLine = s.shedLine
  key : t.key = s.key
  zones : t.zones = s.zones
  arb : t.arb = s.arb
  plant : t.plant = s.plant
  cond : t.cond = s.cond
  port : t.port = s.port
  pending : t.pending = s.pending
  op : t.op = { s.op with work := t.op.work }
  tuning : t.nodes.tuning = s.nodes.tuning
  pollTick : t.nodes.pollTick = s.nodes.pollTick
  recs : ∀ n, t.node n =
    { s.node n with
      pending := (t.node n).pending, retryOwed := (t.node n).retryOwed, retryStep := (t.node n).retryStep
      haltOwed := (t.node n).haltOwed }
  still : ∀ n, (s.node n).state ≠ .busy → (t.node n).pending = (s.node n).pending

/-- What the plant controller's decisions can change beside that: its sequencer, heater, views and intake record, and
the AUX_LOCKOUT condition. -/
structure PlantSide (s t : State) : Prop where
  now : t.now = s.now
  held : t.held = s.held
  shedLine : t.shedLine = s.shedLine
  key : t.key = s.key
  zones : t.zones = s.zones
  arb : t.arb = s.arb
  plant : t.plant =
    { s.plant with
      seq := t.plant.seq, heater := t.plant.heater, viewHeat := t.plant.viewHeat, viewCool := t.plant.viewCool
      purgeCount := t.plant.purgeCount, intakeTarget := t.plant.intakeTarget }
  cond : t.cond = { s.cond with auxLockout := t.cond.auxLockout }
  port : t.port = s.port
  pending : t.pending = s.pending
  op : t.op = { s.op with work := t.op.work }
  tuning : t.nodes.tuning = s.nodes.tuning
  pollTick : t.nodes.pollTick = s.nodes.pollTick
  recs : ∀ n, t.node n =
    { s.node n with
      pending := (t.node n).pending, retryOwed := (t.node n).retryOwed, retryStep := (t.node n).retryStep
      haltOwed := (t.node n).haltOwed }
  still : ∀ n, (s.node n).state ≠ .busy → (t.node n).pending = (s.node n).pending

/-- What an event at the arbiter can change beside that: the pools and the counter. -/
structure ShareSide (s t : State) : Prop where
  now : t.now = s.now
  held : t.held = s.held
  shedLine : t.shedLine = s.shedLine
  key : t.key = s.key
  zones : t.zones = s.zones
  saturationTime : t.arb.saturationTime = s.arb.saturationTime
  plant : t.plant =
    { s.plant with
      seq := t.plant.seq, heater := t.plant.heater, viewHeat := t.plant.viewHeat, viewCool := t.plant.viewCool
      purgeCount := t.plant.purgeCount, intakeTarget := t.plant.intakeTarget }
  cond : t.cond = { s.cond with auxLockout := t.cond.auxLockout }
  port : t.port = s.port
  pending : t.pending = s.pending
  op : t.op = { s.op with work := t.op.work }
  tuning : t.nodes.tuning = s.nodes.tuning
  pollTick : t.nodes.pollTick = s.nodes.pollTick
  recs : ∀ n, t.node n =
    { s.node n with
      pending := (t.node n).pending, retryOwed := (t.node n).retryOwed, retryStep := (t.node n).retryStep
      haltOwed := (t.node n).haltOwed }
  still : ∀ n, (s.node n).state ≠ .busy → (t.node n).pending = (s.node n).pending

/-- What an evaluation can change beside that: a zone's direction, want and claim rank. -/
structure DemandSide (s t : State) : Prop where
  now : t.now = s.now
  held : t.held = s.held
  shedLine : t.shedLine = s.shedLine
  key : t.key = s.key
  zoneTuning : t.zones.tuning = s.zones.tuning
  doorMap : t.zones.doorMap = s.zones.doorMap
  zone : ∀ z, t.zone z =
    { s.zone z with
      direction := (t.zone z).direction, want := (t.zone z).want, claimRank := (t.zone z).claimRank }
  saturationTime : t.arb.saturationTime = s.arb.saturationTime
  plant : t.plant =
    { s.plant with
      seq := t.plant.seq, heater := t.plant.heater, viewHeat := t.plant.viewHeat, viewCool := t.plant.viewCool
      purgeCount := t.plant.purgeCount, intakeTarget := t.plant.intakeTarget }
  cond : t.cond = { s.cond with auxLockout := t.cond.auxLockout }
  port : t.port = s.port
  pending : t.pending = s.pending
  op : t.op = { s.op with work := t.op.work }
  tuning : t.nodes.tuning = s.nodes.tuning
  pollTick : t.nodes.pollTick = s.nodes.pollTick
  recs : ∀ n, t.node n =
    { s.node n with
      pending := (t.node n).pending, retryOwed := (t.node n).retryOwed, retryStep := (t.node n).retryStep
      haltOwed := (t.node n).haltOwed }
  still : ∀ n, (s.node n).state ≠ .busy → (t.node n).pending = (s.node n).pending

/-- R12: the rule of the effective mode gives the demand g, from the demand from error f; CURTAIN has none. -/
def ruleGives (r : ZoneRec) (f g : Direction × Nat) : Prop :=
  (r.effMode ∈ [EffMode.off, .vent] → g = (.none, 0)) ∧
  (r.effMode = .auto → g = f) ∧
  (r.effMode = .heatOnly → g = if f.1 = .cool then (.none, 0) else f) ∧
  (r.effMode = .coolOnly → g = if f.1 = .heat then (.none, 0) else f) ∧
  (r.effMode = .purge →
    (r.baseMode ∈ [BaseMode.off, .vent] → g = (.none, 0)) ∧
    (r.baseMode = .auto → g = f) ∧
    (r.baseMode = .heatOnly → g = if f.1 = .cool then (.none, 0) else f) ∧
    (r.baseMode = .coolOnly → g = if f.1 = .heat then (.none, 0) else f)) ∧
  (r.effMode = .defog → g = (.heat, r.wmax))

/-- R14: an actuator that can serve: a node is named, and it is in neither OFFLINE nor FAULT. -/
def State.serves (s : State) (n : Option NodeId) : Prop :=
  ∃ m, n = some m ∧ (s.node m).state ≠ .offline ∧ (s.node m).state ≠ .fault

/-- R11, R52: the zone's demand written into its record, and its settlement taken by the arbiter. -/
def State.settledAt (s : State) (z : Zone) : State :=
  { s.setZone z
      { s.zone z with
        direction := (s.demand z).1, want := (s.demand z).2, claimRank := (s.zone z).demandRank } with
    arb := s.arb.settle z (s.demand z).1 (s.demand z).2 (s.zone z).demandRank s.now }

/-- An evaluation of an active zone in RUN (R11): the zone's record takes its demand, unless CURTAIN is its effective
mode, the arbiter takes the settlement, no other zone's record changes, and the rest is what an evaluation can change.
After the settlement the zone makes its target computation, and then the arbiter sends its notices (R52, R57); under
CURTAIN the target computation is all. -/
structure Evaluated (s : State) (z : Zone) (t : State) : Prop where
  whole : t =
    if (s.zone z).effMode = .curtain then s.zoneTargets z
    else ((s.settledAt z).zoneTargets z).notices s.arb (some z)
  side : DemandSide s t
  zone : t.zone z =
    if (s.zone z).effMode = .curtain then s.zone z
    else { s.zone z with
      direction := (s.demand z).1, want := (s.demand z).2, claimRank := (s.zone z).demandRank }
  others : ∀ y, y ≠ z → t.zone y = s.zone y
  arb : t.arb =
    if (s.zone z).effMode = .curtain then s.arb
    else s.arb.settle z (s.demand z).1 (s.demand z).2 (s.zone z).demandRank s.now

/-- The zone's record is r, and the zone was evaluated if and only if `again` says so. -/
def Rewritten (s : State) (z : Zone) (r : ZoneRec) (again : Prop) (t : State) : Prop :=
  (¬ again → t = s.setZone z r) ∧ (again → Evaluated (s.setZone z r) z t)

/-- A command for the node is queued or in flight. -/
abbrev State.asked (s : State) (n : NodeId) (c : Command) : Prop := s.queued n c = true ∨ s.inFlight n c = true

/-- R133, R136: a request of this command for the node, asked now, is not refused: an equal one is queued, or an equal
one in flight takes it in, or the queue has a free place. -/
abbrev State.takesIn (s : State) (n : NodeId) (c : Command) : Prop :=
  s.queued n c = true ∨ (s.inFlight n c = true ∧ c ∈ [Command.read, .status, .wake, .ident]) ∨
  s.nodes.queue.length < Config.queueMax

/-- R133, R115: a free controller is handed the first entry that is not held back, which begins its LEAD; with no such
entry, or from the cut of a soft reset to its end, nothing changes. -/
def handedOver (s t : State) : Prop :=
  (((∀ e ∈ s.nodes.queue, s.holdsBack e = true) ∨ (s.op.soft ≠ .none ∧ s.op.soft ≠ .reply)) → t = s) ∧
  (∀ a e b, s.nodes.queue = a ++ e :: b → (∀ x ∈ a, s.holdsBack x = true) → s.holdsBack e = false →
    (s.op.soft = .none ∨ s.op.soft = .reply) →
    t = { s with
      nodes := { s.nodes with queue := a ++ b }
      line :=
        { phase := .lead
          txn := some
            { node := e.node, cmd := e.cmd, argument := e.argument, urgent := e.urgent, origin := e.origin
              origins := e.origin :: e.absorbed, attempt := 1, firstFail := none }
          timer := some (s.now + Config.charTime), replyStart := none, chars := [], cut := false } })

/-- R133: the queue becomes q, and a free controller is handed its next entry at once (log 11). -/
def queueBecomes (s : State) (q : List Entry) (t : State) : Prop :=
  (s.line.phase = .idle → handedOver { s with nodes := { s.nodes with queue := q } } t) ∧
  (s.line.phase ≠ .idle → t = { s with nodes := { s.nodes with queue := q } })

/-- A MOVE with the argument is queued or in flight for the node. -/
def State.askedMove (s : State) (n : NodeId) (a : Nat) : Prop :=
  (∃ e ∈ s.nodes.queue, e.node = some n ∧ e.cmd = .move ∧ e.argument = a) ∨
  (∃ x, s.line.txn = some x ∧ x.node = some n ∧ x.cmd = .move ∧ x.argument = a)

/-- Such a MOVE, with this origin. -/
def State.askedMoveBy (s : State) (n : NodeId) (a : Nat) (o : Origin) : Prop :=
  (∃ e ∈ s.nodes.queue, e.node = some n ∧ e.cmd = .move ∧ e.argument = a ∧ e.origin = o) ∨
  (∃ x, s.line.txn = some x ∧ x.node = some n ∧ x.cmd = .move ∧ x.argument = a ∧ x.origin = o)

/-- A command for the node is queued or in flight, and this origin is among those that have asked it (R136). -/
def State.askedBy (s : State) (n : NodeId) (c : Command) (o : Origin) : Prop :=
  (∃ e ∈ s.nodes.queue, e.node = some n ∧ e.cmd = c ∧ o ∈ e.origin :: e.absorbed) ∨
  (∃ x, s.line.txn = some x ∧ x.node = some n ∧ x.cmd = c ∧ o ∈ x.origins)

/-- R138: what the originators of a displaced entry do: a retry, an initial MOVE and a HALT are owed, and nothing else
changes. The three that are owed are said of an entry that has absorbed no request. A MOVE of commissioning is the initial
MOVE from when it is asked; before that it is one of an earlier commissioning, and changes nothing (log 29). -/
def displaced (s : State) (v : Entry) (t : State) : Prop :=
  ((∀ o ∈ v.origin :: v.absorbed,
      o ≠ .retry ∧ ¬ (o = .commission ∧ v.cmd = .move) ∧ ¬ (o = .poll ∧ v.cmd = .halt)) → t = s) ∧
  (∀ m, v.node = some m → v.absorbed = [] →
    (v.origin = .retry → t = s.setNode m { s.node m with
      retryOwed := some (if v.cmd = .nodeReset then .reset else .check), retryStep := none }) ∧
    (v.origin = .commission → v.cmd = .move →
      t = if s.work m ∈ [CommWork.moveAsked, .moveOwed, .moveDone] then s.setWork m .moveOwed else s) ∧
    (v.origin = .poll → v.cmd = .halt → t = s.setNode m { s.node m with haltOwed := true }))

/-- R160: in COMMISSIONING every settled node has its mark: none stands READY with no MOVE left after its initial MOVE has
had an outcome. -/
def State.followed (s : State) : Prop :=
  s.op.state = .commissioning → ∀ m, s.work m = .moveDone → (s.node m).state = .ready → s.moveLeft m = true

/-- No MOVE for the node is queued or pending (R79, R98, R160; one in flight is the caller's to say). -/
abbrev State.noMove (s : State) (n : NodeId) : Prop := s.queued n .move = false ∧ (s.node n).pending = none

/-- R29, R107: in RUN the plant controller is told that a zone's effective mode became or stopped being PURGE: it
counts, sets the intake target, and asks a MOVE of an intake node whose latest commanded value differs. -/
def modeTold (s : State) (before after : EffMode) (t : State) : Prop :=
  ((before = .purge ↔ after = .purge) → t = s) ∧
  (¬ (before = .purge ↔ after = .purge) → ∀ c g b,
    c = (if after = .purge then s.plant.purgeCount + 1 else s.plant.purgeCount - 1) →
    g = (if 1 ≤ c then 100 else s.plant.minFreshAir) →
    b = { s with plant := { s.plant with purgeCount := c, intakeTarget := some g } } →
    (s.plant.defn.intake = none → t = b) ∧
    (∀ n, s.plant.defn.intake = some n →
      t = if s.latestCommanded n = some g then b else b.askMove n g .plant))

/-- R29, log 12: the zone's record becomes r, the change of its effective mode is told to the plant controller, and the
zone is evaluated if and only if the effective mode changed. -/
def ModeChanged (s : State) (z : Zone) (r : ZoneRec) (t : State) : Prop :=
  ∃ u, modeTold (s.setZone z r) (s.zone z).effMode r.effMode u ∧
    (r.effMode = (s.zone z).effMode → t = u) ∧ (r.effMode ≠ (s.zone z).effMode → Evaluated u z t)

/-- R177: the zones of a tag are taken one after another, each as the rule says. -/
def takenInTurn (each : State → Zone → State → Prop) : List Zone → State → State → Prop
  | [], s, t => t = s
  | z :: zs, s, t => ∃ u, each s z u ∧ takenInTurn each zs u t

/-- One flag of the STATUS byte of the reply being sent (R171). -/
def State.replyFlag (s : State) (bit : Nat) : Bool :=
  match s.port.sending with
  | none => false
  | some r => r.status.getLsbD bit

/-- The port after a request that clears the range tag: a reply is being sent, and the rest is as before (R176). -/
def answeredPort (s t : State) : Port := { s.port with tag := .none, sending := t.port.sending }

/-- R172 step 2: the state as the owner of a request takes it, with no range tag. -/
def State.untagged (s : State) : State := { s with port := { s.port with tag := .none } }

/-- The owner has left the state v, and the port sends a reply (R171, R176). -/
def Replied (s v t : State) : Prop := t = { v with port := answeredPort s t }

/-- Nothing changes but the port, which sends a reply and has no range tag (R172, R176). -/
def OnlyAnswered (s t : State) : Prop := t = { s with port := answeredPort s t }

/-- R8: a setpoint in range and, from PANEL, within the panel band of the plan setpoint. -/
abbrev State.setpointTaken (s : State) (z : Zone) (src : Source) (v : Word) : Prop :=
  setpointIn v ∧
  (src = .panel → (s.zone z).planSetpoint - s.zones.tuning.panelBand ≤ v.toInt ∧
    v.toInt ≤ (s.zone z).planSetpoint + s.zones.tuning.panelBand)

/-- R177, R178: the two counts of a RANGE_APPLY: the zones of the list that pass, and the others. -/
def countBytes (zs : List Zone) (p : Zone → Bool) : List Byte :=
  [byteOf (zs.filter p).length, byteOf (zs.length - (zs.filter p).length)]

/-- R178, steps 3 and 4: a new protection record is refused with LOCKED when it differs from the present one, the lock is
set and KEY is in LOCK; it is written otherwise. -/
def protectionWritten (s t : State) (tag : Byte) (p : Protection) (counts : List Byte) : Prop :=
  (p ≠ s.port.protection ∧ s.port.protection.locked = true ∧ s.key = .lock →
    t.repliesRefused 0xA4#8 tag [3#8] ∧ OnlyAnswered s t) ∧
  (¬ (p ≠ s.port.protection ∧ s.port.protection.locked = true ∧ s.key = .lock) →
    t.repliesOk 0xA4#8 tag counts ∧ t = { s with port := { answeredPort s t with protection := p } })

/-- R34: a DOOR OPEN starts a CURTAIN: no door is open and no CURTAIN entry stands. -/
def State.curtainStarts (s : State) (z : Zone) : Bool :=
  decide ((s.zone z).openDoors = 0#4) && !(s.zone z).hasEntry .curtain

/-- R35: a zone's record after the door has closed, less the demand of the evaluation that may follow. -/
def closedDoor (s : State) (d : Door) (z : Zone) : ZoneRec :=
  let r := s.zone z
  if r.openDoors &&& ~~~ BitVec.twoPow 4 d.val = 0#4 then
    { r with
      openDoors := 0#4, stack := r.stack.filter (fun e => e.kind ≠ .curtain)
      curtainTimer := if r.hasEntry .curtain then none else r.curtainTimer
      curtainSpent := false, loopTimer := some (s.now + 2 * Config.second) }
  else { r with openDoors := r.openDoors &&& ~~~ BitVec.twoPow 4 d.val }

/-- R127, R154: what a ZONE_DEF changes beside the zone's record: the bindings that name the zone end, the
configuration-changed flag is set, and a reply is sent. -/
def redefined (s t : State) (z : Zone) : Prop :=
  (∀ y, y ≠ z → t.zone y = s.zone y) ∧
  (∀ n, t.node n = { s.node n with binding := (t.node n).binding }) ∧
  (∀ n role, (s.node n).binding = some (.zone z role) → (t.node n).binding = none) ∧
  (∀ n, (∀ role, (s.node n).binding ≠ some (.zone z role)) → (t.node n).binding = (s.node n).binding) ∧
  t = { s with
    zones := { s.zones with table := t.zones.table }, nodes := { s.nodes with table := t.nodes.table }
    op := { s.op with configChanged := true }, port := answeredPort s t }

/-- A node is configured with the kind given (R156). -/
def State.hasKind (s : State) (n : NodeId) (k : NodeKind) : Prop :=
  (s.node n).configured = true ∧ (s.node n).kind = some k

/-- R148, R149: a node's record as a start-up begins. -/
def startRecord (s : State) (r : NodeRec) (c : StartCause) (wakes : Nat) (step : StartStep) : NodeRec :=
  { r with
    state := .starting, cause := some c, startStep := step, wakeCount := wakes, failCount := 0, pending := none
    busySince := none, busyFromFault := false, retryOwed := none, retryStep := none
    wakeTimer := some (s.now + 100 * Config.ms), pollTimer := none, travelTimer := none, revivalTimer := none }

/-- R127, R159, R148: a node's record when a COMMISSION has been accepted. -/
def commissionedNode (s : State) (n : NodeId) : NodeRec :=
  let r := { s.node n with binding := (s.rolesOf n).head? }
  if r.configured then
    match r.state with
    | .unknown | .ready | .offline =>
      startRecord s r .commission 0 .wake
    | .starting => { r with cause := some .commission }
    | .busy | .fault => r
  else r

/-- R156: a node that is named has the kind. -/
abbrev State.fits (s : State) (r : Option NodeId) (k : NodeKind) : Prop := ∀ n, r = some n → s.hasKind n k

/-- R156, pass 1: the zone passes. -/
def State.zonePasses (s : State) (z : Zone) : Prop :=
  (s.zone z).active = true → (∃ n, (s.zone z).sensor = some n ∧ s.hasKind n .sensor) ∧ s.fits (s.zone z).blower .blower ∧
    s.fits (s.zone z).valve .valve ∧ s.fits (s.zone z).damper .damper

/-- R75, R156: each stage up to the largest band maximum is set. -/
def PlantDef.everyStageSet (p : PlantDef) : Prop :=
  ∀ k, 1 ≤ k → k ≤ 4 → (k ≤ p.idleMax ∨ k ≤ p.cruiseMax ∨ k ≤ p.pullMax) → 0 < p.stageUnits k

/-- R156, pass 2: the compressor's two checks pass. -/
def State.compressorPasses (s : State) : Prop :=
  ∀ n, s.plant.defn.compressor = some n → s.hasKind n .compressor ∧ s.plant.defn.everyStageSet

/-- R156, pass 2: the aux heater's two checks pass. -/
def State.auxPasses (s : State) : Prop :=
  ∀ n, s.plant.defn.auxHeater = some n → s.hasKind n .auxheat ∧ 0 < s.plant.defn.auxUnits

/-- R156, pass 2: the plant definition passes. -/
def State.plantPasses (s : State) : Prop :=
  s.compressorPasses ∧ s.auxPasses ∧ s.fits s.plant.defn.intake .damper ∧ 0 < s.plant.defn.coolantUnits

/-- R156, pass 4: the door's map names active zones alone. -/
def State.doorPasses (s : State) (d : Door) : Prop :=
  ∀ z : Zone, s.zones.doorMap[d].getLsbD z.val = true → (s.zone z).active = true

/-- A broadcast of the command is queued or in flight. -/
def State.broadcastAsked (s : State) (c : Command) : Prop :=
  (∃ e ∈ s.nodes.queue, e.node = none ∧ e.cmd = c) ∨ (∃ x, s.line.txn = some x ∧ x.node = none ∧ x.cmd = c)

/-- R96: an aux heater node is READY and the HEAT queue is non-empty in the plant controller's view. -/
abbrev State.heatWaits (s : State) : Prop :=
  (∃ n, s.plant.defn.auxHeater = some n ∧ (s.node n).state = .ready) ∧ s.plant.viewHeat.nonEmpty = true

/-- The heater record in a state whose own timers do not run, with no stop mark. -/
def Heater.still (h : Heater) (st : HeaterState) : Heater :=
  { h with
    state := st, stopMark := false, igniteWaitTimer := none, stopDelayTimer := none, flamePollTimer := none
    checkAsked := false }

/-- R95 to R97, R99, R101: the heater, OFF with the record h: it starts where the permit is granted in RUN, a READY node is
defined and the HEAT queue waits, and the node is sent MOVE 1; else it stays OFF. -/
def offOrStarted (s : State) (h : Heater) (t : State) : Prop :=
  (h.permit = true → s.op.state = .run → s.heatWaits →
    NodeSide { s with
      plant := { s.plant with heater := h.still .igniting }, cond := { s.cond with auxLockout := false } } t ∧
    ∀ n, s.plant.defn.auxHeater = some n → s.takesIn n .move → t.askedMove n 1) ∧
  (¬ (h.permit = true ∧ s.op.state = .run ∧ s.heatWaits) →
    t = { s with
      plant := { s.plant with heater := h.still .off }, cond := { s.cond with auxLockout := false } })

/-- R127, R135: the node is bound to the plant in this role, and no other role names it. -/
def State.solePlant (s : State) (n : NodeId) (role : PlantRole) : Prop :=
  (s.node n).binding = some (.plant role) ∧ (s.rolesOf n).length ≤ 1

/-- R82 to R84: a stage is shed from RUNNING(k), or at one stage the clutch is let out: the state, the capacity, and the
MOVE to one stage less, which stands where the event revokes nothing and no claim waits, or no other role names the
node. -/
def stageShed (s : State) (k : Nat) (t : State) : Prop :=
  ShareSide s t ∧ t.plant.seq.state = (if 2 ≤ k then .stepDown k else .disengaging) ∧
  t.arb.cool.capacity = t.coolCapacity ∧
  (∀ n, s.plant.defn.compressor = some n → s.takesIn n .move →
    ((s.arb.cool.claims = [] ∧ s.arb.cool.grantedTotal ≤ t.arb.cool.capacity) ∨ s.solePlant n .compressor) →
    t.askedMove n (k - 1))

/-- R103: the heater in RUNNING is stopped: STOPPING, the aux units leave HEAT capacity, and the node is sent MOVE 0,
which stands where the HEAT pool is empty or no other role names the node. -/
def heaterStopped (s : State) (h : Heater) (t : State) : Prop :=
  ShareSide s t ∧ t.plant.heater = h.still .stopping ∧
  t.arb.heat.capacity = min 64 (s.plant.coolant * s.plant.defn.coolantUnits) ∧
  (∀ n, s.plant.defn.auxHeater = some n → (s.node n).state = .ready → s.takesIn n .move →
    ((s.arb.heat.grants = [] ∧ s.arb.heat.claims = []) ∨ s.solePlant n .auxHeater) → t.askedMove n 0)

/-- R87, R100: the poll of a plant node: a STATUS is asked of it if it is READY. -/
def steadyPolled (s : State) (node : Option NodeId) (t : State) : Prop :=
  (∀ n, node = some n → (s.node n).state = .ready → NodeSide s t ∧ (s.takesIn n .status → t.asked n .status)) ∧
  ((∀ n, node = some n → (s.node n).state ≠ .ready) → t = s)

/-- R34: DOOR OPEN in one zone of the door's map. -/
def doorOpenedIn (d : Door) (s : State) (z : Zone) (t : State) : Prop :=
  ((s.zone z).openDoors.getLsbD d.val = true → t = s) ∧
  ((s.zone z).openDoors.getLsbD d.val = false → s.curtainStarts z = false →
    t = s.setZone z { s.zone z with openDoors := (s.zone z).openDoors ||| BitVec.twoPow 4 d.val }) ∧
  ((s.zone z).openDoors.getLsbD d.val = false → s.curtainStarts z = true →
    ModeChanged s z
      { s.zone z with
        openDoors := BitVec.twoPow 4 d.val, stack := ⟨.curtain, none, s.now⟩ :: (s.zone z).stack
        curtainTimer := some (s.now + s.zones.tuning.curtainLimit * Config.second) } t)

/-- R35: DOOR CLOSE in one zone of the door's map: the mode, then the marker and the loop timer. -/
def doorClosedIn (d : Door) (s : State) (z : Zone) (t : State) : Prop :=
  ((s.zone z).openDoors.getLsbD d.val = false → t = s) ∧
  ((s.zone z).openDoors.getLsbD d.val = true → ∀ left, left = (s.zone z).openDoors &&& ~~~ BitVec.twoPow 4 d.val →
    (left ≠ 0#4 → t = s.setZone z { s.zone z with openDoors := left }) ∧
    (left = 0#4 → ∃ u,
      ((s.zone z).hasEntry .curtain = false → u = s.setZone z { s.zone z with openDoors := left }) ∧
      ((s.zone z).hasEntry .curtain = true → ModeChanged s z
        { s.zone z with
          openDoors := left, stack := (s.zone z).stack.filter (fun e => e.kind ≠ .curtain), curtainTimer := none } u) ∧
      t = u.setZone z { u.zone z with curtainSpent := false, loopTimer := some (s.now + 2 * Config.second) }))

/-- R18: a failed read of an active zone in RUN. -/
def failedReadOf (s : State) (z : Zone) (t : State) : Prop :=
  ((s.zone z).sensorStatus = .lost → t = s) ∧
  ((s.zone z).sensorStatus ≠ .lost → (s.zone z).missed < 2 →
    t = s.setZone z { s.zone z with missed := (s.zone z).missed + 1, sensorStatus := .missed }) ∧
  ((s.zone z).sensorStatus ≠ .lost → 2 ≤ (s.zone z).missed →
    Evaluated
      (State.setZone
        { s with
          cond := { s.cond with
            sensorLost := ⟨true, min 255 (s.cond.sensorLost.count + 1), some z.number⟩ } } z
        { s.zone z with
          missed := 3, sensorStatus := .lost, flags := { (s.zone z).flags with sensorLost := true } }) z t)

/-- R110, R118: the controller has cleared its record and is free again. -/
def lineFreed (s t : State) : Prop := handedOver { s with line := Line.reset } t

/-- R117 to R119: an end of an attempt in failure: the event, the phase it is taken in, and the kind of failure. -/
def State.attemptFails (s : State) (c : Instr) (p : LinePhase) (k : FailKind) : Prop :=
  (c = .replyWindowExpiry ∧ p = .awaitReply ∧ k = .noReply) ∨ (c = .replyGapTimeout ∧ p = .receiving ∧ k = .badReply) ∨
  (c = .drainEnd ∧ p = .drain ∧ s.line.cut = false ∧ k = .badReply) ∨
  (c = .closingQuietEnd ∧ p = .closing ∧ k = .checkError ∧
    ∃ st rest, s.line.chars = st :: rest ∧ stCheckError st = true)

/-- The present phase of the line ends at d: at its timer, or in DRAIN at the limit of 20 ms from the reply's first start
bit if that is earlier (R117). -/
def State.endsAt (s : State) (d : Time) : Prop :=
  ∃ e, s.line.timer = some e ∧
    d = match s.line.phase, s.line.replyStart with
      | .drain, some b => min e (b + 20 * Config.ms)
      | _, _ => e

/-- The event changes the phase and its timer, at the time given; the rest of the line's record is kept. -/
def phaseMoved (s : State) (at_ : Time) (p : LinePhase) (wait : Nat) : State :=
  { s with now := at_, line := { s.line with phase := p, timer := some (at_ + wait) } }

/-- R132: a node's record at its entry to BUSY, less the pending move. -/
def busyRecord (s : State) (r : NodeRec) : NodeRec :=
  { r with
    state := .busy, busySince := some s.now, busyFromFault := false
    pollTimer := some (s.now + s.nodes.tuning.pollInterval * Config.ms)
    travelTimer := some (s.now + s.nodes.tuning.travelLimit r.kind * Config.second) }

/-- R132, R141: the node has entered BUSY from the record r, and a MOVE queued for it has left the queue and is its pending
move; the line is free. -/
def becameBusy (s : State) (n : NodeId) (r : NodeRec) (t : State) : Prop :=
  (s.queued n .move = false → lineFreed (s.setNode n (busyRecord s r)) t) ∧
  (∀ p e q, s.nodes.queue = p ++ e :: q → e.node = some n → e.cmd = .move →
    (∀ x ∈ p ++ q, ¬ (x.node = some n ∧ x.cmd = .move)) →
    lineFreed
      (State.setNode { s with nodes := { s.nodes with queue := p ++ q } } n
        { busyRecord s r with pending := some ⟨e.argument, e.origin⟩ }) t)

/-- A reply for the node with this status character and these data, without CHECK_ERROR, has come to the end of its
closing quiet at d. -/
def State.replied (s : State) (d : Time) (n : NodeId) (x : Txn) (st : Byte) (data : List Byte) : Prop :=
  s.held = false ∧ s.line.phase = .closing ∧ s.line.timer = some d ∧ s.line.txn = some x ∧ x.node = some n ∧
  (∃ c, s.line.chars = st :: (data ++ [c])) ∧ stCheckError st = false

/-- Such a reply with no flag of error. -/
def State.answered (s : State) (d : Time) (n : NodeId) (x : Txn) (st : Byte) (data : List Byte) : Prop :=
  s.replied d n x st data ∧ stInStart st = false ∧ stIllegal st = false ∧ stRange st = false ∧ stFault st = false

/-- A good STATUS reply of the node, which is no SENSOR and has no MOVE queued. -/
def State.statusTold (s : State) (d : Time) (n : NodeId) (x : Txn) (st v g : Byte) : Prop :=
  s.answered d n x st [v, g] ∧ x.cmd = .status ∧ (s.node n).kind ≠ some .sensor ∧ s.queued n .move = false ∧
  valueFits (s.node n).kind v.toNat = true ∧ valueFits (s.node n).kind g.toNat = true

/-- The state as an outcome is reported: the clock at the end of the attempt, its phase ended and its record standing
(R118). -/
def State.reporting (s : State) (d : Time) : State :=
  { s with now := max s.now d, line := { s.line with timer := none } }

/-- R117, R118: the second attempt of the node's transaction fails at d. -/
def State.secondFails (s : State) (c : Instr) (d : Time) (n : NodeId) (x : Txn) : Prop :=
  s.held = false ∧ (∃ p k, s.attemptFails c p k ∧ s.line.phase = p) ∧ s.line.txn = some x ∧ x.node = some n ∧
  2 ≤ x.attempt ∧ s.endsAt d

/-- R146: a node's record at its entry to FAULT. -/
def faultedRecord (r : NodeRec) (why : FaultReason) : NodeRec :=
  { r with
    state := .fault, faultReason := some why, pending := none, busySince := none, busyFromFault := false
    retryOwed := none, retryStep := none, haltOwed := false, wakeTimer := none, pollTimer := none
    travelTimer := none, revivalTimer := none }

/-- R137: the record of a node that has entered OFFLINE or FAULT, and its entries gone. -/
def State.downAt (s : State) (n : NodeId) (r : NodeRec) : State :=
  State.setNode { s with nodes := { s.nodes with queue := s.nodes.queue.filter (fun e => e.node ≠ some n) } } n r

/-- R146, R179: NODE_FAULT is raised for the node. -/
def State.faultRaised (s : State) (n : NodeId) : State :=
  { s with cond := { s.cond with nodeFault := ⟨true, min 255 (s.cond.nodeFault.count + 1), some n.address⟩ } }

/-- R144, R179: NODE_OFFLINE is raised for the node. -/
def State.offlineRaised (s : State) (n : NodeId) : State :=
  { s with cond := { s.cond with nodeOffline := ⟨true, min 255 (s.cond.nodeOffline.count + 1), some n.address⟩ } }

/-- R146, R137: a node without an owner has entered FAULT: its record, its entries gone, NODE_FAULT raised. -/
def State.faulted (s : State) (n : NodeId) (r : NodeRec) : State := (s.downAt n r).faultRaised n

/-- R144: a node's record at its entry to OFFLINE. -/
def offlinedRecord (s : State) (r : NodeRec) : NodeRec :=
  { r with
    state := .offline, pending := none, busySince := none, busyFromFault := false, haltOwed := false
    wakeTimer := none, pollTimer := none, travelTimer := none
    revivalTimer := if s.op.state = .run then some (s.now + 10 * Config.second) else none }

/-- R144, R137: a node without an owner has entered OFFLINE: its record, its entries gone, NODE_OFFLINE raised. -/
def State.offlined (s : State) (n : NodeId) (r : NodeRec) : State :=
  (s.downAt n (offlinedRecord s r)).offlineRaised n

/-- R19: the zone of a valve, damper or blower node that has entered OFFLINE or FAULT: the flag, and an evaluation. -/
def zoneToldDown (s : State) (z : Zone) (t : State) : Prop :=
  Evaluated (s.setZone z { s.zone z with flags := { (s.zone z).flags with actuatorFault := true } }) z t

/-- R16, R130, R131: no zone hears of the transaction's outcome. -/
abbrev Txn.noReading (x : Txn) : Prop := x.cmd = .read → ∀ z, Origin.zone z ∉ x.origins

/-- R130, steps 4 to 6: a reply that puts a node in READY or BUSY in FAULT for this reason: the FAULT flag, ILLEGAL or
RANGE, or a STATUS out of form. -/
def State.faultyReply (s : State) (d : Time) (n : NodeId) (x : Txn) (st : Byte) (data : List Byte) (why : FaultReason) :
    Prop :=
  s.replied d n x st data ∧ ((s.node n).state = .ready ∨ (s.node n).state = .busy) ∧
  (stInStart st = false ∨ x.cmd = .wake) ∧
  ((stFault st = true ∧ why = .nodeReported) ∨
    (stFault st = false ∧ (stIllegal st = true ∨ stRange st = true) ∧ why = .illegalReply) ∨
    (stFault st = false ∧ stIllegal st = false ∧ stRange st = false ∧ x.cmd = .status ∧ why = .illegalReply ∧
      ∃ v g, data = [v, g] ∧ (valueFits (s.node n).kind v.toNat = false ∨ valueFits (s.node n).kind g.toNat = false)))

/-- R147, R148: the IDENT of the node's kind, at the end of a start-up or of a CHECK whose STATUS showed the node still,
which brings the node to READY. -/
def State.identified (s : State) (d : Time) (n : NodeId) (x : Txn) (st k ver : Byte) : Prop :=
  s.answered d n x st [k, ver] ∧ x.cmd = .ident ∧ kindOfByte k = (s.node n).kind ∧ (s.node n).kind ≠ none ∧
  ((s.node n).state = .starting ∨
    ((s.node n).state = .fault ∧ Origin.retry ∈ x.origins ∧ (s.node n).retryStep ≠ some (.ident true)))

/-- R138: an URGENT request that joins no equal one is taken: there is a free place, or a NORMAL entry to displace. -/
abbrev State.takesUrgent (s : State) : Prop := s.nodes.queue.length < 16 ∨ ∃ e ∈ s.nodes.queue, e.urgent = false

/-- R149, R138: as a plant node reaches READY a MOVE with this argument is queued for it: one that was queued, or the
restore, which is URGENT (R135) and which only a queue of URGENT entries refuses. -/
def State.moveAtReady (s : State) (n : NodeId) (a : Nat) : Prop :=
  s.queuedMove n = some a ∨
  ((s.node n).state = .starting ∧ (s.node n).cause ∈ [some StartCause.restart, some .revival, some .retry] ∧
    s.queued n .move = false ∧ (s.node n).target = some a ∧ s.takesUrgent)

/-- R133, R137, R148: a start-up has begun: the record, the node's queued READ and STATUS gone, and the command asked
with this origin, where one is. -/
def startBegun (s : State) (n : NodeId) (r : NodeRec) (ask : Option (Command × Origin)) (t : State) : Prop :=
  ∀ q, q = s.nodes.queue.filter (fun e => !(decide (e.node = some n) &&
      (decide (e.cmd = .read) || decide (e.cmd = .status)))) →
    (ask = none → lineFreed (State.setNode { s with nodes := { s.nodes with queue := q } } n r) t) ∧
    (∀ c o, ask = some (c, o) → (∀ e ∈ q, ¬ (e.node = some n ∧ e.cmd = c)) → q.length < 16 →
      lineFreed
        (State.setNode { s with nodes := { s.nodes with queue := q ++ [⟨some n, c, 0, false, o, []⟩] } } n r) t)

/-- R131, R142: a node's record when a STATUS of it has ended its busy period. -/
def stillRecord (r : NodeRec) (value target : Nat) : NodeRec :=
  { r with
    failCount := 0, value := some (.num value), nodeTarget := some target, state := .ready, pending := none
    busySince := none, busyFromFault := false, pollTimer := none, travelTimer := none }

/-- R131, R151: the state as the STATUS that has ended a busy period is reported. -/
def State.stillAt (s : State) (d : Time) (n : NodeId) (v g : Byte) : State :=
  (s.reporting d).setNode n (stillRecord (s.node n) v.toNat g.toNat)

/-- R98: ignition has ended lit. -/
def heaterLights (now : Time) (t : State) : Prop :=
  t.plant.heater.state = .running ∧ t.plant.heater.failures = 0 ∧ t.plant.heater.stopMark = false ∧
  t.plant.heater.flamePollTimer = some (now + 5 * Config.second) ∧
  t.plant.heater.stopDelayTimer =
    (if t.plant.viewHeat.nonEmpty = false ∧ t.plant.viewHeat.granted ≤ t.plant.coolantOnly then
      some (now + t.plant.stopDelay * Config.second)
    else none) ∧
  t.arb.heat.capacity = min 64 (t.plant.coolant * t.plant.defn.coolantUnits + t.plant.defn.auxUnits)

/-- R79 to R82, R85: a step of the sequencer has ended at its target. -/
def stepCompleted (s : State) (now : Time) (t : State) : Prop :=
  t.arb.cool.capacity = t.coolCapacity ∧
  (s.plant.seq.state = .engaging → 1 ≤ s.allowedStages →
    t.plant.seq.state ∈ [Seq.running 1, .stepUp 1] ∧
    t.plant.seq.minRunTimer = some (now + s.plant.defn.minRun * Config.second)) ∧
  (∀ k, s.plant.seq.state = .stepUp k → k + 1 ≤ s.allowedStages →
    t.plant.seq.state ∈ [Seq.running (k + 1), .stepUp (k + 1)]) ∧
  (∀ k, s.plant.seq.state = .stepDown k → k - 1 ≤ s.allowedStages →
    t.plant.seq.state ∈ [Seq.running (k - 1), .stepUp (k - 1)]) ∧
  (s.plant.seq.state = .disengaging → t.plant.seq.state = .lockout ∧
    t.plant.seq.lockoutTimer = some (now + s.plant.defn.minOff * Config.second))

/-- R88: the sequencer has entered FAULT with its node n. -/
def sequencerFaulted (s : State) (n : NodeId) (t : State) : Prop :=
  t.plant.seq.state = .fault ∧ t.arb.cool.capacity = 0 ∧ t.plant.seq.lockoutTimer = none ∧
  t.cond.compFault = ⟨true, min 255 (s.cond.compFault.count + 1), some n.address⟩

/-- R88, R146: the compressor node has entered FAULT for this reason, and the sequencer with it. -/
def compressorFaulted (s : State) (n : NodeId) (why : FaultReason) (t : State) : Prop :=
  (t.node n).state = .fault ∧ (t.node n).faultReason = some why ∧
  t.cond.nodeFault = ⟨true, min 255 (s.cond.nodeFault.count + 1), some n.address⟩ ∧ sequencerFaulted s n t

/-- R85: the sequencer has entered LOCKOUT, for its full time. -/
def lockedOutFrom (s : State) (now : Time) (t : State) : Prop :=
  t.plant.seq.state = .lockout ∧ t.plant.seq.lockoutTimer = some (now + s.plant.defn.minOff * Config.second)

/-- R105: the heater when its node has entered FAULT or OFFLINE, by the state it was in. -/
def heaterNodeLost (s t : State) : Prop :=
  (s.plant.heater.state ∈ [HeaterState.igniting, .running, .stopping] → t.plant.heater = s.plant.heater.still .off) ∧
  (s.plant.heater.state = .running → t.arb.heat.capacity = min 64 (s.plant.coolant * s.plant.defn.coolantUnits)) ∧
  (s.plant.heater.state ∈ [HeaterState.off, .igniteWait, .lockedOut] → t.plant.heater = s.plant.heater)

/-- R99: a failed ignition or a flame-out: the first in a row waits, the second locks the burner out. -/
def heaterFailed (s : State) (now : Time) (t : State) : Prop :=
  (s.plant.heater.failures = 0 → t.plant.heater =
    { s.plant.heater.still .igniteWait with failures := 1, igniteWaitTimer := some (now + 60 * Config.second) }) ∧
  (s.plant.heater.failures = 1 → t.plant.heater = { s.plant.heater.still .lockedOut with failures := 2 } ∧
    t.cond.auxLockout = true)

/-! ## The arbiter -/

/-- R59, R60: with these claims taken, the pass goes past the claims given: one that is not taken stands below 3, and one
that stands at 2 has nothing taken behind it. -/
def passReaches (took : Claim → Bool) (pre : List Claim) : Prop :=
  ∀ p x q, pre = p ++ x :: q → took x = false → x.passed < 3 ∧ (x.passed = 2 → ∀ w ∈ q, took w = false)

/-- R62: units taken from the grant, of the excess: what the grants before it leave of it. -/
def lossOf (rankOf : Zone → Nat) (gs : List Grant) (excess : Nat) (g : Grant) : Nat :=
  min g.units (excess - ((gs.filter (fun b => takenBefore rankOf b g)).map Grant.units).sum)

/-- R50: the claim queue's order. -/
def inQueueOrder (q : List Claim) : Prop :=
  q.Pairwise (fun x y => y.rank < x.rank ∨ (x.rank = y.rank ∧ x.arrival < y.arrival))

/-- R48: a number's place among all numbers, counted from 1. -/
def Arbiter.placeOf (a : Arbiter) (n : Nat) : Nat := (a.numbers.filter (fun m => decide (m ≤ n))).length

/-! ## Invariants -/

/-- R179: each of the three level conditions is pending exactly while its cause holds. -/
def State.levelsFollowCauses (s : State) : Prop :=
  (s.cond.stopped = true ↔ s.op.state = .stopped) ∧
  (s.cond.auxLockout = true ↔ s.plant.heater.state = .lockedOut) ∧
  (s.cond.shedActive = true ↔ s.plant.shedView = true)

/-- R133: at most 16 entries, never two of one node and one command, and every URGENT entry before every NORMAL
one. -/
def queueInOrder (q : List Entry) : Prop :=
  q.length ≤ Config.queueMax ∧
  q.Pairwise (fun a b => ¬ (a.node = b.node ∧ a.cmd = b.cmd)) ∧
  q.Pairwise (fun a b => b.urgent = true → a.urgent = true)

/-- The transaction queue is as R133 has it. -/
def State.queueSound (s : State) : Prop := queueInOrder s.nodes.queue

/-- R46 to R50, R61: no more is granted than the capacity, no zone has two grants or two claims in the pool, the claim
queue stands in rank order, highest first, and every passed count is at most 3. -/
structure Pool.sound (p : Pool) : Prop where
  within : p.grantedTotal ≤ p.capacity
  grants : p.grants.Pairwise (fun a b => a.zone ≠ b.zone)
  claims : p.claims.Pairwise (fun a b => a.zone ≠ b.zone)
  ranks : p.claims.Pairwise (fun a b => b.rank ≤ a.rank)
  passed : ∀ c ∈ p.claims, c.passed ≤ 3

/-- The zone holds units of the pool or waits in its queue. -/
def Pool.concerns (p : Pool) (z : Zone) : Prop := (∃ g ∈ p.grants, g.zone = z) ∨ (∃ c ∈ p.claims, c.zone = z)

/-- R51: both pools are sound, and a zone holds units or waits in one of them alone. -/
structure Arbiter.sound (a : Arbiter) : Prop where
  heat : a.heat.sound
  cool : a.cool.sound
  apart : ∀ z, ¬ (a.heat.concerns z ∧ a.cool.concerns z)

/-- R128, R132, R141, R145, R148: the timers of a node run in the states they belong to, and a pending move is held
only while the node is BUSY. -/
structure NodeRec.sound (r : NodeRec) : Prop where
  pending : r.pending.isSome = true → r.state = .busy
  busySince : r.busySince.isSome = true ↔ r.state = .busy
  poll : r.pollTimer.isSome = true ↔ r.state = .busy
  travel : r.travelTimer.isSome = true ↔ r.state = .busy
  wake : r.wakeTimer.isSome = true ↔ r.state = .starting
  revival : r.revivalTimer.isSome = true → r.state = .offline

/-- Every node record is sound. -/
def State.nodesSound (s : State) : Prop := ∀ n, (s.node n).sound

end Sys2Proof.Machine
end

