-- ==== Sys2Proof/Certificates/Slice0/Obligations.lean ====
section
/-! DEFINITION. The statements about the model, in the order of OBLIGATIONS.json: the machine and its resets, the body
link port, the configuration and part-state requests, the requests of a run, the timers, the field line, the rules of
computation, and the invariants. -/

open Sys2Proof Sys2Proof.Machine

/-! ## The machine -/

/-- A step takes the command at the front of the queue and runs it on the state with the queue's rest. The model's choice
(log 1): a step on an empty queue lets one tick of time pass and changes nothing else. -/
def Obligations.StepRunsFrontCommand : Prop :=
  (∀ (c : Instr) (q : List Instr) (s : State), step (s.withPending (c :: q)) = exec c (s.withPending q)) ∧
  (∀ s : State, s.pending = [] → step s = .next { s with now := s.now + 1 })

/-- Every command that names things that exist answers a next state, leaves the commands waiting as they are, and
never takes the clock back. The model's choice (log 7): an event of a timer or claim of a zone or node that does not
exist is a fault. -/
def Obligations.CommandsCompleteOrNameNoRecord : Prop :=
  (∀ (c : Instr) (s : State), c.wellFormed = true →
    ∃ t, exec c s = .next t ∧ t.pending = s.pending ∧ s.now ≤ t.now) ∧
  (∀ (s : State) (k : Nat),
    ((k = 0 ∨ 24 < k) →
      ∀ c ∈ [Instr.loopTimerExpiry k, .holdTimerExpiry k, .defogTimerExpiry k, .curtainTimerExpiry k,
             .claimSaturation k], exec c s = .fault (.noSuchZone k)) ∧
    ((k = 0 ∨ 31 < k) →
      ∀ c ∈ [Instr.wakeTimerExpiry k, .nodePollTimerExpiry k, .travelTimerExpiry k, .revivalTimerExpiry k],
        exec c s = .fault (.noSuchNode k)))

/-! ## The hard reset -/

/-- R165, log 9: from the assertion of RST_N or the start of power-up DE and ATTN_N are released, a reply and a frame
under way are broken off, and nothing else of the part changes; a held part receives no frame and acts on no line: no
command but a hard reset changes anything but the levels of the two input lines. -/
def Obligations.HoldStopsThePart : Prop :=
  (∀ s : State, ∃ t, exec .hardResetHold s = .next t ∧
    t.held = true ∧ t.deAsserted = false ∧ t.attnDriven = false ∧ t.line.phase = .idle ∧ t.line.txn = none ∧
    t.port.sending = none ∧ t.port.rx = .hunt ∧ t.port.rxTimer = none ∧
    t = { s with
      held := true, line := t.line
      port := { s.port with rx := .hunt, rxTimer := none, sending := none } }) ∧
  (∀ (s : State) (c : Instr), s.held = true → c.wellFormed = true → c ≠ .hardResetHold →
    (∀ k, c ≠ .hardReset k) →
    ∃ t, exec c s = .next t ∧ t = { s with shedLine := t.shedLine, key := t.key })

/-- R165: at the end of the hold every block takes its reset values, with the reset's own cause and the view of SHED_N
from the line. The model's choices: the clock is kept and no command is lost (log 1), the levels of SHED_N and KEY stand
(log 5, log 6), the cause is the command's operand (log 8), and the fields that hold how far something has come stand at
none, false or the first step (log 23, log 35, log 39). -/
def Obligations.HardResetGivesResetValues : Prop :=
  ∀ (s : State) (k : HardCause), ∃ t, exec (.hardReset k) s = .next t ∧
    t.now = s.now ∧ t.held = false ∧ t.shedLine = s.shedLine ∧ t.key = s.key ∧ t.pending = s.pending ∧
    (∀ z, t.zone z =
      { active := false, rank := 1, wmax := 8, deadband := 5, loopPeriod := 10
        sensor := none, blower := none, valve := none, damper := none, planSetpoint := 220, baseMode := .off
        tempSetpoint := none, stack := [⟨.base, none, s.now⟩], openDoors := 0#4, curtainSpent := false
        temperature := none, co2 := none, sensorStatus := .ok, missed := 0, direction := .none, want := 0
        claimRank := 1, flags := ⟨false, false, false, false⟩
        loopTimer := none, holdTimer := none, defogTimer := none, curtainTimer := none }) ∧
    t.zones.tuning =
      { ventLevel := 40, minBlower := 20, panelBand := 20, holdTime := 60, curtainLimit := 180, purgeOn := 1500
        purgeOff := 1000 } ∧
    (∀ d : Door, t.zones.doorMap[d] = 0#24) ∧
    t.arb = { heat := ⟨0, [], []⟩, cool := ⟨0, [], []⟩, counter := 0, saturationTime := 300 } ∧
    t.plant =
      { band := .stopped, coolant := 0, shedView := s.shedLine
        defn :=
          { compressor := none, u1 := 0, u2 := 0, u3 := 0, u4 := 0, idleMax := 0, cruiseMax := 0, pullMax := 0
            minRun := 60, minOff := 120, stageDownHold := 30, auxHeater := none, auxUnits := 0, coolantUnits := 0
            intake := none }
        stopDelay := 300, minFreshAir := 20
        seq :=
          { state := .off, minRunTimer := none, minRunExpired := false, holdTimer := none, holdMet := false
            lockoutTimer := none, pollTimer := none, checkAsked := false, watch := false }
        heater :=
          { state := .off, failures := 0, permit := false, stopMark := false, igniteWaitTimer := none
            stopDelayTimer := none, flamePollTimer := none, checkAsked := false }
        viewHeat := ⟨false, 0⟩, viewCool := ⟨false, 0⟩, purgeCount := 0, intakeTarget := none } ∧
    (∀ n, t.node n =
      { configured := false, kind := none, binding := none, state := .unknown, failCount := 0, wakeCount := 0
        cause := none, startStep := .wake, target := none, pending := none, value := none, nodeTarget := none
        version := none, busySince := none, busyFromFault := false, faultReason := none, retryOwed := none
        retryStep := none, haltOwed := false, wakeTimer := none, pollTimer := none, travelTimer := none
        revivalTimer := none }) ∧
    t.nodes.queue = [] ∧
    t.nodes.tuning =
      { pollInterval := 500, travelBlower := 10, travelDamper := 60, travelValve := 60, travelCompressor := 30
        travelAuxheat := 240 } ∧
    t.nodes.pollTick = some (s.now + 500 * Config.ms) ∧
    t.line = { phase := .idle, txn := none, timer := none, replyStart := none, chars := [], cut := false } ∧
    t.op.state = .config ∧ t.op.entered = s.now ∧ t.op.configChanged = true ∧
    t.op.cause = (match k with | .power => .power | .pin => .pin) ∧
    t.op.lastRefusal = none ∧ (∀ n : NodeId, t.op.done[n] = false ∧ t.work n = .idle) ∧ t.op.haltSent = false ∧
    t.op.soft = .none ∧
    (∀ c, t.cond.sticky c = ⟨false, 0, none⟩) ∧ t.cond.auxLockout = false ∧ t.cond.stopped = false ∧
    t.cond.shedActive = s.shedLine ∧ t.cond.mask = 0#12 ∧ t.cond.enable = false ∧
    t.port =
      { rx := .hunt, rxTimer := none, slot := none, sending := none, tag := .none
        protection := ⟨none, .panelOnly, false⟩ }

/-! ## The body link port -/

/-- R168 to R170: in HUNT every byte but START is ignored; START begins a frame, whose next byte is due within 5 ms; when
the 5 ms have passed the partial frame is abandoned with no reply and no condition. The bytes of a whole request frame,
received in HUNT, offer the frame with the CRC that its bytes carry to the holding slot; a frame offered is taken at once,
waits in the slot, or is lost with LINK_OVERRUN, by the port's state. The model's choices (log 2): the event of a stopped
timer changes nothing, and a running one takes the clock to its own time. -/
def Obligations.FramesReachTheHoldingSlot : Prop :=
  ∀ s : State,
    (∀ (kind tag : Byte) (p : List Byte) (crc : Word), p.length ≤ 60 → s.held = false → s.port.rx = .hunt →
      s.port.rxTimer = none →
      exec (.frameReceived (0xC3#8 :: byteOf (2 + p.length) :: kind :: tag :: (p ++ wordBytes crc))) s =
        .next (s.offer (.whole kind tag p crc))) ∧
    (∀ f : RxFrame,
      (s.port.slot = none → s.port.sending = none → s.op.soft = .none → s.offer f = s.takeFrame f) ∧
      (s.port.slot = none → (s.port.sending ≠ none ∨ s.op.soft ≠ .none) →
        s.offer f = { s with port := { s.port with slot := some f } }) ∧
      (∀ g, s.port.slot = some g →
        s.offer f = { s with cond := { s.cond with linkOverrun :=
          ⟨true, min 255 (s.cond.linkOverrun.count + 1), none⟩ } })) ∧
    (s.held = false →
      (s.port.rx = .hunt → ∀ b : Byte, b ≠ 0xC3#8 → exec (.frameReceived [b]) s = .next s) ∧
      (s.port.rx = .hunt → exec (.frameReceived [0xC3#8]) s =
        .next { s with port := { s.port with rx := .inFrame [], rxTimer := some (s.now + 5 * Config.ms) } }) ∧
      (∀ d, s.port.rxTimer = some d → exec .frameGapTimeout s =
        .next { s with now := max s.now d, port := { s.port with rx := .hunt, rxTimer := none } }) ∧
      (s.port.rxTimer = none → exec .frameGapTimeout s = .next s))

/-- R168, R169, R171: the CRC register starts at 0xFFFF and takes the bytes from LEN to the last payload byte, each most
significant bit first, by the generator x^16 + x^12 + x^5 + 1, with no final inversion. A reply's bytes are START, LEN
counted from KIND to the last payload byte, KIND, TAG, STATUS, the payload, and the CRC, high byte first. A frame whose CRC
fails, and a frame ended by a LEN outside 2 to 62, taken by a free port, is answered with KIND 0xFF, TAG 0, CHECK_FAILED
and no payload; no block is told and the range tag is not touched. -/
def Obligations.BrokenFrameAnsweredCheckFailed : Prop :=
  (∀ bytes : List Byte, crc16 bytes = (bytes.flatMap bitsFromTop).foldl crcTakesBit 0xFFFF#16) ∧
  (∀ (kind tag : Byte) (p : List Byte),
    requestCrc kind tag p = crc16 (byteOf (2 + p.length) :: kind :: tag :: p)) ∧
  (∀ (r : Reply) (body : List Byte),
    body = byteOf (3 + r.payload.length) :: r.kind :: r.tag :: r.status :: r.payload →
    ∃ hi lo : Byte, r.bytes = 0xC3#8 :: (body ++ [hi, lo]) ∧ hi.toNat * 256 + lo.toNat = (crc16 body).toNat) ∧
  ∀ (s : State), s.portFree → s.port.rx = .hunt → s.port.rxTimer = none →
    (∀ len : Byte, (len.toNat < 2 ∨ 62 < len.toNat) →
      ∃ t, exec (.frameReceived [0xC3#8, len]) s = .next t ∧ t.replies 0xFF#8 0#8 0x08#8 [] ∧ OnlyPort s t ∧
        t.port = { s.port with sending := t.port.sending }) ∧
    (∀ (kind tag : Byte) (p : List Byte) (crc : Word), p.length ≤ 60 → crc ≠ requestCrc kind tag p →
      ∃ t, exec (.frameReceived (0xC3#8 :: byteOf (2 + p.length) :: kind :: tag :: (p ++ wordBytes crc))) s = .next t ∧
        t.replies 0xFF#8 0#8 0x08#8 [] ∧ OnlyPort s t ∧ t.port = { s.port with sending := t.port.sending })

/-- R170, R166, R122: at the last byte of a reply the port is no longer busy, and a frame waiting in the slot is taken at
once. A RESTART, in every part state, is answered OK, and the soft reset waits for the last byte of its reply; that byte
orders the cut, which acts by the line's phase. The model's choices: a REPLY_SENT while no reply is sent changes nothing
(log 3), the reply takes the time its own event is given (log 32), a cut in a frame ends with the character then sent
(DEDUCED, log 33), and at the instant SENDING begins the frame ends with no character sent (log 53). -/
def Obligations.RepliesEndAndRestartCuts : Prop :=
  (∀ (s : State), s.held = false →
    (s.port.sending = none → exec .replySent s = .next s) ∧
    (∀ r, s.port.sending = some r → s.op.soft ≠ .reply →
      (s.port.slot = none → exec .replySent s = .next { s with port := { s.port with sending := none } }) ∧
      (∀ f, s.port.slot = some f →
        exec .replySent s =
          .next (State.takeFrame { s with port := { s.port with sending := none, slot := none } } f)))) ∧
  (∀ (s : State) (tag : Byte), s.portFree →
    ∃ t, exec (.restart tag) s = .next t ∧ t.repliesOk 0x92#8 tag [] ∧
      t = { s with op := { s.op with soft := .reply }, port := answeredPort s t }) ∧
  (∀ (s : State) (r : Reply), s.held = false → s.port.sending = some r → s.op.soft = .reply →
      ∃ t, exec .replySent s = .next t ∧
        t = { s with
          line := t.line, op := { s.op with soft := .cut }, port := { s.port with sending := none } } ∧
        t.line.cut = true ∧ t.line.txn = s.line.txn ∧
        (s.line.phase ∈ [LinePhase.idle, .lead, .trail, .awaitReply, .broadcastWait] →
          t.line.phase = .gap ∧ t.line.timer = some (s.now + 2 * Config.charTime) ∧ t.deAsserted = true) ∧
        (s.line.phase = .sending → t.line.phase = .sending ∧
          ∀ e, s.line.timer = some e → t.line.timer = some (s.now + (e - s.now) % Config.charTime)) ∧
        (s.line.phase ∈ [LinePhase.receiving, .closing, .drain] →
          t.line = { s.line with phase := .drain, cut := true }) ∧
        (s.line.phase = .gap → t.line = { s.line with cut := true }))

/-- R172 step 3 and its table, R173, R176: a request of a kind that the present part state does not take is refused with
WRONG_STATE and the part state; no block changes; the tag becomes NONE, but RANGE_CLOSE keeps it. -/
def Obligations.WrongStateRefused : Prop :=
  ∀ (s : State) (k : Kind) (tag : Byte) (p : List Byte), s.portFree → s.port.rx = .hunt → s.port.rxTimer = none →
    p.length ≤ 60 →
    ((k ∈ [Kind.zoneDef, .nodeDef, .doorDef, .plantDef, .tuneDef, .commission] ∧
        s.op.state ≠ .config ∧ s.op.state ≠ .stopped) ∨
      (k = .shutdown ∧ s.op.state ≠ .commissioning ∧ s.op.state ≠ .run) ∨
      (k ∈ [Kind.plan, .setpoint, .rangeOpen, .rangeClose, .rangeApply, .door, .defog, .purge, .aux, .auxClear,
        .nodeRetry] ∧ s.op.state ≠ .run)) →
    ∃ t, exec (.frameReceived (requestBytes k.code tag p)) s = .next t ∧
      t.repliesRefused (k.code + 0x80#8) tag [1#8, byteOf s.op.state.code] ∧ OnlyPort s t ∧
      t.port = { s.port with
        tag := (if k = .rangeClose then s.port.tag else .none), sending := t.port.sending }

/-- R172 steps 1, 2 and 4, R176, R177: a KIND that is no request kind is answered with UNKNOWN_KIND and touches no tag.
A payload of another length than its kind's, in a state that takes the kind, is answered with BAD_ARGUMENT, but with
SEQUENCE_ERROR where RANGE_CLOSE finds no tag and RANGE_APPLY no CLOSED one. A query and RANGE_CLOSE keep the tag, every
other request clears it. R33, R39, R95, R147, R177: an action code that DOOR, PURGE, AUX, NODE_RETRY or RANGE_APPLY does
not have, once the checks before it pass, is answered with BAD_ARGUMENT and changes nothing but the tag. -/
def Obligations.UnknownKindAndWrongLengthAnswered : Prop :=
  ∀ (s : State) (tag : Byte) (p : List Byte), s.portFree → s.port.rx = .hunt → s.port.rxTimer = none →
    p.length ≤ 60 →
    (∀ kind : Byte, (∀ k : Kind, k.code ≠ kind) →
      ∃ t, exec (.frameReceived (requestBytes kind tag p)) s = .next t ∧
        t.replies (if kind.msb then 0xFF#8 else kind + 0x80#8) tag 0x04#8 [] ∧ OnlyPort s t ∧
        t.port = { s.port with sending := t.port.sending }) ∧
    (∀ (k : Kind) (lost : Prop), k.takenIn.includes s.op.state = true → p.length ≠ k.length →
      (lost ↔ (k = .rangeClose ∧ s.port.tag = .none) ∨ (k = .rangeApply ∧ ∀ f l, s.port.tag ≠ .closed f l)) →
      ∃ t, exec (.frameReceived (requestBytes k.code tag p)) s = .next t ∧ OnlyPort s t ∧
        (lost → t.repliesSequenceError (k.code + 0x80#8) tag) ∧
        (¬ lost → t.repliesBadArgument (k.code + 0x80#8) tag) ∧
        (k ∈ [Kind.stateQuery, .zoneQuery, .poolQuery, .nodeQuery, .plantQuery, .condQuery, .rangeClose] →
          t.port = { s.port with sending := t.port.sending } ∧ t.replyFlag 1 = false) ∧
        (k ∉ [Kind.stateQuery, .zoneQuery, .poolQuery, .nodeQuery, .plantQuery, .condQuery, .rangeClose] →
          t.port = answeredPort s t ∧ (t.replyFlag 1 = true ↔ s.port.tag ≠ .none))) ∧
    (s.op.state = .run → ∀ (k : Kind) (c : Byte) (q : List Byte),
      ((k ∈ [Kind.door, .nodeRetry] ∧ ¬ byteIn 1 2 c ∧ ∃ b, q = [b, c]) ∨
        (k = .aux ∧ ¬ byteIn 1 2 c ∧ q = [c]) ∨
        (k = .purge ∧ ¬ byteIn 1 2 c ∧ ∃ z src, s.zoneOpen z src ∧ q = [byteOf z.number, src.code, c]) ∨
        (k = .rangeApply ∧ ¬ byteIn 1 4 c ∧ (∃ f l, s.port.tag = .closed f l) ∧ ∃ b h l, q = [b, c, h, l])) →
      ∃ t, exec (.frameReceived (requestBytes k.code tag q)) s = .next t ∧
        t.repliesBadArgument (k.code + 0x80#8) tag ∧ OnlyAnswered s t ∧
        (t.replyFlag 1 = true ↔ s.port.tag ≠ .none))

/-! ## Queries -/

/-- R25, R71, R109, R152, R167, R184, R185, chapters 11.4 and 11.5: a query, in every part state, is answered with status
OK and the payload that the layout gives, or with BAD_ARGUMENT where a field is out of range; it changes no state and keeps
the range tag, the holding slot and the protection record. The model's choices: an age in a payload leaves off a part of a
second (log 55), and in NODE_QUERY a SENSOR's absent value is 0x8000 and 0xFFFF and an absent version 0 (DEDUCED, log 22). -/
def Obligations.QueriesChangeNoState : Prop :=
  codesAsListed ∧
  ∀ (s : State) (tag : Byte), s.portFree →
    (∃ t, exec (.stateQuery tag) s = .next t ∧ t.repliesOk 0xC0#8 tag (Layout.state s) ∧ OnlyPort s t ∧
      t.port = { s.port with sending := t.port.sending } ∧ (Layout.state s).length = 36) ∧
    (∀ z : Zone, ∃ t, exec (.zoneQuery tag (byteOf z.number)) s = .next t ∧
      t.repliesOk 0xC1#8 tag (Layout.zone s z) ∧ OnlyPort s t ∧
      t.port = { s.port with sending := t.port.sending } ∧ (Layout.zone s z).length = 56) ∧
    (∀ (i : PoolId) (first : Byte), first.toNat ≤ 23 →
      (∃ (t : State) (gs es : List Grant), exec (.poolQuery tag (byteOf i.code) 1#8 first) s = .next t ∧
        gs.Perm (s.arb.pool i).grants ∧ gs.Pairwise (fun a b => a.number ≤ b.number) ∧
        es = (gs.drop first.toNat).take 7 ∧
        t.repliesOk 0xC2#8 tag (Layout.poolHead s i 1#8 first es.length ++ es.flatMap (Layout.grant s)) ∧
        OnlyPort s t ∧ t.port = { s.port with sending := t.port.sending }) ∧
      (∃ (t : State) (es : List Claim), exec (.poolQuery tag (byteOf i.code) 2#8 first) s = .next t ∧
        es = ((s.arb.pool i).claims.drop first.toNat).take 4 ∧
        t.repliesOk 0xC2#8 tag (Layout.poolHead s i 2#8 first es.length ++ es.flatMap (Layout.claim s)) ∧
        OnlyPort s t ∧ t.port = { s.port with sending := t.port.sending })) ∧
    (∀ n : NodeId, ∃ t, exec (.nodeQuery tag (byteOf n.address)) s = .next t ∧
      t.repliesOk 0xC3#8 tag (Layout.nodeRec s n) ∧ OnlyPort s t ∧
      t.port = { s.port with sending := t.port.sending } ∧
      (Layout.nodeRec s n).length = 34 + 2 * (s.nodes.queue.filter (fun e => decide (e.node = some n))).length) ∧
    (∃ t, exec (.plantQuery tag) s = .next t ∧ t.repliesOk 0xC4#8 tag (Layout.plant s) ∧ OnlyPort s t ∧
      t.port = { s.port with sending := t.port.sending } ∧ (Layout.plant s).length = 35) ∧
    (∃ t p, exec (.condQuery tag) s = .next t ∧ firstCondition s p ∧ t.repliesOk 0xC5#8 tag (Layout.cond s p) ∧
      OnlyPort s t ∧ t.port = { s.port with sending := t.port.sending } ∧ (Layout.cond s p).length = 25) ∧
    (∀ b : Byte, (b.toNat = 0 ∨ 24 < b.toNat) →
      ∃ t, exec (.zoneQuery tag b) s = .next t ∧ t.repliesBadArgument 0xC1#8 tag ∧ OnlyPort s t ∧
        t.port = { s.port with sending := t.port.sending }) ∧
    (∀ b : Byte, (b.toNat = 0 ∨ 31 < b.toNat) →
      ∃ t, exec (.nodeQuery tag b) s = .next t ∧ t.repliesBadArgument 0xC3#8 tag ∧ OnlyPort s t ∧
        t.port = { s.port with sending := t.port.sending }) ∧
    (∀ i l f : Byte, (i.toNat = 0 ∨ 2 < i.toNat ∨ l.toNat = 0 ∨ 2 < l.toNat ∨ 23 < f.toNat) →
      ∃ t, exec (.poolQuery tag i l f) s = .next t ∧ t.repliesBadArgument 0xC2#8 tag ∧ OnlyPort s t ∧
        t.port = { s.port with sending := t.port.sending })

/-! ## Configuration -/

/-- R4, R5, R127, R154: an accepted ZONE_DEF replaces the zone's record, ends the bindings to the zone and sets the
configuration-changed flag; a field out of range, or for an inactive zone the zone number, gives BAD_ARGUMENT. -/
def Obligations.ZoneDefinition : Prop :=
  ∀ (s : State) (tag : Byte) (a : ZoneDefArgs), s.portFree → s.takesConfiguration →
    (∀ z : Zone, a.zone.toNat = z.number →
      (zoneDefInRange a → ∃ t, exec (.zoneDef tag a) s = .next t ∧ t.repliesOk 0x81#8 tag [] ∧
        t.zone z = { ZoneRec.reset s.now with
          active := true, rank := a.rank.toNat, wmax := a.wmax.toNat, deadband := a.deadband.toNat
          loopPeriod := a.loopPeriod.toNat, sensor := (t.zone z).sensor, blower := (t.zone z).blower
          valve := (t.zone z).valve, damper := (t.zone z).damper, planSetpoint := a.planSetpoint.toInt
          baseMode := (t.zone z).baseMode, claimRank := a.rank.toNat } ∧
        namesNode a.sensor (t.zone z).sensor ∧ namesNode a.blower (t.zone z).blower ∧
        namesNode a.valve (t.zone z).valve ∧ namesNode a.damper (t.zone z).damper ∧
        (t.zone z).baseMode.code = a.baseMode.toNat ∧ redefined s t z) ∧
      (∃ t, exec (.zoneDefInactive tag a) s = .next t ∧ t.repliesOk 0x81#8 tag [] ∧
        t.zone z = ZoneRec.reset s.now ∧ redefined s t z)) ∧
    (¬ zoneDefInRange a →
      ∃ t, exec (.zoneDef tag a) s = .next t ∧ t.repliesBadArgument 0x81#8 tag ∧ OnlyAnswered s t) ∧
    ((a.zone.toNat = 0 ∨ 24 < a.zone.toNat) →
      ∃ t, exec (.zoneDefInactive tag a) s = .next t ∧ t.repliesBadArgument 0x81#8 tag ∧ OnlyAnswered s t)

/-- R126, R31, R154: an accepted NODE_DEF writes the record afresh, with no binding and in UNKNOWN, and drops the node's
entries; an accepted DOOR_DEF replaces the door's map. Both set the configuration-changed flag, and a field out of range
gives BAD_ARGUMENT. -/
def Obligations.NodeAndDoorDefinitions : Prop :=
  (∀ (s : State) (tag address configured kind : Byte), s.portFree → s.takesConfiguration →
      (∀ n : NodeId, address.toNat = n.address →
        ((configured = 1#8 ∧ byteIn 1 6 kind) ∨ configured = 0#8) →
        ∃ t, exec (.nodeDef tag address configured kind) s = .next t ∧ t.repliesOk 0x82#8 tag [] ∧
          t.node n = { NodeRec.reset with configured := (t.node n).configured, kind := (t.node n).kind } ∧
          (configured = 1#8 → (t.node n).configured = true ∧ kindCode (t.node n).kind = kind.toNat) ∧
          (configured = 0#8 → (t.node n).configured = false ∧ (t.node n).kind = none) ∧
          (∀ m, m ≠ n → t.node m = s.node m) ∧
          t.nodes.queue = s.nodes.queue.filter (fun e => e.node ≠ some n) ∧
          t = { s with
            nodes := { s.nodes with table := t.nodes.table, queue := t.nodes.queue }
            op := { s.op with configChanged := true }, port := answeredPort s t }) ∧
      ((¬ byteIn 1 31 address ∨ ¬ byteIn 0 1 configured ∨ (configured = 1#8 ∧ ¬ byteIn 1 6 kind)) →
        ∃ t, exec (.nodeDef tag address configured kind) s = .next t ∧ t.repliesBadArgument 0x82#8 tag ∧
          OnlyAnswered s t)) ∧
  (∀ (s : State) (tag door : Byte) (zones : BitVec 24), s.portFree → s.takesConfiguration →
      (∀ d : Door, door.toNat = d.number →
        ∃ t, exec (.doorDef tag door zones) s = .next t ∧ t.repliesOk 0x83#8 tag [] ∧ t.zones.doorMap[d] = zones ∧
          (∀ e : Door, e ≠ d → t.zones.doorMap[e] = s.zones.doorMap[e]) ∧
          t = { s with
            zones := { s.zones with doorMap := t.zones.doorMap }
            op := { s.op with configChanged := true }, port := answeredPort s t }) ∧
      (¬ byteIn 1 4 door →
        ∃ t, exec (.doorDef tag door zones) s = .next t ∧ t.repliesBadArgument 0x83#8 tag ∧ OnlyAnswered s t))

/-- R75, R91, R93, R154: an accepted PLANT_DEF replaces the plant definition and writes HEAT capacity afresh; with an
empty HEAT pool nothing else changes. -/
def Obligations.PlantDefinition : Prop :=
  ∀ (s : State) (tag : Byte) (a : PlantDefArgs), s.portFree → s.takesConfiguration →
    (plantDefInRange a → ∃ t, exec (.plantDef tag a) s = .next t ∧ t.repliesOk 0x84#8 tag [] ∧
      t.plant.defn =
        { compressor := t.plant.defn.compressor, u1 := a.u1.toNat, u2 := a.u2.toNat, u3 := a.u3.toNat
          u4 := a.u4.toNat, idleMax := a.idleMax.toNat, cruiseMax := a.cruiseMax.toNat, pullMax := a.pullMax.toNat
          minRun := a.minRun.toNat, minOff := a.minOff.toNat, stageDownHold := a.stageDownHold.toNat
          auxHeater := t.plant.defn.auxHeater, auxUnits := a.auxUnits.toNat, coolantUnits := a.coolantUnits.toNat
          intake := t.plant.defn.intake } ∧
      namesNode a.compressor t.plant.defn.compressor ∧ namesNode a.auxHeater t.plant.defn.auxHeater ∧
      namesNode a.intake t.plant.defn.intake ∧
      t.arb.heat.capacity = min 64 (s.plant.coolant * a.coolantUnits.toNat +
        (if s.plant.heater.state = .running then a.auxUnits.toNat else 0)) ∧
      t.arb.cool.capacity = s.arb.cool.capacity ∧
      t.port = answeredPort s t ∧
      ShareSide { s with
        plant := { s.plant with defn := t.plant.defn }, op := { s.op with configChanged := true }, port := t.port } t ∧
      (s.arb.heat.grants = [] → s.arb.heat.claims = [] →
        t = { s with
          arb := { s.arb with heat := { s.arb.heat with capacity := t.arb.heat.capacity } }
          plant := { s.plant with defn := t.plant.defn }, op := { s.op with configChanged := true }
          port := t.port })) ∧
    (¬ plantDefInRange a →
      ∃ t, exec (.plantDef tag a) s = .next t ∧ t.repliesBadArgument 0x84#8 tag ∧ OnlyAnswered s t)

/-- R155: a TUNE_DEF, taken in CONFIG and STOPPED alone, replaces every tuning value in the same event and sets the
configuration-changed flag, and nothing else; a field out of range leaves every value as it was. -/
def Obligations.TuningDefinition : Prop :=
  ∀ (s : State) (tag : Byte) (a : TuneDefArgs), s.portFree →
    (s.takesConfiguration → tuneDefInRange a → ∃ t, exec (.tuneDef tag a) s = .next t ∧ t.repliesOk 0x85#8 tag [] ∧
      t = { s with
        zones := { s.zones with
          tuning :=
            { ventLevel := a.ventLevel.toNat, minBlower := a.minBlower.toNat, panelBand := a.panelBand.toNat
              holdTime := a.holdTime.toNat, curtainLimit := a.curtainLimit.toNat, purgeOn := a.purgeOn.toNat
              purgeOff := a.purgeOff.toNat } }
        arb := { s.arb with saturationTime := a.saturationTime.toNat }
        plant := { s.plant with stopDelay := a.stopDelay.toNat, minFreshAir := a.minFreshAir.toNat }
        nodes := { s.nodes with
          tuning :=
            { pollInterval := a.pollInterval.toNat, travelBlower := a.travelBlower.toNat
              travelDamper := a.travelDamper.toNat, travelValve := a.travelValve.toNat
              travelCompressor := a.travelCompressor.toNat, travelAuxheat := a.travelAuxheat.toNat } }
        op := { s.op with configChanged := true }, port := answeredPort s t }) ∧
    (s.takesConfiguration → ¬ tuneDefInRange a →
      ∃ t, exec (.tuneDef tag a) s = .next t ∧ t.repliesBadArgument 0x85#8 tag ∧ OnlyAnswered s t) ∧
    (¬ s.takesConfiguration →
      ∃ t, exec (.tuneDef tag a) s = .next t ∧ t.repliesRefused 0x85#8 tag [1#8, byteOf s.op.state.code] ∧
        OnlyAnswered s t)

/-! ## Part state -/

/-- R156, R158: a configuration passes exactly when every active zone's nodes are configured with their kinds, the plant
definition fits, no node is named in two roles, and no door's map names an inactive zone. The first failing check is
reported with its item and code: the zones in ascending number, each sensor, blower, valve, damper; then the compressor,
its stages, the aux heater, its units, the intake, the coolant units; then the lowest address named twice; then the lowest
door. -/
def Obligations.ValidationPassesExactly : Prop :=
  ∀ s : State,
    (s.validate = none ↔ (∀ z, s.zonePasses z) ∧ s.plantPasses ∧ (∀ n, (s.rolesOf n).length ≤ 1) ∧
      ∀ d, s.doorPasses d) ∧
    (∀ z r, (∀ y, y < z → s.zonePasses y) → r = s.zone z → r.active = true →
      ((¬ ∃ n, r.sensor = some n ∧ s.hasKind n .sensor) → s.validate = some ⟨.zone, z.number, .sensorKind⟩) ∧
      ((∃ n, r.sensor = some n ∧ s.hasKind n .sensor) →
        (¬ s.fits r.blower .blower → s.validate = some ⟨.zone, z.number, .blowerKind⟩) ∧
        (s.fits r.blower .blower → ¬ s.fits r.valve .valve → s.validate = some ⟨.zone, z.number, .valveKind⟩) ∧
        (s.fits r.blower .blower → s.fits r.valve .valve → ¬ s.fits r.damper .damper →
          s.validate = some ⟨.zone, z.number, .damperKind⟩))) ∧
    ((∀ z, s.zonePasses z) →
      (∀ n, s.plant.defn.compressor = some n →
        (¬ s.hasKind n .compressor → s.validate = some ⟨.node, n.address, .compressorKind⟩) ∧
        (s.hasKind n .compressor → ¬ s.plant.defn.everyStageSet →
          s.validate = some ⟨.node, n.address, .stageUnits⟩)) ∧
      (s.compressorPasses →
        (∀ n, s.plant.defn.auxHeater = some n →
          (¬ s.hasKind n .auxheat → s.validate = some ⟨.node, n.address, .auxKind⟩) ∧
          (s.hasKind n .auxheat → s.plant.defn.auxUnits = 0 → s.validate = some ⟨.node, n.address, .auxUnits⟩)) ∧
        (s.auxPasses →
          (∀ n, s.plant.defn.intake = some n → ¬ s.hasKind n .damper →
            s.validate = some ⟨.node, n.address, .intakeKind⟩) ∧
          (s.fits s.plant.defn.intake .damper → s.plant.defn.coolantUnits = 0 →
            s.validate = some ⟨.plant, 0, .coolantUnits⟩))) ∧
      (s.plantPasses →
        (∀ n, 2 ≤ (s.rolesOf n).length → (∀ m, m < n → (s.rolesOf m).length ≤ 1) →
          s.validate = some ⟨.node, n.address, .doubleBinding⟩) ∧
        ((∀ n, (s.rolesOf n).length ≤ 1) → ∀ d, ¬ s.doorPasses d → (∀ e, e < d → s.doorPasses e) →
          s.validate = some ⟨.door, d.number, .doorZone⟩)))

/-- R156 to R159, R90, R108, R127: a COMMISSION that fails validation is refused with BAD_CONFIG and remembered; one
that passes takes the part to COMMISSIONING, where every configured node's work begins by its state. The sequencer leaves
FAULT for OFF unless its node is in FAULT, and keeps every other state; that it keeps DISENGAGING too is the model's choice
(log 46). -/
def Obligations.CommissionByValidation : Prop :=
  ∀ (s : State) (tag : Byte), s.portFree → s.takesConfiguration →
    (∀ b, s.validate = some b → ∃ t, exec (.commission tag) s = .next t ∧
      t.repliesRefused 0x90#8 tag [4#8, byteOf b.item.code, byteOf b.number, byteOf b.check.code] ∧
      t = { s with op := { s.op with lastRefusal := some b }, port := answeredPort s t }) ∧
    (s.validate = none → ∃ t, exec (.commission tag) s = .next t ∧ t.repliesOk 0x90#8 tag [] ∧
      t.op = { s.op with
        state := .commissioning, entered := s.now, configChanged := false, lastRefusal := none, haltSent := false
        done := t.op.done, work := t.op.work } ∧
      (∀ n : NodeId, t.op.done[n] = ((s.node n).configured && decide ((s.node n).state = .fault))) ∧
      (∀ n : NodeId, (s.node n).configured = true → t.work n =
        match (s.node n).state with
        | .busy => .waitBusy
        | .fault => .idle
        | .unknown | .starting | .ready | .offline => .startUp) ∧
      (∀ n : NodeId, t.node n = { (commissionedNode s n) with
        retryOwed := (t.node n).retryOwed, retryStep := (t.node n).retryStep
        haltOwed := (t.node n).haltOwed }) ∧
      (s.nodes.queue.length < 16 → t.broadcastAsked .halt) ∧
      (s.nodes.queue.length + (configuredNodes s).length < 16 →
        ∀ n : NodeId, (s.node n).configured = true → (s.node n).state ∈ [NodeState.unknown, .ready, .offline] →
          t.asked n .wake) ∧
      t.plant = { s.plant with seq := t.plant.seq, purgeCount := 0, intakeTarget := some s.plant.minFreshAir } ∧
      (t.plant.seq.state =
        if s.plant.seq.state = .fault ∧ ∀ n, s.plant.defn.compressor = some n → (s.node n).state ≠ .fault then .off
        else s.plant.seq.state) ∧
      t.cond = { s.cond with stopped := false } ∧ t.zones = s.zones ∧ t.arb = s.arb ∧ t.now = s.now ∧
      t.held = s.held ∧ t.shedLine = s.shedLine ∧ t.key = s.key ∧ t.port = answeredPort s t ∧
      t.nodes.tuning = s.nodes.tuning ∧ t.nodes.pollTick = s.nodes.pollTick ∧ t.pending = s.pending)

/-- R163, R164, R24, R70, R90, R106, R108, R150: an accepted SHUTDOWN empties the pools, the zones' run-time state and
the queue, asks the broadcast MOVE 0, and ends in STOPPED at once when the plant is at rest. A working sequencer is
DISENGAGING, with its timers and its hold-met mark gone, and a lockout runs on; a heater that ignites or runs is STOPPING,
with its stop mark and its timers gone, and any other keeps its record, an ignite wait included. The transaction in flight
on a busy line stands, and one of READ or STATUS is told to no zone and not to the plant controller. The model's choices: an
owed HALT is kept (DEDUCED, log 39), the HALT sent mark stands (DEDUCED, log 37), a retry whose transaction went with the
queue has ended, and one in flight goes on (DEDUCED, log 36), that a STATUS has been asked is forgotten with the state that
it was asked in (DEDUCED, log 35), and the intake target is 0 also where the definition names no intake node (log 47). -/
def Obligations.ShutdownStopsThePart : Prop :=
  ∀ (s : State) (tag : Byte), s.portFree → (s.op.state = .commissioning ∨ s.op.state = .run) →
    ∃ t, exec (.shutdown tag) s = .next t ∧ t.repliesOk 0x91#8 tag [] ∧
      t.op = { s.op with
        state := t.op.state, entered := s.now, done := Vector.replicate 31 false, work := Vector.replicate 31 .idle } ∧
      (t.op.state = if t.plant.seq.state.atRest = true ∧ t.plant.heater.state.atRest = true then .stopped
        else .stopping) ∧
      t.arb = { s.arb with
        heat := ⟨min 64 (s.plant.coolant * s.plant.defn.coolantUnits), [], []⟩, cool := ⟨0, [], []⟩ } ∧
      (∀ z, t.zone z = { s.zone z with
        tempSetpoint := none, stack := (s.zone z).stack.filter (fun e => e.kind = .base), openDoors := 0#4
        curtainSpent := false, temperature := none, co2 := none, sensorStatus := .ok, missed := 0, direction := .none
        want := 0, claimRank := (s.zone z).rank, loopTimer := none, holdTimer := none, defogTimer := none
        curtainTimer := none }) ∧
      t.zones.tuning = s.zones.tuning ∧ t.zones.doorMap = s.zones.doorMap ∧
      (∀ n, t.node n = { s.node n with
        pending := none, revivalTimer := none, retryStep := (t.node n).retryStep, state := (t.node n).state
        wakeTimer := (t.node n).wakeTimer }) ∧
      (∀ n, ((t.node n).state, (t.node n).wakeTimer) =
        if (s.node n).state = .starting ∧ (s.node n).binding ≠ some (.plant .compressor) ∧
          (s.node n).binding ≠ some (.plant .auxHeater) then (.unknown, none)
        else ((s.node n).state, (s.node n).wakeTimer)) ∧
      (s.line.phase = .idle → t.nodes.queue = [] ∧ t.line =
        { phase := .lead, txn := some ⟨none, .move, 0, true, .shutdown, [.shutdown], 1, none⟩
          timer := some (s.now + Config.charTime), replyStart := none, chars := [], cut := false }) ∧
      (s.line.phase ≠ .idle → t.nodes.queue = [⟨none, .move, 0, true, .shutdown, []⟩] ∧
        t.line = { s.line with txn := s.line.txn.map (fun x =>
          if x.cmd = .read ∨ x.cmd = .status then
            { x with origins := x.origins.filter (fun o => decide (o = .retry)) }
          else x) }) ∧
      (∀ n, ((∃ x, s.line.phase ≠ .idle ∧ s.line.timer ≠ none ∧ s.line.txn = some x ∧ x.node = some n ∧
          Origin.retry ∈ x.origins) → (t.node n).retryStep = (s.node n).retryStep) ∧
        ((∀ x, s.line.phase ≠ .idle → s.line.timer ≠ none → s.line.txn = some x → x.node = some n →
          Origin.retry ∉ x.origins) → (t.node n).retryStep = none)) ∧
      t.nodes.tuning = s.nodes.tuning ∧ t.nodes.pollTick = s.nodes.pollTick ∧
      t.plant = { s.plant with
        seq := t.plant.seq, heater := t.plant.heater, viewHeat := ⟨false, 0⟩, viewCool := ⟨false, 0⟩
        purgeCount := 0, intakeTarget := some 0 } ∧
      t.plant.seq =
        { s.plant.seq with
          state := t.plant.seq.state, minRunTimer := none, minRunExpired := false, holdTimer := none
          holdMet := false, lockoutTimer := t.plant.seq.lockoutTimer, pollTimer := none
          checkAsked := t.plant.seq.checkAsked } ∧
      (s.plant.seq.state ∈ [Seq.off, .lockout, .fault] →
        t.plant.seq.state = s.plant.seq.state ∧ t.plant.seq.lockoutTimer = s.plant.seq.lockoutTimer ∧
        t.plant.seq.checkAsked = s.plant.seq.checkAsked) ∧
      (s.plant.seq.state ∉ [Seq.off, .lockout, .fault] →
        t.plant.seq.state = .disengaging ∧ t.plant.seq.lockoutTimer = none ∧ t.plant.seq.checkAsked = false) ∧
      (s.plant.heater.state ∈ [HeaterState.igniting, .running] →
        t.plant.heater = s.plant.heater.still .stopping ∧
        t.cond = { s.cond with auxLockout := false, stopped := decide (t.op.state = .stopped) }) ∧
      (s.plant.heater.state ∉ [HeaterState.igniting, .running] →
        t.plant.heater = s.plant.heater ∧ t.cond = { s.cond with stopped := decide (t.op.state = .stopped) }) ∧
      t.now = s.now ∧ t.held = s.held ∧ t.shedLine = s.shedLine ∧ t.key = s.key ∧ t.port = answeredPort s t ∧
      t.pending = s.pending

/-! ## Zone requests -/

/-- R172 to R174, R5, R8, R9, R39, R43: the zone requests in the order of their checks: the source, protection, the
zone's number, that it is active, and the request's own fields. A request turned away changes nothing but the tag. A zone
is protected against a source where a range stands, the zone's number lies in it, bounds included, and the level covers the
source: PANEL_ONLY the panel, PANEL_AND_DRIVER the panel and the driver, and none the service. -/
def Obligations.ZoneRequestRefusals : Prop :=
  (∀ (p : Protection) (zone : Nat) (src : Source), p.bars zone src = true ↔
    (∃ first last, p.range = some (first, last) ∧ first ≤ zone ∧ zone ≤ last) ∧
    ((p.level = .panelOnly ∧ src = .panel) ∨ (p.level = .panelAndDriver ∧ (src = .panel ∨ src = .driver)))) ∧
  ∀ (s : State) (tag zone source mode d : Byte) (v : Word), s.portFree → s.op.state = .run →
    (∀ p ∈ [(Instr.plan tag zone source mode v, 0xA0#8), (.setpoint tag zone source v, 0xA1#8),
        (.defog tag zone source d, 0xA7#8), (.purgeStart tag zone source, 0xA8#8),
        (.purgeEnd tag zone source, 0xA8#8)],
      (¬ byteIn 1 3 source →
        ∃ t, exec p.1 s = .next t ∧ t.repliesBadArgument p.2 tag ∧ OnlyAnswered s t) ∧
      (∀ src : Source, source = src.code →
        (s.port.protection.bars zone.toNat src = true →
          ∃ t, exec p.1 s = .next t ∧ t.repliesRefused p.2 tag [2#8] ∧ OnlyAnswered s t) ∧
        (s.port.protection.bars zone.toNat src = false → ¬ byteIn 1 24 zone →
          ∃ t, exec p.1 s = .next t ∧ t.repliesBadArgument p.2 tag ∧ OnlyAnswered s t) ∧
        (∀ z : Zone, zone.toNat = z.number → s.port.protection.bars zone.toNat src = false →
          (s.zone z).active = false →
          ∃ t, exec p.1 s = .next t ∧ t.repliesRefused p.2 tag [5#8] ∧ OnlyAnswered s t))) ∧
    (∀ (src : Source) (z : Zone), source = src.code → zone.toNat = z.number → s.zoneOpen z src →
      (¬ s.setpointTaken z src v →
        ∃ t, exec (.setpoint tag zone source v) s = .next t ∧ t.repliesBadArgument 0xA1#8 tag ∧ OnlyAnswered s t) ∧
      ((¬ byteIn 0 4 mode ∨ ¬ s.setpointTaken z src v) →
        ∃ t, exec (.plan tag zone source mode v) s = .next t ∧ t.repliesBadArgument 0xA0#8 tag ∧ OnlyAnswered s t) ∧
      (¬ byteIn 0 30 d →
        ∃ t, exec (.defog tag zone source d) s = .next t ∧ t.repliesBadArgument 0xA7#8 tag ∧ OnlyAnswered s t))

/-- R7 to R9, R11, R20 to R23: a SETPOINT from PANEL sets the temporary setpoint and starts the hold timer; one from
DRIVER or SERVICE sets the plan setpoint and removes the temporary one; a PLAN does the same and sets the base mode. The
zone is evaluated, with the MOVEs and notices that the evaluation brings, exactly when S changes, or the base mode changes
while CURTAIN is not the effective mode (log 28). -/
def Obligations.SetpointAndPlan : Prop :=
  (∀ (s : State) (tag zone source : Byte) (v : Word) (src : Source) (z : Zone), source = src.code →
      zone.toNat = z.number → s.zoneOpen z src → s.setpointTaken z src v →
      ∃ t u, exec (.setpoint tag zone source v) s = .next t ∧ t.repliesOk 0xA1#8 tag [] ∧ Replied s u t ∧
        Rewritten s.untagged z
          (if src = .panel then
            { s.zone z with
              tempSetpoint := some v.toInt
              holdTimer := some (s.now + s.zones.tuning.holdTime * Config.minute) }
          else { s.zone z with planSetpoint := v.toInt, tempSetpoint := none, holdTimer := none })
          ((s.zone z).setpoint ≠ v.toInt) u) ∧
  (∀ (s : State) (tag zone source mode : Byte) (v : Word) (src : Source) (z : Zone) (m : BaseMode),
      source = src.code → zone.toNat = z.number → s.zoneOpen z src → mode.toNat = m.code → s.setpointTaken z src v →
      ∃ t u, exec (.plan tag zone source mode v) s = .next t ∧ t.repliesOk 0xA0#8 tag [] ∧ Replied s u t ∧
        Rewritten s.untagged z
          (if src = .panel then
            { s.zone z with
              baseMode := m, tempSetpoint := some v.toInt
              holdTimer := some (s.now + s.zones.tuning.holdTime * Config.minute) }
          else { s.zone z with baseMode := m, planSetpoint := v.toInt, tempSetpoint := none, holdTimer := none })
          ((s.zone z).setpoint ≠ v.toInt ∨ ((s.zone z).baseMode ≠ m ∧ (s.zone z).effMode ≠ .curtain)) u)

/-- R43, R39, R29, R107: a DEFOG of 1 to 30 minutes pushes a DEFOG entry and starts its timer, or restarts the timer of
the entry that stands; one of 0 minutes ends the entry. PURGE START pushes a PURGE entry with cause HOST unless one
stands; PURGE END removes the entry. Where the effective mode becomes PURGE or stops being PURGE the intake is told, and
where it changes the zone is evaluated (in that order: log 12). -/
def Obligations.OverridesByRequest : Prop :=
  ∀ (s : State) (tag zone source : Byte) (src : Source) (z : Zone), source = src.code → zone.toNat = z.number →
    s.zoneOpen z src →
    (∀ d, byteIn 0 30 d →
      ∃ t u, exec (.defog tag zone source d) s = .next t ∧ t.repliesOk 0xA7#8 tag [] ∧ Replied s u t ∧
        (d = 0#8 → (s.zone z).hasEntry .defog = false → u = s.untagged) ∧
        (d = 0#8 → (s.zone z).hasEntry .defog = true → ModeChanged s.untagged z
          { s.zone z with
            stack := (s.zone z).stack.filter (fun e => e.kind ≠ .defog), defogTimer := none } u) ∧
        (d ≠ 0#8 → (s.zone z).hasEntry .defog = true →
          u = s.untagged.setZone z { s.zone z with defogTimer := some (s.now + d.toNat * Config.minute) }) ∧
        (d ≠ 0#8 → (s.zone z).hasEntry .defog = false → ModeChanged s.untagged z
          { s.zone z with
            stack := ⟨.defog, none, s.now⟩ :: (s.zone z).stack
            defogTimer := some (s.now + d.toNat * Config.minute) } u)) ∧
    (∃ t u, exec (.purgeStart tag zone source) s = .next t ∧ t.repliesOk 0xA8#8 tag [] ∧ Replied s u t ∧
      ((s.zone z).hasEntry .purge = true → u = s.untagged) ∧
      ((s.zone z).hasEntry .purge = false → ModeChanged s.untagged z
        { s.zone z with stack := ⟨.purge, some .host, s.now⟩ :: (s.zone z).stack } u)) ∧
    (∃ t u, exec (.purgeEnd tag zone source) s = .next t ∧ t.repliesOk 0xA8#8 tag [] ∧ Replied s u t ∧
      ((s.zone z).hasEntry .purge = false → u = s.untagged) ∧
      ((s.zone z).hasEntry .purge = true → ModeChanged s.untagged z
        { s.zone z with stack := (s.zone z).stack.filter (fun e => e.kind ≠ .purge) } u))

/-! ## The range sequence and protection -/

/-- R176: RANGE_OPEN opens a tag, RANGE_CLOSE closes the tag that it finds; a zone number out of range gives
BAD_ARGUMENT, which leaves no tag after RANGE_OPEN and keeps it after RANGE_CLOSE; with no tag RANGE_CLOSE is out of
sequence. RANGE_CLEARED tells that a tag went unused. -/
def Obligations.RangeTagOpensAndCloses : Prop :=
  ∀ (s : State) (tag b : Byte), s.portFree → s.op.state = .run →
    (∃ t, exec (.rangeOpen tag b) s = .next t ∧
      t = { s with
        port := { s.port with
          tag := (if byteIn 1 24 b then .opened b.toNat else .none), sending := t.port.sending } } ∧
      (byteIn 1 24 b → t.repliesOk 0xA2#8 tag []) ∧ (¬ byteIn 1 24 b → t.repliesBadArgument 0xA2#8 tag) ∧
      (t.replyFlag 1 = true ↔ s.port.tag ≠ .none)) ∧
    (∃ t, exec (.rangeClose tag b) s = .next t ∧ t.replyFlag 1 = false ∧
      t = { s with port := { s.port with tag := t.port.tag, sending := t.port.sending } } ∧
      (s.port.tag = .none → t.repliesSequenceError 0xA3#8 tag ∧ t.port.tag = .none) ∧
      (∀ f, (s.port.tag = .opened f ∨ ∃ l, s.port.tag = .closed f l) →
        (byteIn f 24 b → t.repliesOk 0xA3#8 tag [] ∧ t.port.tag = .closed f b.toNat) ∧
        (¬ byteIn f 24 b → t.repliesBadArgument 0xA3#8 tag ∧ t.port.tag = s.port.tag)))

/-- R177, R11: RANGE_APPLY with a PLAN action works through the tag's zones, one after another: where the zone is active,
not protected and takes the value, its base mode or setpoint is set and it is evaluated as a PLAN or SETPOINT would, with
the MOVEs and notices of that evaluation; every other zone is skipped and keeps its record. The tag's zones are those from
its first to its last, in ascending number. From PANEL a zone takes a value within the panel band of its plan setpoint, as
its temporary setpoint with the hold timer started; from DRIVER and SERVICE it takes each value as its plan setpoint, and
the temporary one is removed with its timer. -/
def Obligations.RangeApplyPlans : Prop :=
  (∀ first last : Nat, (tagZones first last).Pairwise (· < ·) ∧
    ∀ z, z ∈ tagZones first last ↔ first ≤ z.number ∧ z.number ≤ last) ∧
  ∀ (s : State) (tag source : Byte) (src : Source) (first last : Nat), s.portFree → s.op.state = .run →
    source = src.code → s.port.tag = .closed first last →
    (∀ (v : Option Int) (z : Zone), s.planApplies src v z = true ↔
      (s.zone z).active = true ∧ s.port.protection.bars z.number src = false ∧
      ∀ x, v = some x → src = .panel →
        (s.zone z).planSetpoint - s.zones.tuning.panelBand ≤ x ∧
        x ≤ (s.zone z).planSetpoint + s.zones.tuning.panelBand) ∧
    (∀ (v : Int) (r : ZoneRec), s.setpointChange src v r =
      if src = .panel then
        { r with tempSetpoint := some v, holdTimer := some (s.now + s.zones.tuning.holdTime * Config.minute) }
      else { r with planSetpoint := v, tempSetpoint := none, holdTimer := none }) ∧
    (∀ (w : Word) (m : BaseMode), w.toNat = m.code →
      ∃ t u, exec (.rangeApplyPlanMode tag source w) s = .next t ∧
        t.repliesOk 0xA4#8 tag (countBytes (tagZones first last) (fun z => s.planApplies src none z)) ∧
        t.replyFlag 1 = false ∧ Replied s u t ∧
        takenInTurn (fun a z b =>
            (s.planApplies src none z = false → b = a) ∧
            (s.planApplies src none z = true → Rewritten a z { a.zone z with baseMode := m }
              ((a.zone z).baseMode ≠ m ∧ (a.zone z).effMode ≠ .curtain) b))
          (tagZones first last) s.untagged u ∧
        (∀ z, t.zone z =
          if z ∈ tagZones first last ∧ s.planApplies src none z = true then
            { s.zone z with
              baseMode := m, direction := (t.zone z).direction, want := (t.zone z).want
              claimRank := (t.zone z).claimRank }
          else s.zone z)) ∧
    (∀ v : Word, setpointIn v →
      ∃ t u, exec (.rangeApplyPlanSetpoint tag source v) s = .next t ∧
        t.repliesOk 0xA4#8 tag (countBytes (tagZones first last) (fun z => s.planApplies src (some v.toInt) z)) ∧
        t.replyFlag 1 = false ∧ Replied s u t ∧
        takenInTurn (fun a z b =>
            (s.planApplies src (some v.toInt) z = false → b = a) ∧
            (s.planApplies src (some v.toInt) z = true →
              Rewritten a z (s.setpointChange src v.toInt (a.zone z)) ((a.zone z).setpoint ≠ v.toInt) b))
          (tagZones first last) s.untagged u ∧
        (∀ z, t.zone z =
          if z ∈ tagZones first last ∧ s.planApplies src (some v.toInt) z = true then
            { s.setpointChange src v.toInt (s.zone z) with
              direction := (t.zone z).direction, want := (t.zone z).want, claimRank := (t.zone z).claimRank }
          else s.zone z))

/-- R177, R178: a RANGE_APPLY is out of sequence unless the tag is CLOSED; then the source and the argument are checked,
and PROTECT and UNPROTECT are refused to the panel. A request turned away changes nothing but the tag, which it clears
unused. The model's choice (log 5): the rows that read KEY set the KEY line from their operand. -/
def Obligations.RangeApplyRefusals : Prop :=
  ∀ (s : State) (tag source : Byte) (w : Word) (k : KeyPos), s.portFree → s.op.state = .run →
    ∀ p ∈ [(Instr.rangeApplyPlanMode tag source w, s), (.rangeApplyPlanSetpoint tag source w, s),
        (.rangeApplyProtect tag source w k, { s with key := k }),
        (.rangeApplyUnprotect tag source w k, { s with key := k })],
      ((∀ f l, s.port.tag ≠ .closed f l) →
        ∃ t, exec p.1 s = .next t ∧ t.repliesSequenceError 0xA4#8 tag ∧ OnlyAnswered p.2 t ∧
          (t.replyFlag 1 = true ↔ s.port.tag ≠ .none)) ∧
      (∀ f l, s.port.tag = .closed f l →
        (¬ byteIn 1 3 source ∨
          (p.1 = .rangeApplyPlanMode tag source w ∧ ¬ wordIn 0 4 w) ∨
          (p.1 = .rangeApplyPlanSetpoint tag source w ∧ ¬ setpointIn w) ∨
          (p.1 = .rangeApplyProtect tag source w k ∧ ¬ wordIn 1 2 w)) →
        ∃ t, exec p.1 s = .next t ∧ t.repliesBadArgument 0xA4#8 tag ∧ OnlyAnswered p.2 t ∧
          t.replyFlag 1 = true) ∧
      (∀ f l, s.port.tag = .closed f l → source = Source.panel.code →
        ((p.1 = .rangeApplyProtect tag source w k ∧ wordIn 1 2 w) ∨ p.1 = .rangeApplyUnprotect tag source w k) →
        ∃ t, exec p.1 s = .next t ∧ t.repliesRefused 0xA4#8 tag [2#8] ∧ OnlyAnswered p.2 t ∧
          t.replyFlag 1 = true)

/-- R178, R175: PROTECT and UNPROTECT from DRIVER or SERVICE leave the new protection record, unless the lock is set, KEY
is in LOCK and the record would change: then they are refused with LOCKED. UNPROTECT that would split the range gives
BAD_ARGUMENT. PROTECT_LOCK, in every part state, sets the lock flag; with the flag set and KEY in LOCK it is refused with
LOCKED. The model's choice (log 5): these rows set the KEY line from their operand. -/
def Obligations.ProtectionAndItsLock : Prop :=
  (∀ (s : State) (tag source : Byte) (k : KeyPos) (first last : Nat), s.portFree → s.op.state = .run →
      (source = Source.driver.code ∨ source = Source.service.code) → s.port.tag = .closed first last →
      (∀ (w : Word) (l : ProtectLevel), w.toNat = l.code →
        ∃ t, exec (.rangeApplyProtect tag source w k) s = .next t ∧
          protectionWritten { s with key := k } t tag
            { s.port.protection with range := some (first, last), level := l }
            [byteOf (tagZones first last).length, 0#8]) ∧
      (∀ w : Word,
        (∀ a b, s.port.protection.range = some (a, b) → a < first → first ≤ b → a ≤ last → last < b →
          ∃ t, exec (.rangeApplyUnprotect tag source w k) s = .next t ∧ t.repliesBadArgument 0xA4#8 tag ∧
            OnlyAnswered { s with key := k } t) ∧
        ((∀ a b, s.port.protection.range = some (a, b) → ¬ (a < first ∧ first ≤ b ∧ a ≤ last ∧ last < b)) →
          ∃ t, exec (.rangeApplyUnprotect tag source w k) s = .next t ∧
            protectionWritten { s with key := k } t tag
              { s.port.protection with
                range :=
                  match s.port.protection.range with
                  | none => none
                  | some (a, b) =>
                    if last < a ∨ b < first then some (a, b)
                    else if first ≤ a ∧ b ≤ last then none
                    else if first ≤ a then some (last + 1, b)
                    else some (a, first - 1) }
              (countBytes (tagZones first last) (fun z => s.port.protection.inRange z.number))))) ∧
  (∀ (s : State) (tag : Byte) (k : KeyPos), s.portFree →
      ((s.port.protection.locked = false ∨ k = .opened) →
        ∃ t, exec (.protectLock tag k) s = .next t ∧ t.repliesOk 0xAC#8 tag [] ∧
          t = { s with
            key := k
            port := { answeredPort s t with protection := { s.port.protection with locked := true } } }) ∧
      (s.port.protection.locked = true → k = .lock →
        ∃ t, exec (.protectLock tag k) s = .next t ∧ t.repliesRefused 0xAC#8 tag [3#8] ∧
          OnlyAnswered { s with key := k } t))

/-! ## Doors -/

/-- R33 to R36, R29: the zones of the door's map are taken in ascending number. At DOOR OPEN the door joins each zone's
open-door set, and where the set was empty a CURTAIN entry is pushed and its timer starts; direction, want and the pools
stay as they are. At DOOR CLOSE the door leaves the set, and where that empties it the CURTAIN entry ends, with the notice
and the evaluation of a change of mode, and then the marker is cleared and the loop timer restarts for 2 s; the closing is
told turn by turn where the map's zones are active. A door number out of range gives BAD_ARGUMENT. The model's choice
(log 12): the intake is told of a change of mode before the zone is evaluated. -/
def Obligations.DoorsOpenAndClose : Prop :=
  ∀ (s : State) (tag door : Byte), s.portFree → s.op.state = .run →
    (¬ byteIn 1 4 door → ∀ c ∈ [Instr.doorOpen tag door, .doorClose tag door],
      ∃ t, exec c s = .next t ∧ t.repliesBadArgument 0xA5#8 tag ∧ OnlyAnswered s t) ∧
    (∀ d : Door, door.toNat = d.number →
      (∃ t u, exec (.doorOpen tag door) s = .next t ∧ t.repliesOk 0xA5#8 tag [] ∧ Replied s u t ∧
        takenInTurn (doorOpenedIn d) (allZones.filter (fun z => s.zones.doorMap[d].getLsbD z.val)) s.untagged u ∧
        (∀ z, t.zone z =
          if s.zones.doorMap[d].getLsbD z.val = true ∧ (s.zone z).openDoors.getLsbD d.val = false then
            if s.curtainStarts z then
              { s.zone z with
                openDoors := BitVec.twoPow 4 d.val
                stack := ⟨.curtain, none, s.now⟩ :: (s.zone z).stack
                curtainTimer := some (s.now + s.zones.tuning.curtainLimit * Config.second) }
            else { s.zone z with openDoors := (s.zone z).openDoors ||| BitVec.twoPow 4 d.val }
          else s.zone z) ∧
        (∀ k, k = (allZones.filter (fun z => s.zones.doorMap[d].getLsbD z.val && s.curtainStarts z &&
            decide ((s.zone z).effMode = .purge))).length →
          t.plant = { s.plant with
            purgeCount := s.plant.purgeCount - k
            intakeTarget := if k = 0 then s.plant.intakeTarget
              else some (if 1 ≤ s.plant.purgeCount - k then 100 else s.plant.minFreshAir) }) ∧
        NodeSide { s with zones := { s.zones with table := t.zones.table }, plant := t.plant, port := t.port } t) ∧
      (∃ t u, exec (.doorClose tag door) s = .next t ∧ t.repliesOk 0xA5#8 tag [] ∧ Replied s u t ∧
        ((∀ z : Zone, s.zones.doorMap[d].getLsbD z.val = true → (s.zone z).active = true) →
          takenInTurn (doorClosedIn d) (allZones.filter (fun z => s.zones.doorMap[d].getLsbD z.val)) s.untagged u) ∧
        DemandSide { s with zones := { s.zones with table := t.zones.table }, port := t.port } t ∧
        (∀ z, t.zone z =
          if s.zones.doorMap[d].getLsbD z.val = true ∧ (s.zone z).openDoors.getLsbD d.val = true then
            { closedDoor s d z with
              direction := (t.zone z).direction, want := (t.zone z).want, claimRank := (t.zone z).claimRank }
          else s.zone z)))

/-! ## The plant's requests and the shed line -/

/-- R72 to R74, R76, R77, R82, R93: an ENGINE request, in every part state, writes the engine band and the coolant level; a
change of A writes COOL capacity afresh and a change of level HEAT capacity; a request that repeats both changes nothing
more. A band or level out of range gives BAD_ARGUMENT. A change of the SHED_N line sets the view and SHED_ACTIVE; while it
is asserted A is 0, and a running compressor whose node is READY sheds a stage. A is the maximum of the present band, and 0
while SHED_N is asserted, in band STOPPED, with the sequencer in FAULT, outside RUN, and with no compressor node. COOL
capacity is the sum of the units of the first min(c, A) stages, where c is k in RUNNING(k) and STEP_UP(k), k − 1 in
STEP_DOWN(k), and 0 in every other state; HEAT capacity is min(64, L × U + X). -/
def Obligations.EngineAndShedLine : Prop :=
  (∀ (s : State) (p : Plant) (d : PlantDef), p = s.plant → d = p.defn →
    ((p.shedView = true ∨ p.band = .stopped ∨ p.seq.state = .fault ∨ s.op.state ≠ .run ∨ d.compressor = none) →
      s.allowedStages = 0) ∧
    (p.shedView = false → p.seq.state ≠ .fault → s.op.state = .run → d.compressor ≠ none →
      (p.band = .idle → s.allowedStages = d.idleMax) ∧ (p.band = .cruise → s.allowedStages = d.cruiseMax) ∧
      (p.band = .pull → s.allowedStages = d.pullMax)) ∧
    (∀ k, (p.seq.state = .running k ∨ p.seq.state = .stepUp k ∨ p.seq.state = .stepDown (k + 1)) →
      s.coolCapacity = ([d.u1, d.u2, d.u3, d.u4].take (min k s.allowedStages)).sum) ∧
    (p.seq.state ∈ [Seq.off, .engaging, .disengaging, .lockout, .fault] → s.coolCapacity = 0) ∧
    s.heatCapacity = min 64 (p.coolant * d.coolantUnits + (if p.heater.state = .running then d.auxUnits else 0))) ∧
  (∀ (s : State) (tag band level : Byte), s.portFree →
    ((¬ byteIn 0 3 band ∨ ¬ byteIn 0 3 level) →
      ∃ t, exec (.engine tag band level) s = .next t ∧ t.repliesBadArgument 0xA6#8 tag ∧ OnlyAnswered s t) ∧
    (byteIn 0 3 band → byteIn 0 3 level →
      ∃ t, exec (.engine tag band level) s = .next t ∧ t.repliesOk 0xA6#8 tag [] ∧ t.port = answeredPort s t ∧
        t.plant.band.code = band.toNat ∧ t.plant.coolant = level.toNat ∧
        ShareSide { s with
          plant := { s.plant with band := t.plant.band, coolant := t.plant.coolant }, port := t.port } t ∧
        (t.allowedStages ≠ s.allowedStages → t.arb.cool.capacity = t.coolCapacity) ∧
        (t.allowedStages = s.allowedStages → t.arb.cool.capacity = s.arb.cool.capacity) ∧
        (t.plant.coolant ≠ s.plant.coolant → t.arb.heat.capacity = t.heatCapacity) ∧
        (t.plant.coolant = s.plant.coolant → t.arb.heat.capacity = s.arb.heat.capacity) ∧
        (t.allowedStages = s.allowedStages → t.plant.coolant = s.plant.coolant →
          t = { s with plant := { s.plant with band := t.plant.band }, port := t.port }))) ∧
  (∀ (s : State) (b : Bool), s.held = false →
    ∃ t, exec (if b then .shedNAsserted else .shedNReleased) s = .next t ∧
      ShareSide { s with
        shedLine := b, plant := { s.plant with shedView := b }, cond := { s.cond with shedActive := b } } t ∧
      (b = true → t.allowedStages = 0) ∧
      (t.allowedStages ≠ s.allowedStages → t.arb.cool.capacity = t.coolCapacity) ∧
      (t.allowedStages = s.allowedStages →
        t = { s with
          shedLine := b, plant := { s.plant with shedView := b }, cond := { s.cond with shedActive := b } }) ∧
      (b = true → s.allowedStages ≠ 0 → s.compressorReady = true → ∀ k, 1 ≤ k → s.plant.seq.state = .running k →
        t.plant.seq.state = if 2 ≤ k then .stepDown k else .disengaging))

/-- R95, R96, R102, R103: AUX GRANT gives the permit and starts an OFF heater where R96 allows it; AUX WITHDRAW takes it
and stops the heater in RUNNING, with a MOVE 0 and the aux units out of HEAT capacity, and in IGNITING sets the stop
mark. -/
def Obligations.AuxPermit : Prop :=
  ∀ (s : State) (tag : Byte), s.portFree → s.op.state = .run →
    (∃ t, exec (.auxGrant tag) s = .next t ∧ t.repliesOk 0xA9#8 tag [] ∧ t.port = answeredPort s t ∧
      (s.plant.heater.state = .off → s.heatWaits →
        offOrStarted (s.setPort t.port) { s.plant.heater with permit := true } t) ∧
      (¬ (s.plant.heater.state = .off ∧ s.heatWaits) →
        t = { s with
          plant := { s.plant with heater := { s.plant.heater with permit := true } }, port := t.port })) ∧
    (∃ t, exec (.auxWithdraw tag) s = .next t ∧ t.repliesOk 0xA9#8 tag [] ∧ t.port = answeredPort s t ∧
      (s.plant.heater.state = .running →
        heaterStopped (s.setPort t.port) { s.plant.heater with permit := false } t) ∧
      (s.plant.heater.state = .igniting →
        NodeSide { s with
          plant := { s.plant with heater := { s.plant.heater with permit := false, stopMark := true } }
          port := t.port } t ∧
        ∀ n, s.plant.defn.auxHeater = some n → (s.node n).state = .ready → s.takesIn n .move → t.askedMove n 0) ∧
      (s.plant.heater.state ≠ .running → s.plant.heater.state ≠ .igniting →
        t = { s with
          plant := { s.plant with heater := { s.plant.heater with permit := false } }, port := t.port }))

/-- R101: AUX_CLEAR ends a lockout: OFF, failure count 0, AUX_LOCKOUT no longer pending, and R96 at once; in any other
heater state it changes nothing; in every case it is answered OK with no payload; outside RUN it is refused with
WRONG_STATE. No sticky condition changes. -/
def Obligations.AuxClearEndsTheLockout : Prop :=
  ∀ (s : State) (tag : Byte), s.portFree →
    (s.op.state = .run →
      ∃ t, exec (.auxClear tag) s = .next t ∧ t.repliesOk 0xAA#8 tag [] ∧ t.port = answeredPort s t ∧
        (s.plant.heater.state = .lockedOut →
          offOrStarted (s.setPort t.port) { s.plant.heater with failures := 0 } t) ∧
        (s.plant.heater.state ≠ .lockedOut → t = s.setPort t.port) ∧
        (∀ c, t.cond.sticky c = s.cond.sticky c)) ∧
    (s.op.state ≠ .run →
      ∃ t, exec (.auxClear tag) s = .next t ∧ t.repliesRefused 0xAA#8 tag [1#8, byteOf s.op.state.code] ∧
        OnlyAnswered s t)

/-! ## NODE_RETRY and the condition block -/

/-- R147, R138: NODE_RETRY of a node in FAULT asks the STATUS of a CHECK or the NODE_RESET of a RESET, or leaves it owed
when the queue refuses it; one under way absorbs it. In any other state of the node it is refused with the state. -/
def Obligations.NodeRetryInFault : Prop :=
  ∀ (s : State) (tag address : Byte), s.portFree → s.op.state = .run →
    ∀ p ∈ [(Instr.nodeRetryCheck tag address, Command.status, RetryAction.check, RetryStep.status),
        (.nodeRetryReset tag address, .nodeReset, .reset, .reset)],
      (¬ byteIn 1 31 address →
        ∃ t, exec p.1 s = .next t ∧ t.repliesBadArgument 0xAB#8 tag ∧ OnlyAnswered s t) ∧
      (∀ n : NodeId, address.toNat = n.address →
        ((s.node n).state ≠ .fault →
          ∃ t, exec p.1 s = .next t ∧ t.repliesRefused 0xAB#8 tag [6#8, byteOf (s.node n).state.code] ∧
            OnlyAnswered s t) ∧
        ((s.node n).state = .fault → (s.node n).retryStep ≠ none →
          ∃ t, exec p.1 s = .next t ∧ t.repliesOk 0xAB#8 tag [] ∧ OnlyAnswered s t) ∧
        ((s.node n).state = .fault → (s.node n).retryStep = none →
          ∃ t, exec p.1 s = .next t ∧ t.repliesOk 0xAB#8 tag [] ∧ t.port = answeredPort s t ∧
            NodeSide (s.setPort t.port) t ∧ (∀ m, m ≠ n → t.node m = s.node m) ∧
            (s.takesIn n p.2.1 → t.asked n p.2.1 ∧
              t.node n = { s.node n with retryOwed := none, retryStep := some p.2.2.2 }) ∧
            (¬ s.takesIn n p.2.1 →
              t.node n = { s.node n with retryOwed := some p.2.2.1, retryStep := none })))

/-- R181, R182, R19, R179: COND_CLEAR clears each named sticky condition and the zone flags that go with it, no level
condition, and answers with the pending set that is left; COND_MASK replaces the mask and the enable and nothing else,
and its reply's ATTENTION shows the line as they drive it. A set that marks a place outside the twelve, or an enable other
than 0 and 1, gives BAD_ARGUMENT. -/
def Obligations.ConditionRequests : Prop :=
  ∀ (s : State) (tag : Byte) (set : Word), s.portFree →
    (∀ e : Byte, ¬ (set.toNat < 4096 ∧ byteIn 0 1 e) →
      ∃ t, exec (.condMask tag set e) s = .next t ∧ t.repliesBadArgument 0xC7#8 tag ∧ OnlyAnswered s t) ∧
    (∀ e : Byte, set.toNat < 4096 → byteIn 0 1 e →
      ∃ t, exec (.condMask tag set e) s = .next t ∧ t.repliesOk 0xC7#8 tag [] ∧
        t.replyFlag 7 = t.attnDriven ∧
        t = { s with
          cond := { s.cond with mask := set.truncate 12, enable := decide (e = 1#8) }
          port := answeredPort s t }) ∧
    (4096 ≤ set.toNat →
      ∃ t, exec (.condClear tag set) s = .next t ∧ t.repliesBadArgument 0xC6#8 tag ∧ OnlyAnswered s t) ∧
    (set.toNat < 4096 →
      ∃ t, exec (.condClear tag set) s = .next t ∧ t.repliesOk 0xC6#8 tag (condSetBytes t.cond.pendingSet) ∧
        (∀ p ∈ [(0, StickyCond.compFault), (1, .nodeOffline), (2, .nodeFault), (4, .sensorLost),
            (6, .zoneSaturated), (7, .curtainExpired), (8, .purgeAuto), (9, .linkOverrun), (10, .commissionDone)],
          t.cond.sticky p.2 = if set.getLsbD p.1 then ⟨false, 0, none⟩ else s.cond.sticky p.2) ∧
        t.cond.auxLockout = s.cond.auxLockout ∧ t.cond.shedActive = s.cond.shedActive ∧
        t.cond.stopped = s.cond.stopped ∧ t.cond.mask = s.cond.mask ∧ t.cond.enable = s.cond.enable ∧
        (∀ z, t.zone z = { s.zone z with
          flags :=
            { saturated := (s.zone z).flags.saturated && !set.getLsbD 6
              sensorLost := (s.zone z).flags.sensorLost && !set.getLsbD 4
              actuatorFault := (s.zone z).flags.actuatorFault &&
                !((set.getLsbD 1 || set.getLsbD 2) && s.actuatorsSound z)
              curtainExpired := (s.zone z).flags.curtainExpired && !set.getLsbD 7 } }) ∧
        t = { s with
          zones := { s.zones with table := t.zones.table }, cond := t.cond, port := answeredPort s t })

/-- R183: ATTN_N is driven exactly while the part is not held, the enable is on and a pending condition is in the mask; a
reset releases it, the raise of a condition that pends already leaves it, and a reply's ATTENTION flag has its value.
Bit p − 1 of the pending set stands for the condition of priority p. -/
def Obligations.AttentionLine : Prop :=
  ∀ s : State,
    (s.attnDriven = true ↔ s.held = false ∧ s.cond.enable = true ∧
      ∃ i, i < 12 ∧ s.cond.pendingSet.getLsbD i = true ∧ s.cond.mask.getLsbD i = true) ∧
    (∀ p ∈ [(0, s.cond.compFault.pending), (1, s.cond.nodeOffline.pending), (2, s.cond.nodeFault.pending),
        (3, s.cond.auxLockout), (4, s.cond.sensorLost.pending), (5, s.cond.shedActive),
        (6, s.cond.zoneSaturated.pending), (7, s.cond.curtainExpired.pending), (8, s.cond.purgeAuto.pending),
        (9, s.cond.linkOverrun.pending), (10, s.cond.commissionDone.pending), (11, s.cond.stopped)],
      s.cond.pendingSet.getLsbD p.1 = p.2) ∧
    (∀ (k : HardCause) t, exec (.hardReset k) s = .next t → t.attnDriven = false) ∧
    (∀ c : ResetCause, (s.afterReset c).attnDriven = false) ∧
    (∀ c item, (s.cond.sticky c).pending = true → (s.raise c item).attnDriven = s.attnDriven) ∧
    (∀ (kind tag : Byte) (cleared : Bool) (a : Answer),
      (s.reply kind tag cleared a).replyFlag 7 = s.attnDriven ∧
      (s.reply kind tag cleared a).attnDriven = s.attnDriven)

/-! ## Timers -/

/-- R15, R16, R18: at its loop expiry the timer restarts for one loop period, and the zone asks for a READ of a READY
sensor node with none queued or in flight; a sensor node in any other state counts as a failed read.
The model's choices (log 2): a stopped timer's expiry changes nothing, and a running one takes the clock to its own time. -/
def Obligations.LoopExpiry : Prop :=
  ∀ (s : State) (z : Zone), s.held = false →
    ((s.zone z).loopTimer = none → exec (.loopTimerExpiry z.number) s = .next s) ∧
    (∀ d u, (s.zone z).loopTimer = some d →
      u = State.setZone { s with now := max s.now d } z
        { s.zone z with loopTimer := some (max s.now d + (s.zone z).loopPeriod * Config.second) } →
      ∃ t, exec (.loopTimerExpiry z.number) s = .next t ∧
        (∀ n, (s.zone z).sensor = some n → (s.node n).state = .ready →
          (s.queued n .read = true ∨ s.inFlight n .read = true → t = u) ∧
          (s.queued n .read = false → s.inFlight n .read = false →
            NodeSide u t ∧ (s.nodes.queue.length < 16 → t.asked n .read))) ∧
        (s.op.state = .run → (s.zone z).active = true →
          (∀ n, (s.zone z).sensor = some n → (s.node n).state ≠ .ready) → failedReadOf u z t))

/-- R10, R44, R36, R29, R66: what the expiry of a zone's hold, defog and curtain timers does, and a claim that reaches
the saturation time. The model's choices: a timer that does not run, and a claim that is gone or marked, changes nothing,
and an event of a running one takes the clock to its own time (log 2); the intake is told of a change of mode before the
zone is evaluated (log 12). -/
def Obligations.ZoneTimersExpire : Prop :=
  ∀ (s : State) (z : Zone), s.held = false →
    ((s.zone z).holdTimer = none → exec (.holdTimerExpiry z.number) s = .next s) ∧
    ((s.zone z).defogTimer = none → exec (.defogTimerExpiry z.number) s = .next s) ∧
    ((s.zone z).curtainTimer = none → exec (.curtainTimerExpiry z.number) s = .next s) ∧
    (s.op.state = .run → (s.zone z).active = true →
      (∀ d, (s.zone z).holdTimer = some d →
        ∃ t, exec (.holdTimerExpiry z.number) s = .next t ∧
          Rewritten { s with now := max s.now d } z { s.zone z with tempSetpoint := none, holdTimer := none }
            ((s.zone z).setpoint ≠ (s.zone z).planSetpoint) t) ∧
      (∀ d, (s.zone z).defogTimer = some d → (s.zone z).hasEntry .defog = true →
        ∃ t, exec (.defogTimerExpiry z.number) s = .next t ∧
          ModeChanged { s with now := max s.now d } z
            { s.zone z with
              stack := (s.zone z).stack.filter (fun e => e.kind ≠ .defog), defogTimer := none } t) ∧
      (∀ d, (s.zone z).curtainTimer = some d → (s.zone z).hasEntry .curtain = true →
        ∃ t u, exec (.curtainTimerExpiry z.number) s = .next t ∧
          ModeChanged { s with now := max s.now d } z
            { s.zone z with
              stack := (s.zone z).stack.filter (fun e => e.kind ≠ .curtain), curtainTimer := none } u ∧
          t = State.setZone
            { u with
              cond := { u.cond with
                curtainExpired := ⟨true, min 255 (s.cond.curtainExpired.count + 1), some z.number⟩ } } z
            { u.zone z with
              curtainSpent := true, curtainTimer := none
              flags := { (u.zone z).flags with curtainExpired := true } })) ∧
    (s.arb.claimOf z = none → exec (.claimSaturation z.number) s = .next s) ∧
    (∀ i c, s.arb.claimOf z = some (i, c) →
      (c.saturated = true → exec (.claimSaturation z.number) s = .next s) ∧
      (c.saturated = false → exec (.claimSaturation z.number) s =
        .next (State.setZone
          { s with
            now := max s.now (c.filed + s.arb.saturationTime * Config.second)
            arb := s.arb.setPool i { s.arb.pool i with
              claims := (s.arb.pool i).claims.map (fun x => if x.zone = z then { x with saturated := true } else x) }
            cond := { s.cond with
              zoneSaturated := ⟨true, min 255 (s.cond.zoneSaturated.count + 1), some z.number⟩ } } z
          { s.zone z with flags := { (s.zone z).flags with saturated := true } })))

/-- R80, R83 to R85, R87, R99, R100, R102, R103: the minimum run and the stage-down hold let one stage out where the other
allows it and the node is READY; a lockout ends in OFF, or in ENGAGING where A, the COOL queue and the node call for it.
The steady-state polls restart and ask a STATUS of a READY node; the ignite wait ends in OFF, or in a new start; the stop
delay stops a running heater. The model's choices: a stopped timer's expiry changes nothing, and a running one takes the
clock to its own time (log 2); a poll marks that a STATUS has been asked in this state (log 35); a minimum run that has
expired stands so in ENGAGING, until that step is complete (log 50). -/
def Obligations.PlantTimersExpire : Prop :=
  ∀ s : State, s.held = false →
    (s.plant.seq.minRunTimer = none → exec .minimumRunExpiry s = .next s) ∧
    (s.plant.seq.holdTimer = none → exec .stageDownHoldExpiry s = .next s) ∧
    (s.plant.seq.lockoutTimer = none → exec .lockoutExpiry s = .next s) ∧
    (∀ d u, s.plant.seq.minRunTimer = some d →
      u = { s with
        now := max s.now d
        plant := { s.plant with seq := { s.plant.seq with minRunTimer := none, minRunExpired := true } } } →
      ∃ t, exec .minimumRunExpiry s = .next t ∧
        (s.plant.seq.state = .running 1 → s.plant.seq.holdMet = true → s.compressorReady = true → stageShed u 1 t) ∧
        (¬ (s.plant.seq.state = .running 1 ∧ s.plant.seq.holdMet = true ∧ s.compressorReady = true) → t = u)) ∧
    (∀ d u, s.plant.seq.holdTimer = some d →
      u = { s with
        now := max s.now d, plant := { s.plant with seq := { s.plant.seq with holdTimer := none } } } →
      ∃ t, exec .stageDownHoldExpiry s = .next t ∧
        (∀ k, s.plant.seq.state = .running k →
          (s.compressorReady = true → (2 ≤ k ∨ s.plant.seq.minRunExpired = true) → stageShed u k t) ∧
          (¬ (s.compressorReady = true ∧ (2 ≤ k ∨ s.plant.seq.minRunExpired = true)) →
            t = u.setSequencer { u.plant.seq with holdMet := true })) ∧
        ((∀ k, s.plant.seq.state ≠ .running k) → t = u)) ∧
    (∀ d u, s.plant.seq.lockoutTimer = some d →
      u = { s with
        now := max s.now d
        plant := { s.plant with
          seq := { s.plant.seq with
            state := .off, holdTimer := none, holdMet := false, lockoutTimer := none, pollTimer := none
            checkAsked := false } } } →
      ∃ t, exec .lockoutExpiry s = .next t ∧
        (1 ≤ u.allowedStages → s.plant.viewCool.nonEmpty = true → s.compressorReady = true →
          NodeSide (u.setSequencer { u.plant.seq with state := .engaging }) t ∧
          ∀ n, s.plant.defn.compressor = some n → s.takesIn n .move → t.askedMove n 1) ∧
        (¬ (1 ≤ u.allowedStages ∧ s.plant.viewCool.nonEmpty = true ∧ s.compressorReady = true) → t = u)) ∧
    (s.plant.seq.pollTimer = none → exec .compressorPollExpiry s = .next s) ∧
    (s.plant.heater.flamePollTimer = none → exec .flamePollExpiry s = .next s) ∧
    (s.plant.heater.igniteWaitTimer = none → exec .igniteWaitExpiry s = .next s) ∧
    (s.plant.heater.stopDelayTimer = none → exec .stopDelayExpiry s = .next s) ∧
    (∀ d u, s.plant.seq.pollTimer = some d →
      u = { s with
        now := max s.now d
        plant := { s.plant with
          seq := { s.plant.seq with
            pollTimer := some (max s.now d + 5 * Config.second)
            checkAsked := s.plant.seq.checkAsked || s.compressorReady } } } →
      ∃ t, exec .compressorPollExpiry s = .next t ∧ steadyPolled u s.plant.defn.compressor t) ∧
    (∀ d u, s.plant.heater.flamePollTimer = some d →
      u = { s with
        now := max s.now d
        plant := { s.plant with
          heater := { s.plant.heater with
            flamePollTimer := some (max s.now d + 5 * Config.second)
            checkAsked := s.plant.heater.checkAsked || s.auxReady } } } →
      ∃ t, exec .flamePollExpiry s = .next t ∧ steadyPolled u s.plant.defn.auxHeater t) ∧
    (∀ d, s.plant.heater.igniteWaitTimer = some d →
      ∃ t, exec .igniteWaitExpiry s = .next t ∧ offOrStarted { s with now := max s.now d } s.plant.heater t) ∧
    (∀ d, s.plant.heater.stopDelayTimer = some d → s.plant.heater.state = .running →
      ∃ t, exec .stopDelayExpiry s = .next t ∧ heaterStopped { s with now := max s.now d } s.plant.heater t)

/-- R148, R142, R145, R125, R147, R138: the nodes' timers and the poll tick restart; a starting node is sent its WAKE or
IDENT, a BUSY node a STATUS, an OFFLINE node a WAKE, and at the tick an owed retry or HALT is asked, in STOPPING a
STATUS of a compressor or aux heater that is stopping (R90, R106), and in COMMISSIONING an owed initial MOVE (R160), but
not from a RESTART on, which ends the sequence (R162; DEDUCED, log 61); with none of them due the tick changes nothing.
In COMMISSIONING the polls are told for states in which every settled node has its mark already, and the busy poll for a
queue with room. R143, R146, R151, R19: the travel timer of a BUSY node puts the node in FAULT with reason
TRAVEL_TIMEOUT, raises NODE_FAULT, asks a HALT of the node, which a full queue leaves owed, and tells its zone. The
model's choices: a stopped timer's expiry changes nothing, and a running one takes the clock to its own time (log 2);
the zone's flag is set in STOPPING and STOPPED too (log 27); a refused HALT is owed (DEDUCED, log 39), and asked at the
node's own poll or the tick (log 48). -/
def Obligations.NodeTimersExpire : Prop :=
  ∀ (s : State) (n : NodeId), s.held = false →
    ((s.node n).wakeTimer = none → exec (.wakeTimerExpiry n.address) s = .next s) ∧
    ((s.node n).pollTimer = none → exec (.nodePollTimerExpiry n.address) s = .next s) ∧
    ((s.node n).revivalTimer = none → exec (.revivalTimerExpiry n.address) s = .next s) ∧
    (s.nodes.pollTick = none → exec .pollTickExpiry s = .next s) ∧
    (∀ d u c, (s.node n).wakeTimer = some d →
      u = State.setNode { s with now := max s.now d } n
        { s.node n with wakeTimer := some (max s.now d + 100 * Config.ms) } →
      c = (match (s.node n).startStep with | .wake => Command.wake | .ident => .ident) →
      ∃ t, exec (.wakeTimerExpiry n.address) s = .next t ∧
        (s.asked n c → t = u) ∧
        (¬ s.asked n c → NodeSide u t ∧ (s.nodes.queue.length < 16 → t.asked n c))) ∧
    (∀ d, (s.node n).pollTimer = some d →
      ∃ t, exec (.nodePollTimerExpiry n.address) s = .next t ∧
        ((s.op.state = .commissioning → s.followed ∧ s.nodes.queue.length < 14) →
          NodeSide (State.setNode { s with now := max s.now d } n
            { s.node n with pollTimer := some (max s.now d + s.nodes.tuning.pollInterval * Config.ms) }) t ∧
          ((s.node n).state = .busy → (s.node n).haltOwed = false → s.takesIn n .status → t.asked n .status) ∧
          ((s.node n).state = .busy → (s.node n).haltOwed = true → s.nodes.queue.length < 15 →
            t.asked n .status ∧ t.asked n .halt))) ∧
    (∀ d, (s.node n).revivalTimer = some d →
      ∃ t, exec (.revivalTimerExpiry n.address) s = .next t ∧
        NodeSide (State.setNode { s with now := max s.now d } n
          { s.node n with revivalTimer := some (max s.now d + 10 * Config.second) }) t ∧
        (s.takesIn n .wake → t.asked n .wake)) ∧
    (∀ d u, s.nodes.pollTick = some d →
      u = { s with
        now := max s.now d
        nodes := { s.nodes with pollTick := some (max s.now d + s.nodes.tuning.pollInterval * Config.ms) } } →
      ∃ t, exec .pollTickExpiry s = .next t ∧
        ((s.op.state = .commissioning → ∀ m, s.work m ≠ .moveDone) → NodeSide u t) ∧
        ((∀ m, (s.node m).retryOwed = none ∧ (s.node m).haltOwed = false) →
          (s.op.state = .commissioning → (∀ m, s.work m ≠ .moveOwed) → s.followed → t = u) ∧
          (s.op.state = .commissioning → s.op.soft ≠ .none → t = u) ∧
          (s.op.state = .stopping → s.plant.seq.state ≠ .disengaging → s.plant.heater.state ≠ .stopping → t = u) ∧
          (s.op.state ∈ [PartState.config, .run, .stopped] → t = u) ∧
          (s.op.state = .stopping → (s.node n).pollTimer = none → (s.node n).state = .ready →
            ((s.plant.defn.compressor = some n ∧ s.plant.seq.state = .disengaging) ∨
              (s.plant.defn.auxHeater = some n ∧ s.plant.heater.state = .stopping)) →
            s.nodes.queue.length < 15 → t.askedBy n .status .shutdown) ∧
          (s.op.state = .commissioning → s.op.soft = .none → (s.node n).pollTimer = none →
            (s.node n).state = .ready → (s.node n).configured = true → s.op.done[n] = false → s.work n = .moveOwed →
            (∀ m, m ≠ n → s.work m ≠ .moveOwed) → s.takesIn n .move →
            t.op.state = .commissioning ∧ t.work n = .moveAsked ∧
            t.askedMoveBy n (if (s.node n).binding = some (.plant .intake) then s.plant.minFreshAir else 0)
              .commission)) ∧
        (s.op.state ∈ [PartState.config, .run, .stopped] → (s.node n).pollTimer = none →
          (∀ m, m ≠ n → (s.node m).retryOwed = none ∧ (s.node m).haltOwed = false) →
          ((s.node n).haltOwed = false → (s.node n).state = .fault →
            ((s.node n).retryOwed = some .check → s.takesIn n .status →
              t.asked n .status ∧ t.node n = { s.node n with retryOwed := none, retryStep := some .status }) ∧
            ((s.node n).retryOwed = some .reset → s.takesIn n .nodeReset →
              t.asked n .nodeReset ∧ t.node n = { s.node n with retryOwed := none, retryStep := some .reset })) ∧
          ((s.node n).haltOwed = true → (s.node n).retryOwed = none → s.takesIn n .halt →
            t.asked n .halt ∧ t.node n = { s.node n with haltOwed := false }))) ∧
    ((s.node n).travelTimer = none → exec (.travelTimerExpiry n.address) s = .next s) ∧
    (∀ d, (s.node n).travelTimer = some d → (s.node n).state = .busy →
      ∃ t, exec (.travelTimerExpiry n.address) s = .next t ∧ t.now = max s.now d ∧
        t.node n = { s.node n with
          state := .fault, faultReason := some .travelTimeout, pending := none, busySince := none
          busyFromFault := false, retryOwed := none, retryStep := none, haltOwed := (t.node n).haltOwed
          wakeTimer := none, pollTimer := none, travelTimer := none, revivalTimer := none } ∧
        (∀ m, m ≠ n → (t.node m).state = (s.node m).state) ∧
        t.cond.nodeFault = ⟨true, min 255 (s.cond.nodeFault.count + 1), some n.address⟩ ∧
        (∀ z role, (s.node n).binding = some (.zone z role) → role ≠ .sensor → s.op.state ≠ .commissioning →
          (t.zone z).flags.actuatorFault = true) ∧
        ((s.node n).binding = none → s.op.state ≠ .commissioning → s.nodes.queue.length < 16 →
          t.asked n .halt ∧ (t.node n).haltOwed = false ∧ t.zones = s.zones ∧ t.arb = s.arb ∧ t.plant = s.plant ∧ t.op.state = s.op.state) ∧
        ((s.node n).binding = none → s.op.state ≠ .commissioning → 16 ≤ s.nodes.queue.length →
          (∀ e ∈ s.nodes.queue, e.node ≠ some n) → (t.node n).haltOwed = true) ∧
        t.port = s.port ∧ t.held = s.held ∧ t.shedLine = s.shedLine ∧ t.key = s.key ∧ t.pending = s.pending)

/-- R79 to R82, R85, R88: a step of the sequencer ends when the compressor node is READY with no MOVE left: at the step's
target it is complete, and COOL capacity is written afresh; at any other value the node enters FAULT with reason
UNEXPECTED_VALUE, and with it the sequencer. The model's choices: so it does with no value recorded (log 63), and the
completion may leave the sequencer in the next STEP_UP, as R81 has it (log 62, beside R86). -/
def Obligations.SequencerStepEnds : Prop :=
  ∀ (s t : State) (n : NodeId) (g : Nat), t = s.seqReport n → s.op.state = .run →
    s.plant.defn.compressor = some n → (s.node n).state = .ready → s.moveLeft n = false →
    s.plant.seq.state.stepTarget = some g →
    ((s.node n).value = some (.num g) →
      ShareSide s t ∧ t.arb.cool.capacity = t.coolCapacity ∧
      (s.plant.seq.state = .engaging → 1 ≤ s.allowedStages →
        t.plant.seq.state ∈ [Seq.running 1, .stepUp 1] ∧
        t.plant.seq.minRunTimer = some (s.now + s.plant.defn.minRun * Config.second)) ∧
      (∀ k, s.plant.seq.state = .stepUp k → k + 1 ≤ s.allowedStages →
        t.plant.seq.state ∈ [Seq.running (k + 1), .stepUp (k + 1)]) ∧
      (∀ k, s.plant.seq.state = .stepDown k → k - 1 ≤ s.allowedStages →
        t.plant.seq.state ∈ [Seq.running (k - 1), .stepUp (k - 1)]) ∧
      (s.plant.seq.state = .disengaging → t.plant.seq.state = .lockout ∧
        t.plant.seq.lockoutTimer = some (s.now + s.plant.defn.minOff * Config.second))) ∧
    ((s.node n).value ≠ some (.num g) →
      (t.node n).state = .fault ∧ (t.node n).faultReason = some .unexpectedValue ∧
      t.cond.nodeFault = ⟨true, min 255 (s.cond.nodeFault.count + 1), some n.address⟩ ∧
      ((s.node n).binding = some (.plant .compressor) →
        t.plant.seq.state = .fault ∧ t.arb.cool.capacity = 0 ∧
        t.cond.compFault = ⟨true, min 255 (s.cond.compFault.count + 1), some n.address⟩))

/-! ## The field line -/

/-- R111, R112: a request frame on the line: address, command, the argument of a MOVE, and the check that makes the sum 0
modulo 256; the address mark on the first character alone; each character twelve bits, start, eight data bits from the
least significant, mark, parity, stop, with an even number of ones among data, mark and parity, one directly after the
other. Both attempts send the same frame. -/
def Obligations.RequestFrameOnTheLine : Prop :=
  (∀ (b : Byte) (mark : Bool), charBits b mark =
    [.start, .value (b.getLsbD 0), .value (b.getLsbD 1), .value (b.getLsbD 2), .value (b.getLsbD 3),
      .value (b.getLsbD 4), .value (b.getLsbD 5), .value (b.getLsbD 6), .value (b.getLsbD 7), .value mark,
      .value (parityBit b mark), .stop] ∧
    (((List.range 8).countP (fun i => b.getLsbD i)) + mark.toNat + (parityBit b mark).toNat) % 2 = 0) ∧
  (∀ x : Txn,
    (∃ check,
      x.frame =
        (match x.node with | none => 0#8 | some n => byteOf n.address) :: byteOf x.cmd.code ::
          ((if x.cmd = .move then [byteOf x.argument] else []) ++ [check]) ∧
      sumBytes x.frame = 0#8) ∧
    x.frame.length = x.cmd.requestChars ∧
    x.markedFrame.map Prod.fst = x.frame ∧
    x.markedFrame.map Prod.snd = true :: List.replicate (x.cmd.requestChars - 1) false ∧
    x.lineBits = (x.markedFrame.map (fun c => charBits c.1 c.2)).flatten ∧
    x.lineBits.length = 12 * x.cmd.requestChars ∧
    ∀ k f, ({ x with attempt := k, firstFail := f } : Txn).lineBits = x.lineBits)

/-- R115, R116, R121: the lead, the frame and the trail of an attempt, each at its own time; a frame of a MOVE has four
characters, of every other command three; after the trail an addressed transaction waits for its reply and a broadcast
for 2 ms. R119, R122, R166: the end of the gap begins the second attempt, or after the cut of a soft reset its broadcast
MOVE 0; a cut in a frame ends at the character being sent, and a cut while draining ends in the gap. The model's choices:
each event takes the clock to its own time (log 2), an event of another phase changes nothing (log 3), and a cut frame ends
at CUT_CHARACTER_END alone, one character's end after the order (DEDUCED, log 33). -/
def Obligations.LinePhasesEnd : Prop :=
  (∀ (s : State) (d : Time) (x : Txn), s.held = false → s.line.timer = some d → s.line.txn = some x →
    (s.line.phase = .lead → exec .leadEnd s =
      .next (phaseMoved s (max s.now d) .sending ((if x.cmd = .move then 4 else 3) * Config.charTime))) ∧
    (s.line.phase ≠ .lead → exec .leadEnd s = .next s) ∧
    (s.line.phase = .sending → s.line.cut = false → exec .frameSent s =
      .next (phaseMoved s (max s.now d) .trail Config.charTime)) ∧
    ((s.line.phase ≠ .sending ∨ s.line.cut = true) → exec .frameSent s = .next s) ∧
    (s.line.phase = .trail → exec .trailEnd s = .next
      (if x.node = none then phaseMoved s (max s.now d) .broadcastWait (2 * Config.ms)
       else phaseMoved s (max s.now d) .awaitReply (10 * Config.ms))) ∧
    (s.line.phase ≠ .trail → exec .trailEnd s = .next s)) ∧
  (∀ (s : State) (d : Time), s.held = false → s.line.timer = some d →
    (s.line.phase = .gap → s.line.cut = false →
      exec .gapEnd s = .next (phaseMoved s (max s.now d) .lead Config.charTime)) ∧
    (s.line.phase = .gap → s.line.cut = true → s.op.soft = .cut → exec .gapEnd s = .next { s with
      now := max s.now d
      op := { s.op with soft := .broadcast }
      line :=
        { phase := .lead
          txn := some
            { node := none, cmd := .move, argument := 0, urgent := true, origin := .shutdown
              origins := [.shutdown], attempt := 1, firstFail := none }
          timer := some (max s.now d + Config.charTime), replyStart := none, chars := [], cut := false } }) ∧
    (s.line.phase = .drain → s.line.cut = true →
      ∀ e, s.endsAt e → exec .drainEnd s = .next (phaseMoved s (max s.now e) .gap (2 * Config.charTime))) ∧
    (s.line.phase = .sending → s.line.cut = true →
      exec .cutCharacterEnd s = .next (phaseMoved s (max s.now d) .gap (2 * Config.charTime))) ∧
    ((s.line.phase ≠ .sending ∨ s.line.cut = false) → exec .cutCharacterEnd s = .next s) ∧
    (s.line.phase ≠ .gap → exec .gapEnd s = .next s))

/-- R116, R117, R113, R111, R110: a reply character by the phase: a good one is kept, until the count the status character
gives is reached and the sum is 0, which closes the reply; a defect, and any character after the reply or while draining,
drains the line for two character times of quiet; in every other phase it is discarded. The count is 2 where the status
character carries ILLEGAL or CHECK_ERROR, and by the command otherwise: 2 for WAKE, HALT and NODE_RESET, 3 for MOVE, 4 for
IDENT and STATUS, 6 for READ. The model's choice (log 24): a
character is taken at its end, one character time after the trail's end or the character before it, and its start bit
stands one character time earlier. -/
def Obligations.ReplyCharacterByPhase : Prop :=
  (∀ (c : Command) (st : Byte),
    ((st.getLsbD 2 = true ∨ st.getLsbD 3 = true) → expectedChars c st = 2) ∧
    (st.getLsbD 2 = false → st.getLsbD 3 = false → expectedChars c st =
      match c with
      | .wake => 2
      | .ident => 4
      | .status => 4
      | .read => 6
      | .move => 3
      | .halt => 2
      | .nodeReset => 2)) ∧
  (∀ (s : State) (data : Byte) (mark parity stop : Bool) (d : Time) (x : Txn), s.held = false →
    s.line.timer = some d → s.line.txn = some x →
    (s.line.phase = .awaitReply → ∀ n, n = max s.now (d - 10 * Config.ms + Config.charTime) →
      (charGood data mark parity stop = true ∧ mark = false ∧ data.getLsbD 7 = false →
        exec (.replyCharacterReceived data mark parity stop) s = .next { s with
          now := n
          line := { s.line with
            phase := .receiving, timer := some (n + 2 * Config.charTime), chars := [data]
            replyStart := some (n - Config.charTime) } }) ∧
      (¬ (charGood data mark parity stop = true ∧ mark = false ∧ data.getLsbD 7 = false) →
        exec (.replyCharacterReceived data mark parity stop) s = .next { s with
          now := n
          line := { s.line with
            phase := .drain, chars := [], replyStart := some (n - Config.charTime)
            timer := some (n + 2 * Config.charTime) } })) ∧
    (∀ b, s.line.replyStart = some b →
      (s.line.phase = .receiving → ∀ n st got,
        n = max s.now (d - 2 * Config.charTime + Config.charTime) → s.line.chars = st :: got →
        (charGood data mark parity stop = true → mark = false →
          (got.length + 2 < expectedChars x.cmd st →
            exec (.replyCharacterReceived data mark parity stop) s = .next { s with
              now := n
              line := { s.line with
                timer := some (n + 2 * Config.charTime), chars := st :: (got ++ [data]) } }) ∧
          (expectedChars x.cmd st ≤ got.length + 2 → sumBytes (st :: (got ++ [data])) = 0#8 →
            exec (.replyCharacterReceived data mark parity stop) s = .next { s with
              now := n
              line := { s.line with
                phase := .closing, timer := some (n + 2 * Config.charTime), chars := st :: (got ++ [data]) } }) ∧
          (expectedChars x.cmd st ≤ got.length + 2 → sumBytes (st :: (got ++ [data])) ≠ 0#8 →
            exec (.replyCharacterReceived data mark parity stop) s = .next { s with
              now := n
              line := { s.line with
                phase := .drain
                timer := some (n + 2 * Config.charTime) } })) ∧
        (¬ (charGood data mark parity stop = true ∧ mark = false) →
          exec (.replyCharacterReceived data mark parity stop) s = .next { s with
            now := n
            line := { s.line with
              phase := .drain
              timer := some (n + 2 * Config.charTime) } })) ∧
      (s.line.phase = .closing → ∀ n, n = max s.now (d - 2 * Config.charTime + Config.charTime) →
        exec (.replyCharacterReceived data mark parity stop) s = .next { s with
          now := n
          line := { s.line with
            phase := .drain, timer := some (n + 2 * Config.charTime) } }) ∧
      (s.line.phase = .drain → ∀ n, n = max s.now (d - 2 * Config.charTime + Config.charTime) →
        exec (.replyCharacterReceived data mark parity stop) s = .next { s with
          now := n
          line := { s.line with timer := some (n + 2 * Config.charTime) } })) ∧
    (s.line.phase ∈ [LinePhase.lead, .sending, .trail, .broadcastWait, .gap] →
      exec (.replyCharacterReceived data mark parity stop) s = .next s)) ∧
  (∀ (s : State) (data : Byte) (mark parity stop : Bool), s.held = false → s.line.phase = .idle →
    exec (.replyCharacterReceived data mark parity stop) s = .next s)

/-- R117 to R119, R144, R151, R16, R18: the first attempt that fails, in whichever way, is followed by the idle gap and the
second attempt, and remembers how it failed; the second failure is reported with the failure kind of each attempt. In
READY or BUSY one more failed transaction is counted, a READ is told to its zone as a failed read, and the third in a row
puts the node in OFFLINE with its entries dropped and NODE_OFFLINE raised; then the line is free. R19, R88, R105: the
entry to OFFLINE is told to the zone of a valve, damper or blower, to the sequencer, which enters FAULT with COMP_FAULT
raised, and to the heater. The model's choice (log 2): the event takes the clock to its own time. -/
def Obligations.AttemptsFail : Prop :=
  (∀ (s : State) (c : Instr) (p : LinePhase) (k : FailKind) (d : Time) (x : Txn), s.held = false →
      s.attemptFails c p k → s.line.phase = p → s.endsAt d → s.line.txn = some x →
      (x.attempt < 2 → exec c s = .next { s with
        now := max s.now d
        line :=
          { phase := .gap, txn := some { x with attempt := 2, firstFail := some k }
            timer := some (max s.now d + 2 * Config.charTime), replyStart := none, chars := [], cut := false } }) ∧
      (2 ≤ x.attempt →
        exec c s = .next (State.deliver { s with now := max s.now d } x (.failed x.firstFail k)))) ∧
  (∀ (s u : State) (c : Instr) (d : Time) (x : Txn) (n : NodeId) (r : NodeRec), s.secondFails c d n x →
      ((s.node n).state = .ready ∨ (s.node n).state = .busy) → s.op.state ≠ .commissioning →
      u = { s with now := max s.now d } → r = { s.node n with failCount := (s.node n).failCount + 1 } →
      ∃ t, exec c s = .next t ∧
        (x.cmd ≠ .read → (x.cmd = .move → x.origin ≠ .commission ∧ ∀ role, (s.node n).binding ≠ some (.plant role)) →
          ((s.node n).failCount < 2 → lineFreed (u.setNode n r) t) ∧
          (2 ≤ (s.node n).failCount → ((s.node n).binding = none ∨ ∃ z, (s.node n).binding = some (.zone z .sensor)) →
            lineFreed (u.offlined n r) t) ∧
          (2 ≤ (s.node n).failCount → s.op.state = .run → ∀ z role, (s.node n).binding = some (.zone z role) →
            role ≠ .sensor → (s.zone z).active = true →
            ∃ v, zoneToldDown ((s.reporting d).downAt n (offlinedRecord u r)) z v ∧
              lineFreed (v.offlineRaised n) t)) ∧
        (∀ z, x.cmd = .read → x.origins = [.zone z] → s.op.state = .run → (s.zone z).active = true →
          ((s.node n).failCount < 2 →
            ∃ v, failedReadOf ((s.reporting d).setNode n r) z v ∧ lineFreed v t) ∧
          (2 ≤ (s.node n).failCount → ((s.node n).binding = none ∨ ∃ z, (s.node n).binding = some (.zone z .sensor)) →
            ∃ v, failedReadOf ((s.reporting d).downAt n (offlinedRecord u r)) z v ∧
              lineFreed (v.offlineRaised n) t)) ∧
        (x.noReading → 2 ≤ (s.node n).failCount → ∀ role, (s.node n).binding = some (.plant role) →
          ((t.node n).state = .offline ∧
            t.cond.nodeOffline = ⟨true, min 255 (s.cond.nodeOffline.count + 1), some n.address⟩) ∧
          (role = .compressor → s.plant.seq.state ≠ .fault → sequencerFaulted s n t) ∧
          (role = .compressor → s.plant.seq.state = .fault → s.op.state = .run → lineFreed (u.offlined n r) t) ∧
          (role = .auxHeater → s.plant.defn.auxHeater = some n → heaterNodeLost s t) ∧
          (role = .intake → lineFreed (u.offlined n r) t)))

/-- R131, R132, R142: a good STATUS reply writes value and node target; BUSY takes a READY node to BUSY, where a MOVE queued
for it becomes its pending move, and a BUSY node without the flag to READY, where a pending move that differs from the value
is asked. R130, R16, R19: a reply of a READY or BUSY node to any command, with the FAULT flag, ILLEGAL or RANGE, or a STATUS
out of form, puts the node in FAULT with its reason and raises NODE_FAULT; a READ is told to its zone as failed, and the
zone of a valve, damper or blower sets its flag and is evaluated. For nodes that are no plant nodes.
The model's choices: a SENSOR keeps its reading on a STATUS (DEDUCED, log 20), and the event takes the clock to its own
time (log 2). -/
def Obligations.StatusReplyIsTaken : Prop :=
  (∀ (s u : State) (n : NodeId) (x : Txn) (st : Byte) (data : List Byte) (d : Time) (why : FaultReason) (r : NodeRec),
    s.faultyReply d n x st data why → s.op.state ≠ .commissioning → u = { s with now := max s.now d } →
    r = faultedRecord { s.node n with failCount := 0 } why →
    ∃ t, exec .closingQuietEnd s = .next t ∧
      (((s.node n).binding = none ∨ ∃ z, (s.node n).binding = some (.zone z .sensor)) →
        (x.noReading → lineFreed (u.faulted n r) t) ∧
        (∀ z, x.cmd = .read → x.origins = [.zone z] → s.op.state = .run → (s.zone z).active = true →
          ∃ v, failedReadOf ((s.reporting d).downAt n r) z v ∧ lineFreed (v.faultRaised n) t)) ∧
      (x.noReading → s.op.state = .run → ∀ z role, (s.node n).binding = some (.zone z role) → role ≠ .sensor →
        (s.zone z).active = true →
        ∃ v, zoneToldDown ((s.reporting d).downAt n r) z v ∧ lineFreed (v.faultRaised n) t)) ∧
  ∀ (s u : State) (n : NodeId) (x : Txn) (st v g : Byte) (d : Time) (r : NodeRec),
    s.answered d n x st [v, g] → s.op.state ≠ .commissioning → x.cmd = .status → (∀ role, (s.node n).binding ≠ some (.plant role)) →
    (s.node n).busyFromFault = false → valueFits (s.node n).kind v.toNat = true →
    valueFits (s.node n).kind g.toNat = true → u = { s with now := max s.now d } →
    r = { s.node n with
      failCount := 0, nodeTarget := some g.toNat
      value := (if (s.node n).kind = some .sensor then (s.node n).value else some (.num v.toNat)) } →
    ∃ t, exec .closingQuietEnd s = .next t ∧
      ((s.node n).state = .ready → stBusy st = false → lineFreed (u.setNode n r) t) ∧
      ((s.node n).state = .busy → stBusy st = true → lineFreed (u.setNode n r) t) ∧
      ((s.node n).state = .ready → stBusy st = true → becameBusy u n r t) ∧
      ((s.node n).state = .busy → stBusy st = false →
        ((s.node n).pending = none ∨ ∃ p, (s.node n).pending = some p ∧ r.value = some (.num p.argument)) →
        lineFreed (u.setNode n { r with
          state := .ready, pending := none, busySince := none, busyFromFault := false, pollTimer := none
          travelTimer := none }) t) ∧
      (∀ q, (s.node n).state = .busy → stBusy st = false → (s.node n).pending = some q →
        r.value ≠ some (.num q.argument) → s.takesIn n .move →
        (t.node n).state = .ready ∧ (t.node n).pending = none ∧ t.askedMove n q.argument)

/-- R16, R17, R18, R40, R41, R131, R132: a good READ reply is a reading of the zone that asked: it is stored, a PURGE with
cause AUTO begins at purge-on where no PURGE stands, with PURGE_AUTO raised, and an AUTO one ends at purge-off, and the zone
is evaluated; out of range it is a failed read, the third of which loses the sensor. With BUSY the node enters BUSY. The
model's choices: the event takes the clock to its own time (log 2), and a reading out of range is the node's value too
(DEDUCED, log 43). -/
def Obligations.ReadingReachesTheZone : Prop :=
  ∀ (s b : State) (n : NodeId) (x : Txn) (st th tl ch cl : Byte) (d : Time) (z : Zone) (temp : Int) (co2 : Nat)
    (m : NodeRec) (r : ZoneRec) (e : Option ModeEntry),
    s.answered d n x st [th, tl, ch, cl] → x.cmd = .read → x.origins = [.zone z] →
    (s.node n).state = .ready → s.queued n .move = false → s.op.state = .run → (s.zone z).active = true →
    temp = (joinBytes th tl).toInt → co2 = (joinBytes ch cl).toNat →
    m = { s.node n with failCount := 0, value := some (.reading temp co2) } →
    b = (s.reporting d).setNode n (if stBusy st then busyRecord (s.reporting d) m else m) →
    r = { s.zone z with temperature := some temp, co2 := some co2, sensorStatus := .ok, missed := 0 } →
    e = (s.zone z).stack.find? (fun e => decide (e.kind = .purge)) →
    ∃ t v, exec .closingQuietEnd s = .next t ∧ lineFreed v t ∧
      (-400 ≤ temp → temp ≤ 800 → co2 ≤ 5000 →
        ((e = none ∧ co2 < s.zones.tuning.purgeOn) ∨
          (∃ y, e = some y ∧ (y.cause ≠ some .auto ∨ s.zones.tuning.purgeOff < co2)) →
          Evaluated (b.setZone z r) z v) ∧
        (e = none → s.zones.tuning.purgeOn ≤ co2 → ∀ q,
          q = { r with stack := ⟨.purge, some .auto, max s.now d⟩ :: r.stack } →
          ∃ u, modeTold (b.setZone z q) r.effMode q.effMode u ∧
            Evaluated
              { u with
                cond := { u.cond with
                  purgeAuto := ⟨true, min 255 (s.cond.purgeAuto.count + 1), some z.number⟩ } } z v) ∧
        (∀ y, e = some y → y.cause = some .auto → co2 ≤ s.zones.tuning.purgeOff → ∀ q,
          q = { r with stack := r.stack.filter (fun e => e.kind ≠ .purge) } →
          ∃ u, modeTold (b.setZone z q) r.effMode q.effMode u ∧ Evaluated u z v)) ∧
      (¬ (-400 ≤ temp ∧ temp ≤ 800 ∧ co2 ≤ 5000) → failedReadOf b z v)

/-- R134, R130, R132: a MOVE reply by its flags BUSY and SEQUENCE and its taken target, for a node that is no plant node; at
the entry to BUSY a later MOVE that is queued becomes the pending move. The entry to FAULT is said of a node without an
owner, and of one of a zone, which is told (R19). The model's choice (log 2): the event takes the clock to its own time. -/
def Obligations.MoveReplyRows : Prop :=
  ∀ (s u : State) (n : NodeId) (x : Txn) (st a : Byte) (d : Time), s.answered d n x st [a] →
    s.op.state ≠ .commissioning → x.cmd = .move → (∀ role, (s.node n).binding ≠ some (.plant role)) →
    ((s.node n).state = .ready ∨ (s.node n).state = .busy) → x.origin ≠ .commission →
    u = { s with now := max s.now d } →
    ∃ t, exec .closingQuietEnd s = .next t ∧
      (stBusy st = true → stSequence st = false → a = byteOf x.argument →
        becameBusy u n { s.node n with failCount := 0, target := some x.argument } t) ∧
      (stBusy st = false → stSequence st = false → a = byteOf x.argument →
        lineFreed (u.setNode n
          { s.node n with failCount := 0, target := some x.argument, value := some (.num x.argument) }) t) ∧
      (stBusy st = true → stSequence st = true → a = 0xFF#8 →
        becameBusy u n { s.node n with failCount := 0, pending := some ⟨x.argument, x.origin⟩ } t) ∧
      (stBusy st = false → stSequence st = true → a = 0xFF#8 → (s.node n).kind = some .auxheat →
        lineFreed (u.setNode n { s.node n with failCount := 0 }) t) ∧
      (∀ why r, r = faultedRecord { s.node n with failCount := 0 } why →
          (stSequence st = true ∧ stBusy st = false ∧ a = 0xFF#8 ∧ (s.node n).kind ≠ some .auxheat ∧
            why = FaultReason.refusedMove) ∨
          (stSequence st = true ∧ a ≠ 0xFF#8 ∧ why = .illegalReply) ∨
          (stSequence st = false ∧ a ≠ byteOf x.argument ∧ why = .illegalReply) →
        ((s.node n).binding = none → lineFreed (u.faulted n r) t) ∧
        (∀ z role, (s.node n).binding = some (.zone z role) → role ≠ .sensor → s.op.state = .run →
          (s.zone z).active = true →
          ∃ v, zoneToldDown ((s.reporting d).downAt n r) z v ∧ lineFreed (v.faultRaised n) t))

/-- R79 to R82, R85, R87 to R90, R130, R134, R142, R147 to R149, R151, R164: what the replies of the compressor node do at
the sequencer. In
RUNNING(k) a STATUS asked there that shows BUSY or another value than k faults node and sequencer; one asked before changes
nothing there (log 35). A busy period that ends at the step's target completes the step, and at another value faults; one
that ends a return from FAULT begins DISENGAGING with a MOVE 0, or LOCKOUT at value 0; one that began with the initial MOVE
ends in LOCKOUT at 0, in FAULT above it. A MOVE answered "already there" ends the step at once; a refused one faults; the
initial MOVE that goes BUSY is watched. In STOPPING a STATUS of the shutdown ends DISENGAGING at 0, and above it asks the
MOVE 0 again, unless the broadcast MOVE 0 still stands for it in the queue (DEDUCED, log 49). A reply that faults the node
faults the sequencer. The IDENT that ends a CHECK, or a start-up with cause REVIVAL or RETRY, takes a sequencer in FAULT to
DISENGAGING with a MOVE 0, where the value or a MOVE queued then is above 0, and to LOCKOUT otherwise; a watched compressor
that a start-up brings to READY at value 0 is in LOCKOUT, whatever MOVE is left, and one above 0 whose MOVE then fails is in
FAULT (DEDUCED, log 23). From a RESTART on neither the commissioning sequence nor the wait for rest goes on (R162, R164;
DEDUCED, log 61). The model's choice (log 2): the event takes the clock to its own time. -/
def Obligations.CompressorReplies : Prop :=
  (∀ (s u : State) (n : NodeId) (x : Txn) (st v g : Byte) (d : Time) (r : NodeRec),
    s.statusTold d n x st v g → s.solePlant n .compressor → s.plant.defn.compressor = some n →
    u = { s with now := max s.now d } →
    r = { s.node n with failCount := 0, value := some (.num v.toNat), nodeTarget := some g.toNat } →
    ∃ t, exec .closingQuietEnd s = .next t ∧
      (s.op.state = .run → (s.node n).state = .ready → Origin.plant ∈ x.origins →
        ∀ k, s.plant.seq.state = .running k →
        (s.plant.seq.checkAsked = true → (stBusy st = true ∨ v.toNat ≠ k) →
          compressorFaulted s n .unexpectedValue t) ∧
        (stBusy st = false → (s.plant.seq.checkAsked = false ∨ v.toNat = k) → lineFreed (u.setNode n r) t) ∧
        (stBusy st = true → s.plant.seq.checkAsked = false → lineFreed (u.setNode n (busyRecord u r)) t)) ∧
      ((s.node n).state = .busy → stBusy st = false →
        ((s.node n).pending = none ∨ ∃ p, (s.node n).pending = some p ∧ p.argument = v.toNat) →
        (s.op.state = .run → ∀ k, s.plant.seq.state.stepTarget = some k →
          (v.toNat = k → stepCompleted s (max s.now d) t) ∧
          (v.toNat ≠ k → compressorFaulted s n .unexpectedValue t)) ∧
        (s.op.state = .run → s.plant.seq.state = .fault → (s.node n).busyFromFault = true →
          (0 < v.toNat → t.plant.seq.state = .disengaging ∧ (s.takesIn n .move → t.askedMove n 0)) ∧
          (v.toNat = 0 → lockedOutFrom s (max s.now d) t)) ∧
        (s.plant.seq.watch = true → s.plant.seq.state ∈ [Seq.off, .lockout] →
          (s.op.state = .commissioning → s.followed ∧
            ∃ m, m ≠ n ∧ (s.node m).configured = true ∧ s.op.done[m] = false) →
          (v.toNat = 0 → lockedOutFrom s (max s.now d) t) ∧
          (0 < v.toNat → compressorFaulted s n .unexpectedValue t))) ∧
      (s.op.state = .stopping → (s.node n).state ∈ [NodeState.ready, .busy] → stBusy st = false →
        (s.node n).pending = none → Origin.shutdown ∈ x.origins → s.plant.seq.state = .disengaging →
        (v.toNat = 0 → lockedOutFrom s (max s.now d) t ∧
          t.op.state = (if s.plant.heater.state.atRest = true ∧ s.op.soft = .none then .stopped else .stopping)) ∧
        (0 < v.toNat → t.plant.seq.state = .disengaging ∧
          (¬ s.broadcastAsked .move → s.takesIn n .move → t.askedMoveBy n 0 .shutdown) ∧
          (s.broadcastAsked .move → lineFreed
            (u.setNode n (if (s.node n).state = .ready then r else stillRecord (s.node n) v.toNat g.toNat)) t)))) ∧
  (∀ (s u : State) (n : NodeId) (x : Txn) (st a : Byte) (d : Time),
    s.answered d n x st [a] → x.cmd = .move → s.solePlant n .compressor → s.plant.defn.compressor = some n →
    (s.node n).kind = some .compressor → (s.node n).state = .ready → s.noMove n → u = { s with now := max s.now d } →
    ∃ t, exec .closingQuietEnd s = .next t ∧
      (s.op.state = .run → stBusy st = false → stSequence st = false → a = byteOf x.argument →
        ∀ k, s.plant.seq.state.stepTarget = some k →
        (x.argument = k → stepCompleted s (max s.now d) t) ∧
        (x.argument ≠ k → compressorFaulted s n .unexpectedValue t)) ∧
      (s.op.state = .run → stBusy st = false → stSequence st = true → a = 0xFF#8 → s.plant.seq.state ≠ .fault →
        compressorFaulted s n .refusedMove t) ∧
      (s.op.state ≠ .commissioning → x.origin ≠ .commission → stBusy st = true → stSequence st = false →
        a = byteOf x.argument →
        lineFreed (u.setNode n (busyRecord u { s.node n with failCount := 0, target := some x.argument })) t) ∧
      (s.op.state = .commissioning → x.origin = .commission → stBusy st = true → s.op.done[n] = false →
        (s.node n).configured = true →
        ((stSequence st = false ∧ a = byteOf x.argument) ∨ (stSequence st = true ∧ a = 0xFF#8)) →
        (t.node n).state = .busy ∧ t.plant.seq = { s.plant.seq with watch := true } ∧
        t.work n = (if s.op.soft = .none then .moveDone else s.work n))) ∧
  (∀ (s u : State) (n : NodeId) (x : Txn) (st : Byte) (data : List Byte) (d : Time) (why : FaultReason) (r : NodeRec),
    s.faultyReply d n x st data why → x.noReading → (s.node n).binding = some (.plant .compressor) →
    s.op.state ≠ .commissioning → u = { s with now := max s.now d } →
    r = faultedRecord { s.node n with failCount := 0 } why →
    ∃ t, exec .closingQuietEnd s = .next t ∧
      (s.plant.seq.state ≠ .fault → compressorFaulted s n why t) ∧
      (s.plant.seq.state = .fault → s.op.state = .run → lineFreed (u.faulted n r) t)) ∧
  (∀ (s : State) (n : NodeId) (x : Txn) (st k ver : Byte) (d : Time) (above : Prop),
    s.identified d n x st k ver → s.solePlant n .compressor → s.plant.defn.compressor = some n →
    s.op.state ≠ .commissioning →
    (above ↔ (∃ v, (s.node n).value = some (.num v) ∧ 0 < v) ∨ ∃ a, s.moveAtReady n a ∧ 0 < a) →
    ∃ t, exec .closingQuietEnd s = .next t ∧
      (s.plant.seq.state = .fault → (t.node n).state = .ready ∧ (t.node n).version = some ver) ∧
      (s.plant.seq.state = .fault →
        ((s.node n).state = .starting → (s.node n).cause ∈ [some StartCause.revival, some .retry]) →
        (above → t.plant.seq.state = .disengaging ∧ (s.takesIn n .move → t.askedMove n 0)) ∧
        (¬ above → lockedOutFrom s (max s.now d) t)) ∧
      (s.plant.seq.state = .fault → (s.node n).state = .starting → (s.node n).cause = some .restart →
        t.plant = s.plant)) ∧
  (∀ (s : State) (n : NodeId) (x : Txn) (st k ver : Byte) (d : Time),
    s.identified d n x st k ver → (s.node n).binding = some (.plant .compressor) → s.plant.seq.watch = true →
    s.plant.seq.state ∈ [Seq.off, .lockout] → (s.node n).value = some (.num 0) →
    ∃ t, exec .closingQuietEnd s = .next t ∧ lockedOutFrom s (max s.now d) t) ∧
  (∀ (s : State) (c : Instr) (d : Time) (n : NodeId) (x : Txn) (v : Nat),
    s.secondFails c d n x → x.cmd = .move → x.origin ≠ .commission → (s.node n).state = .ready → s.noMove n →
    (s.node n).failCount < 2 → (s.node n).binding = some (.plant .compressor) → s.plant.seq.watch = true →
    s.plant.seq.state ∈ [Seq.off, .lockout] → (s.node n).value = some (.num v) → 0 < v →
    ∃ t, exec c s = .next t ∧ compressorFaulted s n .unexpectedValue t)

/-- R96 to R108, R130, R134, R142, R147 to R149, R151: what the replies of the aux heater and intake nodes do. Ignition ends by value
and stop mark: RUNNING with the aux units in HEAT capacity, a failure counted, OFF, or STOPPING with a MOVE 0; a flame-out
takes the units out and is counted, but a STATUS asked before this RUNNING shows none (log 35); STOPPING ends at value 0 in
OFF, or in a new start, and at value 1 asks the MOVE 0 again, in a shutdown with origin SHUTDOWN. MOVE 1 is answered by its
flags; the outcome of a MOVE is a READY report too (DEDUCED, log 14); the initial MOVE that goes BUSY stops the heater. An
intake node that is READY again, in RUN and in STOPPED, is asked the target where its latest commanded value differs, while
the plant definition names it (log 52); in STOPPING nothing is asked of it. In a shutdown no MOVE 0 is asked again while the
broadcast MOVE 0 still stands for it in the queue (DEDUCED, log 49). R105: a reply that puts the aux node in FAULT takes a
heater that ignites, runs or stops to OFF; the IDENT that brings it back to READY from FAULT or OFFLINE has MOVE 0 asked, in
OFF with entry to STOPPING, where the value is 1 or, in OFF, a MOVE 1 is queued then, and R96 applied in OFF otherwise, also
to a value never reported (log 51). From a RESTART on neither the commissioning sequence nor the wait for rest goes on
(R162, R164; DEDUCED, log 61). The model's choice (log 2): the event takes the clock to its own time. -/
def Obligations.HeaterAndIntakeReplies : Prop :=
  (∀ (s u b : State) (n : NodeId) (x : Txn) (st v g : Byte) (d : Time) (r : NodeRec) (h : Heater),
    s.statusTold d n x st v g → s.solePlant n .auxHeater → s.plant.defn.auxHeater = some n → h = s.plant.heater →
    u = { s with now := max s.now d } → b = s.stillAt d n v g →
    r = { s.node n with failCount := 0, value := some (.num v.toNat), nodeTarget := some g.toNat } →
    ∃ t, exec .closingQuietEnd s = .next t ∧
      (s.op.state = .run → (s.node n).state = .busy → stBusy st = false →
        ((s.node n).pending = none ∨ ∃ p, (s.node n).pending = some p ∧ p.argument = v.toNat) →
        (h.state = .igniting → h.stopMark = false →
          (v = 1#8 → heaterLights (max s.now d) t) ∧ (v = 0#8 → heaterFailed s (max s.now d) t)) ∧
        (h.state = .igniting → h.stopMark = true →
          (v = 1#8 → t.plant.heater = h.still .stopping ∧ t.arb = s.arb ∧ (s.takesIn n .move → t.askedMove n 0)) ∧
          (v = 0#8 → ∃ w, offOrStarted b h w ∧ lineFreed w t)) ∧
        (h.state = .running →
          (v = 0#8 → heaterFailed s (max s.now d) t ∧
            t.arb.heat.capacity = min 64 (s.plant.coolant * s.plant.defn.coolantUnits)) ∧
          (v = 1#8 → lineFreed (u.setNode n (stillRecord (s.node n) v.toNat g.toNat)) t)) ∧
        (h.state = .stopping →
          (v = 0#8 → ∃ w, offOrStarted b h w ∧ lineFreed w t) ∧
          (v = 1#8 → t.plant.heater = h ∧ (s.takesIn n .move → t.askedMove n 0)))) ∧
      (s.op.state = .run → (s.node n).state = .busy → stBusy st = false → h.state = .igniting → h.stopMark = true →
        v = 1#8 → ∀ o, (s.node n).pending = some ⟨0, o⟩ → s.takesIn n .move →
        t.plant.heater = h.still .stopping ∧ t.askedMove n 0) ∧
      (s.op.state = .run → (s.node n).state = .ready → Origin.plant ∈ x.origins → h.state = .running →
        (stBusy st = false → v = 0#8 → h.checkAsked = true → heaterFailed s (max s.now d) t ∧
          t.arb.heat.capacity = min 64 (s.plant.coolant * s.plant.defn.coolantUnits)) ∧
        (stBusy st = false → (v ≠ 0#8 ∨ h.checkAsked = false) → lineFreed (u.setNode n r) t) ∧
        (stBusy st = true → lineFreed (u.setNode n (busyRecord u r)) t)) ∧
      (s.op.state = .stopping → (s.node n).state ∈ [NodeState.ready, .busy] → stBusy st = false →
        (s.node n).pending = none → Origin.shutdown ∈ x.origins → h.state = .stopping →
        (v = 0#8 → t.plant.heater = h.still .off ∧
          t.op.state = (if s.plant.seq.state.atRest = true ∧ s.op.soft = .none then .stopped else .stopping)) ∧
        (v = 1#8 → t.plant.heater = h ∧
          (¬ s.broadcastAsked .move → s.takesIn n .move → t.askedMoveBy n 0 .shutdown) ∧
          (s.broadcastAsked .move → lineFreed
            (u.setNode n (if (s.node n).state = .ready then r else stillRecord (s.node n) v.toNat g.toNat)) t)))) ∧
  (∀ (s u b : State) (n : NodeId) (x : Txn) (st a : Byte) (d : Time) (h : Heater),
    s.answered d n x st [a] → x.cmd = .move → s.solePlant n .auxHeater → s.plant.defn.auxHeater = some n →
    (s.node n).kind = some .auxheat → (s.node n).state = .ready → s.noMove n → h = s.plant.heater →
    u = { s with now := max s.now d } →
    b = (s.reporting d).setNode n { s.node n with failCount := 0, target := some 0, value := some (.num 0) } →
    ∃ t, exec .closingQuietEnd s = .next t ∧
      (s.op.state = .run → x.origin ≠ .commission → h.state = .igniting → h.stopMark = false → x.argument = 1 →
        (stBusy st = false → stSequence st = false → a = 1#8 → heaterLights (max s.now d) t) ∧
        (stBusy st = true → stSequence st = false → a = 1#8 →
          lineFreed (u.setNode n (busyRecord u { s.node n with failCount := 0, target := some 1 })) t) ∧
        (stBusy st = true → stSequence st = true → a = 0xFF#8 →
          lineFreed (u.setNode n
            (busyRecord u { s.node n with failCount := 0, pending := some ⟨1, x.origin⟩ })) t) ∧
        (stBusy st = false → stSequence st = true → a = 0xFF#8 →
          lineFreed
            (State.setNode
              { u with
                plant := { s.plant with heater := h.still .off }, cond := { s.cond with auxLockout := false } } n
              { s.node n with failCount := 0 }) t)) ∧
      (s.op.state = .run → h.state = .stopping → x.argument = 0 → stBusy st = false →
        (stSequence st = false → a = 0#8 → ∃ w, offOrStarted b h w ∧ lineFreed w t) ∧
        (stSequence st = true → a = 0xFF#8 → (s.node n).value = some (.num 1) →
          t.plant.heater = h ∧ (s.takesIn n .move → t.askedMove n 0))) ∧
      (s.op.state = .commissioning → x.origin = .commission → stBusy st = true → s.op.done[n] = false →
        (s.node n).configured = true →
        ((stSequence st = false ∧ a = byteOf x.argument) ∨ (stSequence st = true ∧ a = 0xFF#8)) →
        (t.node n).state = .busy ∧ t.plant.heater = h.still .stopping ∧
        t.work n = (if s.op.soft = .none then .moveDone else s.work n))) ∧
  (∀ (s u : State) (n : NodeId) (x : Txn) (st v g : Byte) (d : Time) (k : Nat),
    s.statusTold d n x st v g → (s.node n).binding = some (.plant .intake) → s.op.state ≠ .commissioning →
    (s.node n).state = .busy → stBusy st = false → (s.node n).pending = none → s.plant.intakeTarget = some k →
    u = { s with now := max s.now d } →
    ∃ t, exec .closingQuietEnd s = .next t ∧
      ((s.op.state = .stopping ∨ s.plant.defn.intake ≠ some n ∨ (s.node n).target = some k) →
        lineFreed (u.setNode n (stillRecord (s.node n) v.toNat g.toNat)) t) ∧
      (s.op.state ∈ [PartState.run, .stopped] → s.plant.defn.intake = some n → (s.node n).target ≠ some k →
        s.takesIn n .move → t.askedMoveBy n k .plant)) ∧
  (∀ (s : State) (n : NodeId) (x : Txn) (st j ver : Byte) (d : Time) (k : Nat),
    s.identified d n x st j ver → (s.node n).binding = some (.plant .intake) → s.plant.defn.intake = some n →
    s.op.state ∈ [PartState.run, .stopped] → s.plant.intakeTarget = some k → s.noMove n → (s.node n).target ≠ some k →
    ∃ t, exec .closingQuietEnd s = .next t ∧ (t.node n).state = .ready ∧
      (s.takesIn n .move → t.askedMoveBy n k .plant)) ∧
  (∀ (s : State) (n : NodeId) (x : Txn) (st : Byte) (data : List Byte) (d : Time) (why : FaultReason),
    s.faultyReply d n x st data why → x.noReading → (s.node n).binding = some (.plant .auxHeater) →
    s.plant.defn.auxHeater = some n → s.op.state ≠ .commissioning →
    ∃ t, exec .closingQuietEnd s = .next t ∧ (t.node n).state = .fault ∧ (t.node n).faultReason = some why ∧
      t.cond.nodeFault = ⟨true, min 255 (s.cond.nodeFault.count + 1), some n.address⟩ ∧ heaterNodeLost s t) ∧
  (∀ (s : State) (n : NodeId) (x : Txn) (st k ver : Byte) (d : Time) (h : Heater) (lit : Prop),
    s.identified d n x st k ver → (s.node n).binding = some (.plant .auxHeater) → s.plant.defn.auxHeater = some n →
    s.op.state ≠ .commissioning → h = s.plant.heater →
    ((s.node n).state = .starting → (s.node n).cause ∈ [some StartCause.revival, some .retry]) →
    (lit ↔ (s.node n).value = some (.num 1)) →
    ∃ t, exec .closingQuietEnd s = .next t ∧ (t.node n).state = .ready ∧
      (h.state = .off →
        ((lit ∨ s.moveAtReady n 1) → t.plant.heater = h.still .stopping ∧ (s.takesIn n .move → t.askedMove n 0)) ∧
        (¬ (lit ∨ s.moveAtReady n 1) →
          (h.permit = true → s.op.state = .run → s.plant.viewHeat.nonEmpty = true →
            t.plant.heater = h.still .igniting ∧ (s.takesIn n .move → t.askedMove n 1)) ∧
          (¬ (h.permit = true ∧ s.op.state = .run ∧ s.plant.viewHeat.nonEmpty = true) → t.plant.heater = h))) ∧
      (h.state ∈ [HeaterState.igniteWait, .lockedOut] →
        t.plant.heater = h ∧ (lit → s.takesIn n .move → t.askedMove n 0)))

/-- R148, R149, R130, R19, R160: what the replies for a node in STARTING do. A WAKE without IN_START leads to the IDENT;
a failed WAKE or IDENT, or one with IN_START, counts one, and the thirtieth puts the node in OFFLINE; an IDENT of the
node's kind ends the start-up in READY, where a start-up that is no commissioning one restores the last taken target
before the zone is told; another kind, FAULT, ILLEGAL and RANGE put it in FAULT. In COMMISSIONING the end leads to the
initial MOVE, or for a SENSOR to the done mark, but not from a RESTART on, which ends the sequence (R162; DEDUCED, log
61); and where the intake's URGENT initial MOVE displaces the last MOVE of another node from a full queue, that node is
settled and has its done mark. R159: for a node that was BUSY at entry to COMMISSIONING, the STATUS that ends its busy
period begins its start-up, whatever becomes of its pending move (of a MOVE left by an earlier commissioning: DEDUCED,
log 29). R134: a MOVE that was in flight as the start-up began writes the target it took, and the
value where the node stood there already, and a refused one puts the node in FAULT, but for an AUXHEAT node; BUSY
changes no state (DEDUCED, log 19). The model's choice (log 2): the event takes the clock to its own time. -/
def Obligations.StartUpReplies : Prop :=
  (∀ (s u : State) (n : NodeId) (x : Txn) (st a : Byte) (d : Time) (r : NodeRec),
    s.answered d n x st [a] → x.cmd = .move → (s.node n).state = .starting → s.followed →
    u = { s with now := max s.now d } → r = { s.node n with failCount := 0 } →
    ∃ t, exec .closingQuietEnd s = .next t ∧
      (stBusy st = true → stSequence st = false → a = byteOf x.argument →
        lineFreed (u.setNode n { r with target := some x.argument }) t) ∧
      (stBusy st = false → stSequence st = false → a = byteOf x.argument →
        lineFreed (u.setNode n { r with target := some x.argument, value := some (.num x.argument) }) t) ∧
      (stSequence st = true → a = 0xFF#8 → (stBusy st = true ∨ r.kind = some .auxheat) →
        lineFreed (u.setNode n r) t) ∧
      (∀ why, (stSequence st = true ∧ stBusy st = false ∧ a = 0xFF#8 ∧ r.kind ≠ some .auxheat ∧
            why = FaultReason.refusedMove) ∨
          (stSequence st = true ∧ a ≠ 0xFF#8 ∧ why = .illegalReply) ∨
          (stSequence st = false ∧ a ≠ byteOf x.argument ∧ why = .illegalReply) →
        (t.node n).state = .fault ∧ (t.node n).faultReason = some why ∧
        t.cond.nodeFault = ⟨true, min 255 (s.cond.nodeFault.count + 1), some n.address⟩ ∧
        (r.binding = none → s.op.state ≠ .commissioning →
          lineFreed (u.faulted n (faultedRecord r why)) t))) ∧
  (∀ (s u : State) (n : NodeId) (x : Txn) (st : Byte) (data : List Byte) (d : Time) (r : NodeRec),
    s.replied d n x st data → (s.node n).state = .starting → s.op.state ≠ .commissioning →
    x.cmd ∈ [Command.wake, .ident] → u = { s with now := max s.now d } → r = { s.node n with failCount := 0 } →
    ∃ t, exec .closingQuietEnd s = .next t ∧
      (stInStart st = true → ∀ f, f = (if x.cmd = .wake then { r with wakeCount := r.wakeCount + 1 }
          else { r with
            wakeCount := r.wakeCount + 1, startStep := .wake, wakeTimer := some (max s.now d + 100 * Config.ms) }) →
        (r.wakeCount + 1 < 30 → lineFreed (u.setNode n f) t) ∧
        (30 ≤ r.wakeCount + 1 → r.binding = none → lineFreed (u.offlined n f) t)) ∧
      (stInStart st = false → r.binding = none →
        (stFault st = true → lineFreed (u.faulted n (faultedRecord r .nodeReported)) t) ∧
        (stFault st = false → (stIllegal st = true ∨ stRange st = true) →
          lineFreed (u.faulted n (faultedRecord r .illegalReply)) t)) ∧
      (stInStart st = false → stFault st = false → stIllegal st = false → stRange st = false →
        (x.cmd = .wake → r.startStep = .wake → s.queued n .ident = false → s.nodes.queue.length < 16 →
          lineFreed
            (State.setNode
              { u with nodes := { u.nodes with
                queue := s.nodes.queue ++ [⟨some n, .ident, 0, false,
                  if r.cause = some .commission then .commission else .wake, []⟩] } } n
              { r with startStep := .ident }) t) ∧
        (∀ k ver, x.cmd = .ident → data = [k, ver] →
          ((kindOfByte k ≠ r.kind ∨ r.kind = none) → r.binding = none →
            lineFreed (u.faulted n (faultedRecord r .kindMismatch)) t) ∧
          (∀ q b, kindOfByte k = r.kind → r.kind ≠ none → s.nodes.queue.length < 16 →
            (∀ role, r.binding ≠ some (.plant role)) →
            q = (match r.target with
              | none => s.nodes.queue
              | some a =>
                if r.cause ∈ [some StartCause.restart, some .revival, some .retry] ∧ s.queued n .move = false then
                  s.nodes.queue ++ [⟨some n, .move, a, false, .restore, []⟩]
                else s.nodes.queue) →
            b = State.setNode
              { s.reporting d with nodes := { s.nodes with queue := q } } n
              { r with state := .ready, version := some ver, wakeTimer := none } →
            (r.binding = none → lineFreed b t) ∧
            (∀ z role, r.binding = some (.zone z role) → role ≠ .sensor → s.op.state = .run →
              (s.zone z).active = true →
              (r.cause = some .restart → lineFreed (b.zoneTargets z) t) ∧
              (r.cause ∈ [some StartCause.revival, some .retry] → ∃ v, Evaluated b z v ∧ lineFreed v t)))))) ∧
  (∀ (s u : State) (c : Instr) (d : Time) (n : NodeId) (x : Txn) (f : NodeRec), s.secondFails c d n x →
    (s.node n).state = .starting → s.op.state ≠ .commissioning → x.cmd ∈ [Command.wake, .ident] →
    u = { s with now := max s.now d } →
    f = (if x.cmd = .wake then { s.node n with wakeCount := (s.node n).wakeCount + 1 }
      else { s.node n with
        wakeCount := (s.node n).wakeCount + 1, startStep := .wake
        wakeTimer := some (max s.now d + 100 * Config.ms) }) →
    ∃ t, exec c s = .next t ∧
      ((s.node n).wakeCount + 1 < 30 → lineFreed (u.setNode n f) t) ∧
      (30 ≤ (s.node n).wakeCount + 1 → (s.node n).binding = none → lineFreed (u.offlined n f) t)) ∧
  (∀ (s : State) (n : NodeId) (x : Txn) (st k ver : Byte) (d : Time),
    s.answered d n x st [k, ver] → x.cmd = .ident → (s.node n).state = .starting → s.op.state = .commissioning →
    (s.node n).cause = some .commission → s.work n = .startUp → kindOfByte k = (s.node n).kind →
    (s.node n).kind ≠ none → (s.node n).configured = true → s.op.done[n] = false →
    ((s.node n).binding = some (.plant .intake) ∨ ∀ role, (s.node n).binding ≠ some (.plant role)) →
    ∃ t, exec .closingQuietEnd s = .next t ∧
      (s.op.soft ≠ .none → lineFreed
        (State.setNode { s with now := max s.now d } n
          { s.node n with failCount := 0, state := .ready, version := some ver, wakeTimer := none }) t) ∧
      (s.op.soft = .none → (s.node n).kind ≠ some .sensor → s.takesIn n .move →
        (t.node n).state = .ready ∧ t.work n = .moveAsked ∧
        t.askedMoveBy n (if (s.node n).binding = some (.plant .intake) then s.plant.minFreshAir else 0) .commission) ∧
      (s.op.soft = .none → (s.node n).kind = some .sensor → s.op.haltSent = false →
        (t.node n).state = .ready ∧ t.op.done[n] = true) ∧
      (s.op.soft = .none → (s.node n).kind ≠ some .sensor → (s.node n).binding = some (.plant .intake) →
        s.queued n .move = false → ∀ m q e, m ≠ n → s.nodes.queue = q ++ [e] → 16 ≤ s.nodes.queue.length →
        e = ⟨some m, .move, e.argument, false, .restore, []⟩ → (∀ y ∈ q, ¬ (y.node = some m ∧ y.cmd = .move)) →
        s.work m = .moveDone → (s.node m).state = .ready → (s.node m).pending = none →
        t.op.done[m] = true ∧ t.askedMoveBy n s.plant.minFreshAir .commission)) ∧
  (∀ (s : State) (n : NodeId) (x : Txn) (st v g : Byte) (d : Time),
    s.answered d n x st [v, g] → x.cmd = .status → (s.node n).state = .busy → stBusy st = false →
    valueFits (s.node n).kind v.toNat = true → valueFits (s.node n).kind g.toNat = true →
    s.op.state = .commissioning → s.op.soft = .none → s.work n = .waitBusy → (s.node n).configured = true →
    s.op.done[n] = false →
    ((s.node n).binding = some (.plant .intake) ∨ ∀ role, (s.node n).binding ≠ some (.plant role)) →
    ∃ t, exec .closingQuietEnd s = .next t ∧ t.op.state = .commissioning ∧ t.work n = .startUp ∧
      (t.node n).state = .starting ∧ (t.node n).cause = some .commission ∧ (t.node n).startStep = .wake ∧
      (t.node n).wakeCount = 0 ∧ (t.node n).pending = none ∧
      (s.nodes.queue.length < 15 → t.asked n .wake))

/-- R145, R149, R130, R16, R18: IN_START from a READY or BUSY node, to any command but WAKE, is a restart: STARTING with
cause RESTART, the pending move dropped, the timers stopped, READ and STATUS entries gone, a READ told to its zone as
failed, and the WAKE asked. The WAKE of a revival puts an OFFLINE node in STARTING with cause REVIVAL, at its IDENT step or,
with IN_START, counted as the first WAKE, after which the next waits for the wake timer (log 26); FAULT puts it in FAULT; a
failed one changes nothing. The model's choices: ILLEGAL or RANGE without IN_START puts an OFFLINE node in FAULT (DEDUCED,
log 44), and the event takes the clock to its own time (log 2). -/
def Obligations.RestartAndRevival : Prop :=
  (∀ (s u : State) (n : NodeId) (x : Txn) (st : Byte) (data : List Byte) (d : Time) (r : NodeRec),
    s.replied d n x st data → stInStart st = true → x.cmd ≠ .wake → s.op.state ≠ .commissioning →
    ((s.node n).state = .ready ∨ (s.node n).state = .busy) → u = { s with now := max s.now d } →
    r = startRecord u { s.node n with failCount := 0 } .restart 0 .wake →
    ∃ t, exec .closingQuietEnd s = .next t ∧
      (x.cmd ≠ .read → (x.cmd = .move → x.origin ≠ .commission ∧ ∀ role, (s.node n).binding ≠ some (.plant role)) →
        startBegun u n r (some (.wake, .wake)) t) ∧
      (∀ z, x.cmd = .read → x.origins = [.zone z] → s.op.state = .run → (s.zone z).active = true → ∀ b,
        b = State.setNode
          { s.reporting d with
            nodes := { s.nodes with
              queue := s.nodes.queue.filter (fun e => !(decide (e.node = some n) &&
                (decide (e.cmd = .read) || decide (e.cmd = .status)))) } } n r →
        ∃ v, failedReadOf b z v ∧ lineFreed (v.askOwn n .wake .wake) t)) ∧
  (∀ (s u : State) (n : NodeId) (x : Txn) (st : Byte) (data : List Byte) (d : Time) (r : NodeRec),
    s.replied d n x st data → x.cmd = .wake → (s.node n).state = .offline → s.op.state ≠ .commissioning →
    u = { s with now := max s.now d } → r = { s.node n with failCount := 0 } →
    ∃ t, exec .closingQuietEnd s = .next t ∧
      (stFault st = false → stInStart st = true → startBegun u n (startRecord u r .revival 1 .wake) none t) ∧
      (stFault st = false → stInStart st = false → stIllegal st = false → stRange st = false →
        startBegun u n (startRecord u r .revival 0 .ident) (some (.ident, .wake)) t) ∧
      (stFault st = true → r.binding = none → lineFreed (u.faulted n (faultedRecord r .nodeReported)) t) ∧
      (stFault st = false → stInStart st = false → (stIllegal st = true ∨ stRange st = true) → r.binding = none →
        lineFreed (u.faulted n (faultedRecord r .illegalReply)) t)) ∧
  (∀ (s : State) (c : Instr) (d : Time) (n : NodeId) (x : Txn), s.secondFails c d n x →
    (s.node n).state = .offline → s.op.state ≠ .commissioning →
    ∃ t, exec c s = .next t ∧ lineFreed { s with now := max s.now d } t)

/-- R147, R130, R151, R19: the outcomes of a retry of a node in FAULT. NODE_RESET answered in any way, and a STATUS with
IN_START, begin a start-up with cause RETRY; FAULT, ILLEGAL and RANGE, and an IDENT of another kind, give the reason and
end the retry; a good STATUS writes value and node target and asks the IDENT; an IDENT of the node's kind ends the fault
in READY, told to the zone as a return, or in BUSY where the STATUS said so; a failed transaction ends the retry. No
condition is raised. What the READY of a plant node then does at the sequencer, the heater and the intake is said with
their replies. The model's choice (log 2): the event takes the clock to its own time. -/
def Obligations.RetryReplies : Prop :=
  (∀ (s u : State) (n : NodeId) (x : Txn) (st : Byte) (data : List Byte) (d : Time) (r : NodeRec),
    s.replied d n x st data → (s.node n).state = .fault → Origin.retry ∈ x.origins → s.op.state ≠ .commissioning →
    u = { s with now := max s.now d } → r = { s.node n with failCount := 0 } →
    ∃ t, exec .closingQuietEnd s = .next t ∧
      ((x.cmd = .nodeReset ∨ (x.cmd = .status ∧ stInStart st = true)) →
        startBegun u n (startRecord u r .retry 0 .wake) (some (.wake, .wake)) t) ∧
      (x.cmd ∈ [Command.status, .ident] → stInStart st = false →
        (stFault st = true →
          lineFreed (u.setNode n { r with faultReason := some .nodeReported, retryStep := none }) t) ∧
        (stFault st = false → (stIllegal st = true ∨ stRange st = true) →
          lineFreed (u.setNode n { r with faultReason := some .illegalReply, retryStep := none }) t)) ∧
      (stInStart st = false → stFault st = false → stIllegal st = false → stRange st = false →
        (∀ v g, x.cmd = .status → data = [v, g] → r.kind ≠ some .sensor → valueFits r.kind v.toNat = true →
          valueFits r.kind g.toNat = true → s.queued n .ident = false → s.nodes.queue.length < 16 →
          lineFreed
            (State.setNode
              { u with nodes := { u.nodes with queue := s.nodes.queue ++ [⟨some n, .ident, 0, false, .retry, []⟩] } } n
              { r with
                value := some (.num v.toNat), nodeTarget := some g.toNat
                retryStep := some (.ident (stBusy st)) }) t) ∧
        (∀ k ver, x.cmd = .ident → data = [k, ver] →
          ((kindOfByte k ≠ r.kind ∨ r.kind = none) →
            lineFreed (u.setNode n { r with faultReason := some .kindMismatch, retryStep := none }) t) ∧
          (∀ f, kindOfByte k = r.kind → r.kind ≠ none →
            f = { r with faultReason := none, retryStep := none, version := some ver } →
            (r.retryStep = some (.ident true) → s.queued n .move = false →
              lineFreed (u.setNode n { busyRecord u f with busyFromFault := true }) t) ∧
            (r.retryStep ≠ some (.ident true) → r.binding = none →
              lineFreed (u.setNode n { f with state := .ready }) t) ∧
            (r.retryStep ≠ some (.ident true) → ∀ z role, r.binding = some (.zone z role) → role ≠ .sensor →
              s.op.state = .run → (s.zone z).active = true →
              ∃ v, Evaluated ((s.reporting d).setNode n { f with state := .ready }) z v ∧ lineFreed v t))))) ∧
  (∀ (s : State) (c : Instr) (d : Time) (n : NodeId) (x : Txn), s.secondFails c d n x →
    (s.node n).state = .fault → Origin.retry ∈ x.origins → s.op.state ≠ .commissioning →
    ∃ t, exec c s = .next t ∧
      lineFreed (State.setNode { s with now := max s.now d } n { s.node n with retryStep := none }) t)

/-- R121, R157, R166, R161: the end of a broadcast: the line is free; the HALT of commissioning sets its mark, and with
every node done the part enters RUN, but not from a RESTART on, which ends the sequence (R162; DEDUCED, log 61); the
broadcast of a soft reset ends in the reset values with cause RESTART. The model's choices: the event takes the clock to its
own time (log 2), and the HALT of an earlier commissioning that is still in flight sets the mark too (log 54). -/
def Obligations.BroadcastEnds : Prop :=
  ∀ (s u : State) (d : Time) (x : Txn), s.held = false → s.line.phase = .broadcastWait → s.line.timer = some d →
    s.line.txn = some x → u = { s with now := max s.now d } →
    ∃ t, exec .broadcastWaitEnd s = .next t ∧
      (s.op.soft ≠ .broadcast → ¬ (x.cmd = .halt ∧ x.origin = .commission) → lineFreed u t) ∧
      (s.op.soft ≠ .broadcast → x.cmd = .halt → x.origin = .commission →
        (s.op.state ≠ .commissioning ∨ s.op.soft ≠ .none ∨
          ∃ n, (s.node n).configured = true ∧ s.op.done[n] = false) →
        lineFreed { u with op := { s.op with haltSent := true } } t) ∧
      (s.op.soft = .none → x.cmd = .halt → x.origin = .commission → s.op.state = .commissioning →
        (∀ n : NodeId, (s.node n).configured = true → s.op.done[n] = true) →
        t.op.state = .run ∧ t.op.entered = u.now ∧ t.cond.commissionDone =
          ⟨true, min 255 (s.cond.commissionDone.count + 1), none⟩ ∧
        (∀ z, (s.zone z).active = true →
          (t.zone z).loopTimer = some (u.now + z.number * 250 * Config.ms))) ∧
      (s.op.soft = .broadcast → ∀ r, exec (.hardReset .power) u = .next r →
        t = { r with op := { r.op with cause := .restart } })

/-! ## Computations and invariants -/

/-- R7, R12 to R14, R29: a zone's demand. S is the temporary setpoint where one is present and the plan setpoint
otherwise, and the effective mode is that of the top entry of the stack, where a BASE entry gives the base mode. The demand
from error compares S with the measured temperature; it is NONE, 0 where the sensor is LOST or the temperature absent. The
effective mode gives the rule: NONE, 0 in OFF and VENT, the demand from error in AUTO, its HEAT alone in HEAT_ONLY and its
COOL alone in COOL_ONLY, in PURGE the base mode's rule, and in DEFOG HEAT with a want of wmax and claim rank 3. HEAT with no
valve that can serve, and COOL with no damper that can, gives NONE, 0: no node, or one in OFFLINE or FAULT. NONE goes with
a want of 0, for a wmax in its range (R4). Under CURTAIN no demand is computed: an evaluation is the target computation
alone, and the zone keeps its record. -/
def Obligations.DemandFromError : Prop :=
  (∀ r : ZoneRec,
    (∀ v, r.tempSetpoint = some v → r.setpoint = v) ∧ (r.tempSetpoint = none → r.setpoint = r.planSetpoint) ∧
    (∀ e q, r.stack = e :: q →
      (e.kind = .base → r.effMode =
        match r.baseMode with
        | .off => .off
        | .auto => .auto
        | .heatOnly => .heatOnly
        | .coolOnly => .coolOnly
        | .vent => .vent) ∧
      (e.kind = .curtain → r.effMode = .curtain) ∧ (e.kind = .purge → r.effMode = .purge) ∧
      (e.kind = .defog → r.effMode = .defog)) ∧
    (r.effMode = .defog → r.demandRank = 3) ∧ (r.effMode ≠ .defog → r.demandRank = r.rank)) ∧
  (∀ (r : ZoneRec) (temp e db : Int), r.sensorStatus ≠ .lost → r.temperature = some temp → e = r.setpoint - temp →
    db = r.deadband →
    (db < e → r.fromError = (.heat, min r.wmax ((e - db) / 5 + 1).toNat)) ∧
    (e < -db → r.fromError = (.cool, min r.wmax ((-e - db) / 5 + 1).toNat)) ∧
    (-db ≤ e → e ≤ db → r.fromError = (.none, 0))) ∧
  (∀ r : ZoneRec, (r.sensorStatus = .lost ∨ r.temperature = none) → r.fromError = (.none, 0)) ∧
  (∀ (s : State) (z : Zone) (r : ZoneRec) (f g : Direction × Nat), r = s.zone z → f = r.fromError →
    r.effMode ≠ .curtain → ruleGives r f g →
    (g.1 = .heat → ¬ s.serves r.valve → s.demand z = (.none, 0)) ∧
    (g.1 = .cool → ¬ s.serves r.damper → s.demand z = (.none, 0)) ∧
    ((g.1 = .heat → s.serves r.valve) → (g.1 = .cool → s.serves r.damper) → s.demand z = g) ∧
    (1 ≤ r.wmax → ((s.demand z).1 = .none ↔ (s.demand z).2 = 0))) ∧
  (∀ (s : State) (z : Zone), (s.zone z).effMode = .curtain →
    s.evaluate z = s.zoneTargets z ∧ (s.evaluate z).zone z = s.zone z)

/-- R22, R23, R138 to R141: the targets of a zone's actuators by its effective mode; where the grant is at most wmax, no
target of a grant exceeds 100. A target computation of an active zone in RUN compares each target with the latest
commanded value, and asks a MOVE of the target where they differ and nothing where they are equal: an entry of the queue
for a READY or STARTING node (in place of the argument of one that is queued, which an URGENT one takes to the end of the
URGENT class), the pending move of a BUSY node, and dropped for any other; a NORMAL one that finds the queue full is
forgotten, and an URGENT one displaces the last NORMAL entry. The model's choices: blower, valve, damper in this order
(log 40), the hand-over to a free line at once (log 11), that a displaced HALT is owed (DEDUCED, log 39), and that a
displaced MOVE of an earlier commissioning owes nothing (DEDUCED, log 29). -/
def Obligations.TargetsAreComputedAndAsked : Prop :=
  (∀ (r : ZoneRec) (tn : ZoneTuning) (g : Option (PoolId × Nat)),
    (r.effMode = .off → r.blowerTarget tn g = 0) ∧
    (r.effMode = .vent → r.blowerTarget tn g = tn.ventLevel) ∧
    (r.effMode ∈ [EffMode.auto, .heatOnly, .coolOnly] →
      r.blowerTarget tn g = max tn.minBlower ((match g with | none => 0 | some (_, u) => u) * 100 / r.wmax)) ∧
    (r.effMode ∈ [EffMode.purge, .defog, .curtain] → r.blowerTarget tn g = 100) ∧
    (∀ i, r.effMode ∈ [EffMode.off, .vent] → r.grantTarget i g = 0) ∧
    (∀ i, r.effMode ∉ [EffMode.off, .vent] →
      (∀ u, g = some (i, u) → r.grantTarget i g = u * 100 / r.wmax ∧ (u ≤ r.wmax → r.grantTarget i g ≤ 100)) ∧
      ((∀ u, g ≠ some (i, u)) → r.grantTarget i g = 0))) ∧
  (∀ (s : State) (z : Zone) (r : ZoneRec) (g : Option (PoolId × Nat)), r = s.zone z → g = s.arb.grantOf z →
    (¬ (s.op.state = .run ∧ r.active = true) → s.zoneTargets z = s) ∧
    (s.op.state = .run → r.active = true → s.zoneTargets z =
      ((s.moveTo r.blower (r.blowerTarget s.zones.tuning g) (.zone z)).moveTo r.valve (r.grantTarget .heat g)
        (.zone z)).moveTo r.damper (r.grantTarget .cool g) (.zone z))) ∧
  (∀ (s : State) (n : NodeId) (q : Option Entry),
    q = s.nodes.queue.find? (fun e => decide (e.node = some n) && decide (e.cmd = .move)) →
    (∀ e, q = some e → s.latestCommanded n = some e.argument) ∧
    (∀ m, q = none → (s.node n).pending = some m → s.latestCommanded n = some m.argument) ∧
    (q = none → (s.node n).pending = none → s.latestCommanded n = (s.node n).target)) ∧
  (∀ (s t : State) (n : NodeId) (a : Nat) (o : Origin), s.moveTo none a o = s ∧
    (s.latestCommanded n = some a → s.moveTo (some n) a o = s) ∧
    (s.latestCommanded n ≠ some a → t = s.moveTo (some n) a o →
      ((s.node n).state ∈ [NodeState.unknown, .offline, .fault] → t = s) ∧
      ((s.node n).state = .busy → t = s.setNode n { s.node n with pending := some ⟨a, o⟩ }) ∧
      ((s.node n).state ∈ [NodeState.ready, .starting] →
        (∀ p e q, s.nodes.queue = p ++ e :: q → e.node = some n → e.cmd = .move →
          (∀ x ∈ p ++ q, ¬ (x.node = some n ∧ x.cmd = .move)) → (s.plantBound n = false ∨ e.urgent = true) →
          queueBecomes s (p ++ { e with argument := a, origin := o } :: q) t) ∧
        (∀ p e q x y, s.nodes.queue = p ++ e :: q → e.node = some n → e.cmd = .move →
          (∀ x ∈ p ++ q, ¬ (x.node = some n ∧ x.cmd = .move)) → s.plantBound n = true → e.urgent = false →
          p ++ q = x ++ y → (∀ b ∈ x, b.urgent = true) → (∀ b ∈ y, b.urgent = false) →
          queueBecomes s (x ++ { e with argument := a, origin := o, urgent := true } :: y) t) ∧
        ((∀ x ∈ s.nodes.queue, ¬ (x.node = some n ∧ x.cmd = .move)) →
          (s.nodes.queue.length < 16 → s.plantBound n = false →
            queueBecomes s (s.nodes.queue ++ [⟨some n, .move, a, false, o, []⟩]) t) ∧
          (s.nodes.queue.length < 16 → s.plantBound n = true → ∀ p q, s.nodes.queue = p ++ q →
            (∀ x ∈ p, x.urgent = true) → (∀ x ∈ q, x.urgent = false) →
            queueBecomes s (p ++ ⟨some n, .move, a, true, o, []⟩ :: q) t) ∧
          (16 ≤ s.nodes.queue.length → s.plantBound n = false → (∃ z, o = .zone z) →
            queueBecomes s s.nodes.queue t) ∧
          (16 ≤ s.nodes.queue.length → s.plantBound n = true → ∀ p q v, s.nodes.queue = p ++ (q ++ [v]) →
            (∀ x ∈ p, x.urgent = true) → (∀ x ∈ q ++ [v], x.urgent = false) →
            ∃ w, displaced s v w ∧ queueBecomes w (p ++ ⟨some n, .move, a, true, o, []⟩ :: q) t)))))

/-- R21, R64, R68, R69, R80, R81, R83, R96, R102: the notices of an arbiter event: each zone whose grant changed, but for
the zone that settled, makes its target computation; then the plant controller takes the new view of HEAT and of COOL where
it changed: the stop-delay and stage-down conditions are tested, and a queue that became non-empty starts an OFF heater,
engages the compressor or steps it up where the other conditions hold. A capacity write is one such event. The model's
choices: the zones in ascending number, then HEAT, then COOL (log 10), and a minimum run that has expired stands so in
ENGAGING, until that step is complete (log 50). -/
def Obligations.ArbiterEventSendsItsNotices : Prop :=
  (∀ (s : State) (before : Arbiter) (z : Option Zone), ∃ u v,
    takenInTurn (fun a y b => b = a.zoneTargets y)
      (allZones.filter (fun y => decide (z ≠ some y) && decide (before.grantOf y ≠ s.arb.grantOf y))) s u ∧
    v = u.hearHeat before ∧ s.notices before z = v.hearCool before) ∧
  (∀ (s w t : State) (before : Arbiter) (h : Heater), t = s.hearHeat before →
    (before.heat.view = s.arb.heat.view → t = s) ∧
    (before.heat.view ≠ s.arb.heat.view → w = { s with plant := { s.plant with viewHeat := s.arb.heat.view } } →
      h = s.plant.heater →
      (h.state = .running →
        (s.arb.heat.claims = [] → s.arb.heat.grantedTotal ≤ s.plant.coolant * s.plant.defn.coolantUnits →
          (h.stopDelayTimer = none → t = w.setHeater
            { h with stopDelayTimer := some (s.now + s.plant.stopDelay * Config.second) }) ∧
          (h.stopDelayTimer ≠ none → t = w)) ∧
        (¬ (s.arb.heat.claims = [] ∧ s.arb.heat.grantedTotal ≤ s.plant.coolant * s.plant.defn.coolantUnits) →
          t = w.setHeater { h with stopDelayTimer := none })) ∧
      (h.state = .off → h.permit = true → s.op.state = .run → s.auxReady = true →
        before.heat.claims = [] → s.arb.heat.claims ≠ [] →
        NodeSide { w with
          plant := { w.plant with heater := h.still .igniting }, cond := { w.cond with auxLockout := false } } t ∧
        ∀ n, s.plant.defn.auxHeater = some n → s.takesIn n .move → t.askedMove n 1) ∧
      (h.state ≠ .running → ¬ (h.state = .off ∧ h.permit = true ∧ s.op.state = .run ∧ s.auxReady = true ∧
        before.heat.claims = [] ∧ s.arb.heat.claims ≠ []) → t = w))) ∧
  (∀ (s w t : State) (before : Arbiter) (q : Sequencer), t = s.hearCool before →
    (before.cool.view = s.arb.cool.view → t = s) ∧
    (before.cool.view ≠ s.arb.cool.view → w = { s with plant := { s.plant with viewCool := s.arb.cool.view } } →
      q = s.plant.seq →
      (q.state = .off → 1 ≤ s.allowedStages → s.compressorReady = true → before.cool.claims = [] →
        s.arb.cool.claims ≠ [] →
        NodeSide (w.setSequencer { q with
          state := .engaging, holdTimer := none, holdMet := false, lockoutTimer := none, pollTimer := none
          checkAsked := false }) t ∧
        ∀ n, s.plant.defn.compressor = some n → s.takesIn n .move → t.askedMove n 1) ∧
      (∀ k, q.state = .running k →
        (s.arb.cool.claims ≠ [] → before.cool.claims = [] → k < s.allowedStages → s.compressorReady = true →
          NodeSide (w.setSequencer { q with
            state := .stepUp k, holdTimer := none, holdMet := false, lockoutTimer := none, pollTimer := none
            checkAsked := false }) t ∧
          ∀ n, s.plant.defn.compressor = some n → s.takesIn n .move → t.askedMove n (k + 1)) ∧
        (s.arb.cool.claims ≠ [] →
          ¬ (before.cool.claims = [] ∧ k < s.allowedStages ∧ s.compressorReady = true) →
          t = w.setSequencer { q with holdTimer := none, holdMet := false }) ∧
        (s.arb.cool.claims = [] →
          (s.arb.cool.grantedTotal + s.plant.defn.stageUnits k ≤ s.arb.cool.capacity →
            (q.holdTimer = none → q.holdMet = false → t = w.setSequencer
              { q with holdTimer := some (s.now + s.plant.defn.stageDownHold * Config.second) }) ∧
            (¬ (q.holdTimer = none ∧ q.holdMet = false) → t = w)) ∧
          (s.arb.cool.capacity < s.arb.cool.grantedTotal + s.plant.defn.stageUnits k →
            t = w.setSequencer { q with holdTimer := none, holdMet := false }))) ∧
      ((∀ k, q.state ≠ .running k) →
        ¬ (q.state = .off ∧ 1 ≤ s.allowedStages ∧ s.compressorReady = true ∧ before.cool.claims = [] ∧
          s.arb.cool.claims ≠ []) → t = w))) ∧
  (∀ (s : State) (i : PoolId) (v : Nat),
    (v = (s.arb.pool i).capacity → s.writeCapacity i v = s) ∧
    (v ≠ (s.arb.pool i).capacity → s.writeCapacity i v =
      State.notices { s with arb := s.arb.writeCapacity i v (fun z => (s.zone z).claimRank) s.now } s.arb none))

/-- R20, R52 to R56: a settlement makes the changes of the row that fits the zone's grant and claim, and then one pass in
each pool that it touched; a claim filed stands last in its rank group under a fresh number; one updated keeps its place
when its rank stays, and takes a fresh number and the end of its new group when it changes; a return keeps the grant
number, and a record that reaches 0 is removed. At its end the zone's grant and claim in its direction's pool make up its
want, and it holds nothing in the other. The model's choice (log 13): the pool left has its pass first. -/
def Obligations.SettlementByItsRows : Prop :=
  (∀ (a : Arbiter) (z : Zone) (d : Direction) (w rank : Nat) (now : Time), a.sound →
    (d = .none → (∀ i, ¬ (a.pool i).concerns z) → a.settle z d w rank now = a) ∧
    (∀ i, (a.pool i).concerns z →
      (d.pool ≠ some i → ∀ b, b = (a.giveBack i z ((a.pool i).unitsOf z)).withdraw i z →
        (d = .none → a.settle z d w rank now = b.pass i) ∧
        (∀ j, d.pool = some j → a.settle z d w rank now = ((b.file j z w rank now).pass i).pass j)) ∧
      (d.pool = some i → ∀ g, g = (a.pool i).unitsOf z →
        ((a.pool i).claimOf z = none →
          (w < g → a.settle z d w rank now = (a.giveBack i z (g - w)).pass i) ∧
          (w = g → a.settle z d w rank now = a) ∧
          (g < w → a.settle z d w rank now = (a.file i z (w - g) rank now).pass i)) ∧
        (∀ c, (a.pool i).claimOf z = some c →
          (w ≤ g → a.settle z d w rank now = ((a.giveBack i z (g - w)).withdraw i z).pass i) ∧
          (g < w → c.units = w - g → c.rank = rank → a.settle z d w rank now = a) ∧
          (g < w → ¬ (c.units = w - g ∧ c.rank = rank) →
            a.settle z d w rank now = (a.update i c (w - g) rank).pass i)))) ∧
    (∀ i, d.pool = some i → (∀ j, ¬ (a.pool j).concerns z) →
      a.settle z d w rank now = (a.file i z w rank now).pass i) ∧
    (∀ t, t = a.settle z d w rank now →
      (d = .none → ∀ i, ¬ (t.pool i).concerns z) ∧
      (∀ i, d.pool = some i → 1 ≤ w →
        (t.pool i).unitsOf z + (match (t.pool i).claimOf z with | none => 0 | some c => c.units) = w ∧
        ∀ j, j ≠ i → ¬ (t.pool j).concerns z))) ∧
  (∀ (a t : Arbiter) (i : PoolId) (z : Zone) (u rank : Nat) (now : Time) (p q : List Claim),
    a.counter < 4294967295 → (a.pool i).claims = p ++ q → (∀ x ∈ p, rank ≤ x.rank) → (∀ x ∈ q, x.rank < rank) →
    t = a.file i z u rank now →
    t.counter = a.counter + 1 ∧
    t.pool i = { a.pool i with claims := p ++ ⟨z, u, rank, a.counter + 1, 0, now, false⟩ :: q } ∧
    ∀ j, j ≠ i → t.pool j = a.pool j) ∧
  (∀ (a t : Arbiter) (i : PoolId) (c : Claim) (u rank : Nat), t = a.update i c u rank →
    (c.rank = rank → t = a.setPool i { a.pool i with
      claims := (a.pool i).claims.map (fun x => if x.zone = c.zone then { x with units := u } else x) }) ∧
    (c.rank ≠ rank → a.counter < 4294967295 → ∀ p q,
      (a.pool i).claims.filter (fun x => x.zone ≠ c.zone) = p ++ q → (∀ x ∈ p, rank ≤ x.rank) →
      (∀ x ∈ q, x.rank < rank) →
      t.counter = a.counter + 1 ∧
      t.pool i = { a.pool i with
        claims := p ++ ⟨c.zone, u, rank, a.counter + 1, 0, c.filed, c.saturated⟩ :: q } ∧
      ∀ j, j ≠ i → t.pool j = a.pool j)) ∧
  (∀ (a : Arbiter) (i : PoolId) (z : Zone) (u : Nat),
    a.withdraw i z = a.setPool i { a.pool i with claims := (a.pool i).claims.filter (fun x => x.zone ≠ z) } ∧
    a.giveBack i z u = a.setPool i { a.pool i with
      grants := ((a.pool i).grants.map (fun g => if g.zone = z then { g with units := g.units - u } else g)).filter
        (fun g => ¬ (g.zone = z ∧ g.units = 0)) })

/-- R49, R58 to R61: what a grant pass does. A claim is taken exactly when the pass goes past the claims before it (those it
leaves stand below a passed count of 3, and none that stood at 2 has a claim taken behind it) and its units fit in what
the claims taken before it leave free; its units join its zone's grant under a fresh number, counted on in queue order. A
claim that is left keeps its place and all it holds, and its passed count is one more exactly where a claim behind it is
taken. A pass that takes nothing changes nothing. -/
def Obligations.GrantPassServesTheQueue : Prop :=
  ∀ (a t : Arbiter) (i : PoolId) (took : Claim → Bool), a.sound →
    a.counter + (a.pool i).claims.length ≤ 4294967295 → t = a.pass i →
    (∀ c, took c = ((t.pool i).claimOf c.zone).isNone) →
    (∀ pre c post, (a.pool i).claims = pre ++ c :: post →
      (took c = true ↔
        passReaches took pre ∧ c.units + ((pre.filter took).map Claim.units).sum ≤ (a.pool i).free) ∧
      (took c = true → (t.pool i).grantOf c.zone =
        some ⟨c.zone, (a.pool i).unitsOf c.zone + c.units, a.counter + 1 + (pre.filter took).length⟩) ∧
      (took c = false → (t.pool i).claimOf c.zone =
        some { c with passed := if post.any took then c.passed + 1 else c.passed })) ∧
    (t.pool i).claims.map Claim.zone = ((a.pool i).claims.filter (fun c => !took c)).map Claim.zone ∧
    (∀ z, (∀ c ∈ (a.pool i).claims, c.zone = z → took c = false) → (t.pool i).grantOf z = (a.pool i).grantOf z) ∧
    (t.pool i).capacity = (a.pool i).capacity ∧ (∀ j, j ≠ i → t.pool j = a.pool j) ∧
    t.saturationTime = a.saturationTime ∧ t.counter = a.counter + ((a.pool i).claims.filter took).length ∧
    ((∀ c ∈ (a.pool i).claims, took c = false) → t = a)

/-- R47, R48, R50, R62, R63: after a capacity write the pool holds the value, and what is granted is within it. The same
value changes nothing, a higher one runs a pass, a lower one that the grants fit in revokes nothing. One below the grants
takes the excess, lowest claim rank first and the newest grant first among equals, and puts each loss back as a claim, or
into the waiting claim up to 16 units, with a fresh number in the order of revocation, at the end of its rank group, filed
now, passed count 0, mark clear. A number needed at the last value of the counter renumbers every grant and claim, the
waiting claim that is re-filed included. -/
def Obligations.CapacityWriteAndRevocation : Prop :=
  (∀ (a : Arbiter) (i : PoolId) (v : Nat) (rankOf : Zone → Nat) (now : Time), a.sound →
        ((a.writeCapacity i v rankOf now).pool i).capacity = v ∧
        ((a.writeCapacity i v rankOf now).pool i).grantedTotal ≤ v ∧
        (v < (a.pool i).grantedTotal → ((a.writeCapacity i v rankOf now).pool i).grantedTotal = v)) ∧
  (∀ (a t : Arbiter) (i : PoolId) (v : Nat) (rankOf : Zone → Nat) (now : Time), t = a.writeCapacity i v rankOf now →
    (v = (a.pool i).capacity → t = a) ∧
    ((a.pool i).capacity < v → t = (a.setPool i { a.pool i with capacity := v }).pass i) ∧
    (v < (a.pool i).capacity → (a.pool i).grantedTotal ≤ v → t = a.setPool i { a.pool i with capacity := v })) ∧
  (∀ (a t : Arbiter) (i : PoolId) (v : Nat) (rankOf : Zone → Nat) (now : Time) (loss : Grant → Nat), a.sound →
    v < (a.pool i).grantedTotal → a.counter + 24 ≤ 4294967295 →
    (∀ g ∈ (a.pool i).grants, 1 ≤ g.units ∧ g.units ≤ 16) →
    (a.pool i).grants.Pairwise (fun g b => g.number ≠ b.number) →
    (∀ g, loss g = lossOf rankOf (a.pool i).grants ((a.pool i).grantedTotal - v) g) →
    t = a.writeCapacity i v rankOf now →
    (∀ g ∈ (a.pool i).grants,
      (loss g = g.units → (t.pool i).grantOf g.zone = none) ∧
      (loss g < g.units → (t.pool i).grantOf g.zone = some { g with units := g.units - loss g }) ∧
      (0 < loss g → (t.pool i).claimOf g.zone =
        some ⟨g.zone,
          min 16 ((match (a.pool i).claimOf g.zone with | none => 0 | some c => c.units) + loss g), rankOf g.zone,
          a.counter + 1 + ((a.pool i).grants.filter (fun b => takenBefore rankOf b g)).length, 0, now, false⟩) ∧
      (loss g = 0 → (t.pool i).claimOf g.zone = (a.pool i).claimOf g.zone)) ∧
    (∀ z, (a.pool i).grantOf z = none →
      (t.pool i).grantOf z = none ∧ (t.pool i).claimOf z = (a.pool i).claimOf z) ∧
    (inQueueOrder (a.pool i).claims → (∀ c ∈ (a.pool i).claims, c.arrival ≤ a.counter) →
      inQueueOrder (t.pool i).claims) ∧
    (∀ j, j ≠ i → t.pool j = a.pool j)) ∧
  (∀ a : Arbiter,
    (a.counter < 4294967295 → a.tick = { a with counter := a.counter + 1 }) ∧
    (4294967295 ≤ a.counter → a.tick.counter = a.numbers.length + 1 ∧ ∀ i,
      a.tick.pool i =
        { a.pool i with
          grants := (a.pool i).grants.map (fun g => { g with number := a.placeOf g.number })
          claims := (a.pool i).claims.map (fun c => { c with arrival := a.placeOf c.arrival }) }) ∧
    (∀ i z u rank now c, (a.pool i).claimOf z = some c → (a.pool i).claims.Pairwise (fun x y => x.zone ≠ y.zone) →
      ((a.refile i z u rank now).pool i).claimOf z =
        some ⟨z, min 16 (c.units + u), rank,
          if a.counter < 4294967295 then a.counter + 1 else a.numbers.length + 1, 0, now, false⟩))

/-- The four invariants hold right after power-up and after every hard reset. -/
def Obligations.InvariantsHoldAtReset : Prop :=
  (State.reset.levelsFollowCauses ∧ State.reset.queueSound ∧ State.reset.arb.sound ∧ State.reset.nodesSound) ∧
  ∀ (s t : State) (k : HardCause), exec (.hardReset k) s = .next t →
    t.levelsFollowCauses ∧ t.queueSound ∧ t.arb.sound ∧ t.nodesSound

/-- R179, R94, R73, R153: every step keeps the three level conditions exactly as their causes stand. -/
def Obligations.EveryStepKeepsTheLevels : Prop :=
  ∀ s t : State, s.levelsFollowCauses → step s = .next t → t.levelsFollowCauses

/-- R133, R136: every step keeps the transaction queue in order: at most 16 entries, no two of one node and command,
URGENT before NORMAL. -/
def Obligations.EveryStepKeepsTheQueue : Prop :=
  ∀ s t : State, s.queueSound → step s = .next t → t.queueSound

/-- R46 to R51, R58 to R62: every step keeps the pools: no more granted than the capacity, one grant and one claim of a
zone in one pool alone, the claims in rank order. -/
def Obligations.EveryStepKeepsThePools : Prop :=
  ∀ s t : State, s.arb.sound → step s = .next t → t.arb.sound

/-- R128, R132, R141, R145, R148: every step keeps the node records: timers in the states they belong to, a pending move
only in BUSY. -/
def Obligations.EveryStepKeepsTheNodes : Prop :=
  ∀ s t : State, s.nodesSound → step s = .next t → t.nodesSound
end

