-- ==== Sys2Proof/Laws/Arbiter.lean ====
section
/-! SUPPORT. What the arbiter's operations keep: the two capacities and the saturation time, by all of them but the
capacity write, which writes one; and the capacity write on pools that are empty. -/
namespace Sys2Proof.Machine

/-- Capacities and saturation time as before. -/
structure SameSize (a b : Arbiter) : Prop where
  heat : b.heat.capacity = a.heat.capacity
  cool : b.cool.capacity = a.cool.capacity
  saturationTime : b.saturationTime = a.saturationTime

theorem SameSize.refl (a : Arbiter) : SameSize a a := ⟨rfl, rfl, rfl⟩

theorem SameSize.trans {a b c : Arbiter} (x : SameSize a b) (y : SameSize b c) : SameSize a c :=
  ⟨y.heat.trans x.heat, y.cool.trans x.cool, y.saturationTime.trans x.saturationTime⟩

theorem SameSize.pool {a b : Arbiter} (h : SameSize a b) (i : PoolId) : (b.pool i).capacity = (a.pool i).capacity := by
  cases i
  · exact h.heat
  · exact h.cool

/-- A pool replaced by one of the same capacity. -/
theorem SameSize.setPool (a : Arbiter) (i : PoolId) (p : Pool) (h : p.capacity = (a.pool i).capacity) :
    SameSize a (a.setPool i p) := by
  cases i
  · exact ⟨h, rfl, rfl⟩
  · exact ⟨rfl, h, rfl⟩

theorem SameSize.tick (a : Arbiter) : SameSize a a.tick := by
  unfold Arbiter.tick Arbiter.readyNumber
  split <;> exact ⟨rfl, rfl, rfl⟩

theorem SameSize.withdraw (a : Arbiter) (i : PoolId) (z : Zone) : SameSize a (a.withdraw i z) :=
  SameSize.setPool a i _ rfl

theorem SameSize.giveBack (a : Arbiter) (i : PoolId) (z : Zone) (u : Nat) : SameSize a (a.giveBack i z u) :=
  SameSize.setPool a i _ rfl

theorem SameSize.file (a : Arbiter) (i : PoolId) (z : Zone) (u r : Nat) (now : Time) :
    SameSize a (a.file i z u r now) :=
  (SameSize.tick a).trans (SameSize.setPool _ i _ rfl)

theorem SameSize.moveClaim (a : Arbiter) (i : PoolId) (z : Zone) (u r : Nat) (f : Time) (m : Bool) :
    SameSize a (a.moveClaim i z u r f m) :=
  (SameSize.tick a).trans (SameSize.setPool _ i _ rfl)

theorem SameSize.update (a : Arbiter) (i : PoolId) (c : Claim) (u r : Nat) : SameSize a (a.update i c u r) := by
  unfold Arbiter.update
  split
  · exact SameSize.setPool a i _ rfl
  · exact SameSize.moveClaim a i _ _ _ _ _

theorem Pool.addGrant_capacity (p : Pool) (z : Zone) (u n : Nat) : (p.addGrant z u n).capacity = p.capacity := by
  unfold Pool.addGrant
  split <;> rfl

theorem SameSize.grantClaim (a : Arbiter) (i : PoolId) (c : Claim) : SameSize a (a.grantClaim i c) :=
  ((SameSize.withdraw a i c.zone).trans (SameSize.tick _)).trans
    (SameSize.setPool _ i _ (Pool.addGrant_capacity _ _ _ _))

theorem SameSize.walk (i : PoolId) (fuel : Nat) :
    ∀ (place raised : Nat) (a : Arbiter), SameSize a (Arbiter.walk i fuel place raised a) := by
  induction fuel with
  | zero => exact fun _ _ a => SameSize.refl a
  | succ fuel ih =>
    intro place raised a
    unfold Arbiter.walk
    split
    · exact SameSize.refl a
    · rename_i c _
      split
      · have h := (SameSize.grantClaim a i c).trans
          (SameSize.setPool (a.grantClaim i c) i
            { (a.grantClaim i c).pool i with
              claims := raisePassed raised place ((a.grantClaim i c).pool i).claims } rfl)
        dsimp only
        split
        · exact h
        · exact h.trans (ih _ _ _)
      · split
        · exact ih _ _ a
        · exact SameSize.refl a

theorem SameSize.pass (a : Arbiter) (i : PoolId) : SameSize a (a.pass i) := SameSize.walk i _ 0 0 a

theorem SameSize.release (a : Arbiter) (i : PoolId) (z : Zone) : SameSize a (a.release i z) :=
  (SameSize.giveBack a i z _).trans (SameSize.withdraw _ i z)

theorem SameSize.settleWithin (a : Arbiter) (i : PoolId) (z : Zone) (w r : Nat) (now : Time) :
    SameSize a (a.settleWithin i z w r now) := by
  unfold Arbiter.settleWithin
  dsimp only
  split
  · split
    · exact (SameSize.giveBack a i z _).trans (SameSize.pass _ i)
    · split
      · exact SameSize.refl a
      · exact (SameSize.file a i z _ r now).trans (SameSize.pass _ i)
  · split
    · exact ((SameSize.giveBack a i z _).trans (SameSize.withdraw _ i z)).trans (SameSize.pass _ i)
    · split
      · exact SameSize.refl a
      · exact (SameSize.update a i _ _ r).trans (SameSize.pass _ i)

theorem SameSize.settle (a : Arbiter) (z : Zone) (d : Direction) (w r : Nat) (now : Time) :
    SameSize a (a.settle z d w r now) := by
  unfold Arbiter.settle
  split
  · exact SameSize.refl a
  · exact (SameSize.release a _ z).trans (SameSize.pass _ _)
  · exact (SameSize.file a _ z w r now).trans (SameSize.pass _ _)
  · split
    · exact SameSize.settleWithin a _ z w r now
    · exact (((SameSize.release a _ z).trans (SameSize.file _ _ z w r now)).trans (SameSize.pass _ _)).trans
        (SameSize.pass _ _)

theorem SameSize.refile (a : Arbiter) (i : PoolId) (z : Zone) (u r : Nat) (now : Time) :
    SameSize a (a.refile i z u r now) := by
  unfold Arbiter.refile
  split
  · exact SameSize.file a i z u r now
  · exact SameSize.moveClaim a i z _ r now false

theorem SameSize.revoke (i : PoolId) (f : Zone → Nat) (now : Time) (fuel : Nat) :
    ∀ (e : Nat) (a : Arbiter), SameSize a (Arbiter.revoke i f now fuel e a) := by
  induction fuel with
  | zero => exact fun _ a => SameSize.refl a
  | succ fuel ih =>
    intro e a
    unfold Arbiter.revoke
    split
    · exact SameSize.refl a
    · split
      · exact SameSize.refl a
      · exact ((SameSize.giveBack a i _ _).trans (SameSize.refile _ i _ _ _ now)).trans (ih _ _)

/-- R47: the pool written holds the value; the other pool and the saturation time are kept. -/
theorem Arbiter.writeCapacity_sizes (a : Arbiter) (i : PoolId) (v : Nat) (f : Zone → Nat) (now : Time) :
    SameSize (a.setPool i { a.pool i with capacity := v }) (a.writeCapacity i v f now) := by
  unfold Arbiter.writeCapacity
  dsimp only
  split
  · rename_i h
    subst h
    exact SameSize.symm_of_same a i
  · split
    · exact SameSize.pass _ i
    · split
      · exact SameSize.revoke i f now _ _ _
      · exact SameSize.refl _
where
  SameSize.symm_of_same (a : Arbiter) (i : PoolId) :
      SameSize (a.setPool i { a.pool i with capacity := (a.pool i).capacity }) a := by
    cases i <;> exact ⟨rfl, rfl, rfl⟩

theorem Arbiter.setPool_pool (a : Arbiter) (i : PoolId) (p : Pool) : (a.setPool i p).pool i = p := by
  cases i <;> rfl

theorem Arbiter.writeCapacity_capacity (a : Arbiter) (i : PoolId) (v : Nat) (f : Zone → Nat) (now : Time) :
    ((a.writeCapacity i v f now).pool i).capacity = v := by
  rw [(Arbiter.writeCapacity_sizes a i v f now).pool i, Arbiter.setPool_pool]

theorem Arbiter.writeCapacity_saturationTime (a : Arbiter) (i : PoolId) (v : Nat) (f : Zone → Nat) (now : Time) :
    (a.writeCapacity i v f now).saturationTime = a.saturationTime := by
  rw [(Arbiter.writeCapacity_sizes a i v f now).saturationTime]
  cases i <;> rfl

/-- Both pools are empty. -/
def Arbiter.empty (a : Arbiter) : Prop :=
  a.heat.grants = [] ∧ a.heat.claims = [] ∧ a.cool.grants = [] ∧ a.cool.claims = []

/-- R163: a capacity write over empty pools writes the capacity and nothing more. -/
theorem Arbiter.writeCapacity_empty (a : Arbiter) (i : PoolId) (v : Nat) (f : Zone → Nat) (now : Time)
    (h : a.empty) : a.writeCapacity i v f now = a.setPool i { a.pool i with capacity := v } := by
  obtain ⟨⟨hc, hg, hq⟩, ⟨cc, cg, cq⟩, n, st⟩ := a
  obtain ⟨h1, h2, h3, h4⟩ := h
  dsimp only at h1 h2 h3 h4
  subst h1 h2 h3 h4
  cases i <;> simp only [Arbiter.writeCapacity, Arbiter.pool, Arbiter.setPool, Arbiter.pass, Arbiter.walk,
    Pool.grantedTotal, List.map_nil, List.sum_nil, List.length_nil, Nat.not_lt_zero, if_false] <;>
    split <;> simp_all

end Sys2Proof.Machine
end

