-- ==== Sys2Proof/Laws/State.lean ====
section
/-! SUPPORT. One lemma per field per update of the state, each true by unfolding, so that no proof unfolds an update;
and the readings of a zone record, a node record and a work entry after a write. -/
namespace Sys2Proof.Machine

@[simp] theorem State.setZone_now (s : State) (z : Zone) (r : ZoneRec) :
    (s.setZone z r).now = s.now := rfl
@[simp] theorem State.setZone_held (s : State) (z : Zone) (r : ZoneRec) :
    (s.setZone z r).held = s.held := rfl
@[simp] theorem State.setZone_shedLine (s : State) (z : Zone) (r : ZoneRec) :
    (s.setZone z r).shedLine = s.shedLine := rfl
@[simp] theorem State.setZone_key (s : State) (z : Zone) (r : ZoneRec) :
    (s.setZone z r).key = s.key := rfl
@[simp] theorem State.setZone_zones (s : State) (z : Zone) (r : ZoneRec) :
    (s.setZone z r).zones = { s.zones with table := s.zones.table.set z.val r z.isLt } := rfl
@[simp] theorem State.setZone_arb (s : State) (z : Zone) (r : ZoneRec) :
    (s.setZone z r).arb = s.arb := rfl
@[simp] theorem State.setZone_plant (s : State) (z : Zone) (r : ZoneRec) :
    (s.setZone z r).plant = s.plant := rfl
@[simp] theorem State.setZone_nodes (s : State) (z : Zone) (r : ZoneRec) :
    (s.setZone z r).nodes = s.nodes := rfl
@[simp] theorem State.setZone_line (s : State) (z : Zone) (r : ZoneRec) :
    (s.setZone z r).line = s.line := rfl
@[simp] theorem State.setZone_op (s : State) (z : Zone) (r : ZoneRec) :
    (s.setZone z r).op = s.op := rfl
@[simp] theorem State.setZone_cond (s : State) (z : Zone) (r : ZoneRec) :
    (s.setZone z r).cond = s.cond := rfl
@[simp] theorem State.setZone_port (s : State) (z : Zone) (r : ZoneRec) :
    (s.setZone z r).port = s.port := rfl
@[simp] theorem State.setZone_pending (s : State) (z : Zone) (r : ZoneRec) :
    (s.setZone z r).pending = s.pending := rfl

@[simp] theorem State.setNode_now (s : State) (n : NodeId) (r : NodeRec) :
    (s.setNode n r).now = s.now := rfl
@[simp] theorem State.setNode_held (s : State) (n : NodeId) (r : NodeRec) :
    (s.setNode n r).held = s.held := rfl
@[simp] theorem State.setNode_shedLine (s : State) (n : NodeId) (r : NodeRec) :
    (s.setNode n r).shedLine = s.shedLine := rfl
@[simp] theorem State.setNode_key (s : State) (n : NodeId) (r : NodeRec) :
    (s.setNode n r).key = s.key := rfl
@[simp] theorem State.setNode_zones (s : State) (n : NodeId) (r : NodeRec) :
    (s.setNode n r).zones = s.zones := rfl
@[simp] theorem State.setNode_arb (s : State) (n : NodeId) (r : NodeRec) :
    (s.setNode n r).arb = s.arb := rfl
@[simp] theorem State.setNode_plant (s : State) (n : NodeId) (r : NodeRec) :
    (s.setNode n r).plant = s.plant := rfl
@[simp] theorem State.setNode_nodes (s : State) (n : NodeId) (r : NodeRec) :
    (s.setNode n r).nodes = { s.nodes with table := s.nodes.table.set n.val r n.isLt } := rfl
@[simp] theorem State.setNode_line (s : State) (n : NodeId) (r : NodeRec) :
    (s.setNode n r).line = s.line := rfl
@[simp] theorem State.setNode_op (s : State) (n : NodeId) (r : NodeRec) :
    (s.setNode n r).op = s.op := rfl
@[simp] theorem State.setNode_cond (s : State) (n : NodeId) (r : NodeRec) :
    (s.setNode n r).cond = s.cond := rfl
@[simp] theorem State.setNode_port (s : State) (n : NodeId) (r : NodeRec) :
    (s.setNode n r).port = s.port := rfl
@[simp] theorem State.setNode_pending (s : State) (n : NodeId) (r : NodeRec) :
    (s.setNode n r).pending = s.pending := rfl

@[simp] theorem State.setArb_now (s : State) (a : Arbiter) :
    (s.setArb a).now = s.now := rfl
@[simp] theorem State.setArb_held (s : State) (a : Arbiter) :
    (s.setArb a).held = s.held := rfl
@[simp] theorem State.setArb_shedLine (s : State) (a : Arbiter) :
    (s.setArb a).shedLine = s.shedLine := rfl
@[simp] theorem State.setArb_key (s : State) (a : Arbiter) :
    (s.setArb a).key = s.key := rfl
@[simp] theorem State.setArb_zones (s : State) (a : Arbiter) :
    (s.setArb a).zones = s.zones := rfl
@[simp] theorem State.setArb_arb (s : State) (a : Arbiter) :
    (s.setArb a).arb = a := rfl
@[simp] theorem State.setArb_plant (s : State) (a : Arbiter) :
    (s.setArb a).plant = s.plant := rfl
@[simp] theorem State.setArb_nodes (s : State) (a : Arbiter) :
    (s.setArb a).nodes = s.nodes := rfl
@[simp] theorem State.setArb_line (s : State) (a : Arbiter) :
    (s.setArb a).line = s.line := rfl
@[simp] theorem State.setArb_op (s : State) (a : Arbiter) :
    (s.setArb a).op = s.op := rfl
@[simp] theorem State.setArb_cond (s : State) (a : Arbiter) :
    (s.setArb a).cond = s.cond := rfl
@[simp] theorem State.setArb_port (s : State) (a : Arbiter) :
    (s.setArb a).port = s.port := rfl
@[simp] theorem State.setArb_pending (s : State) (a : Arbiter) :
    (s.setArb a).pending = s.pending := rfl

@[simp] theorem State.setPlant_now (s : State) (p : Plant) :
    (s.setPlant p).now = s.now := rfl
@[simp] theorem State.setPlant_held (s : State) (p : Plant) :
    (s.setPlant p).held = s.held := rfl
@[simp] theorem State.setPlant_shedLine (s : State) (p : Plant) :
    (s.setPlant p).shedLine = s.shedLine := rfl
@[simp] theorem State.setPlant_key (s : State) (p : Plant) :
    (s.setPlant p).key = s.key := rfl
@[simp] theorem State.setPlant_zones (s : State) (p : Plant) :
    (s.setPlant p).zones = s.zones := rfl
@[simp] theorem State.setPlant_arb (s : State) (p : Plant) :
    (s.setPlant p).arb = s.arb := rfl
@[simp] theorem State.setPlant_plant (s : State) (p : Plant) :
    (s.setPlant p).plant = p := rfl
@[simp] theorem State.setPlant_nodes (s : State) (p : Plant) :
    (s.setPlant p).nodes = s.nodes := rfl
@[simp] theorem State.setPlant_line (s : State) (p : Plant) :
    (s.setPlant p).line = s.line := rfl
@[simp] theorem State.setPlant_op (s : State) (p : Plant) :
    (s.setPlant p).op = s.op := rfl
@[simp] theorem State.setPlant_cond (s : State) (p : Plant) :
    (s.setPlant p).cond = s.cond := rfl
@[simp] theorem State.setPlant_port (s : State) (p : Plant) :
    (s.setPlant p).port = s.port := rfl
@[simp] theorem State.setPlant_pending (s : State) (p : Plant) :
    (s.setPlant p).pending = s.pending := rfl

@[simp] theorem State.setSequencer_now (s : State) (q : Sequencer) :
    (s.setSequencer q).now = s.now := rfl
@[simp] theorem State.setSequencer_held (s : State) (q : Sequencer) :
    (s.setSequencer q).held = s.held := rfl
@[simp] theorem State.setSequencer_shedLine (s : State) (q : Sequencer) :
    (s.setSequencer q).shedLine = s.shedLine := rfl
@[simp] theorem State.setSequencer_key (s : State) (q : Sequencer) :
    (s.setSequencer q).key = s.key := rfl
@[simp] theorem State.setSequencer_zones (s : State) (q : Sequencer) :
    (s.setSequencer q).zones = s.zones := rfl
@[simp] theorem State.setSequencer_arb (s : State) (q : Sequencer) :
    (s.setSequencer q).arb = s.arb := rfl
@[simp] theorem State.setSequencer_plant (s : State) (q : Sequencer) :
    (s.setSequencer q).plant = { s.plant with seq := q } := rfl
@[simp] theorem State.setSequencer_nodes (s : State) (q : Sequencer) :
    (s.setSequencer q).nodes = s.nodes := rfl
@[simp] theorem State.setSequencer_line (s : State) (q : Sequencer) :
    (s.setSequencer q).line = s.line := rfl
@[simp] theorem State.setSequencer_op (s : State) (q : Sequencer) :
    (s.setSequencer q).op = s.op := rfl
@[simp] theorem State.setSequencer_cond (s : State) (q : Sequencer) :
    (s.setSequencer q).cond = s.cond := rfl
@[simp] theorem State.setSequencer_port (s : State) (q : Sequencer) :
    (s.setSequencer q).port = s.port := rfl
@[simp] theorem State.setSequencer_pending (s : State) (q : Sequencer) :
    (s.setSequencer q).pending = s.pending := rfl

@[simp] theorem State.setHeater_now (s : State) (h : Heater) :
    (s.setHeater h).now = s.now := rfl
@[simp] theorem State.setHeater_held (s : State) (h : Heater) :
    (s.setHeater h).held = s.held := rfl
@[simp] theorem State.setHeater_shedLine (s : State) (h : Heater) :
    (s.setHeater h).shedLine = s.shedLine := rfl
@[simp] theorem State.setHeater_key (s : State) (h : Heater) :
    (s.setHeater h).key = s.key := rfl
@[simp] theorem State.setHeater_zones (s : State) (h : Heater) :
    (s.setHeater h).zones = s.zones := rfl
@[simp] theorem State.setHeater_arb (s : State) (h : Heater) :
    (s.setHeater h).arb = s.arb := rfl
@[simp] theorem State.setHeater_plant (s : State) (h : Heater) :
    (s.setHeater h).plant = { s.plant with heater := h } := rfl
@[simp] theorem State.setHeater_nodes (s : State) (h : Heater) :
    (s.setHeater h).nodes = s.nodes := rfl
@[simp] theorem State.setHeater_line (s : State) (h : Heater) :
    (s.setHeater h).line = s.line := rfl
@[simp] theorem State.setHeater_op (s : State) (h : Heater) :
    (s.setHeater h).op = s.op := rfl
@[simp] theorem State.setHeater_cond (s : State) (h : Heater) :
    (s.setHeater h).cond = s.cond := rfl
@[simp] theorem State.setHeater_port (s : State) (h : Heater) :
    (s.setHeater h).port = s.port := rfl
@[simp] theorem State.setHeater_pending (s : State) (h : Heater) :
    (s.setHeater h).pending = s.pending := rfl

@[simp] theorem State.setQueue_now (s : State) (q : List Entry) :
    (s.setQueue q).now = s.now := rfl
@[simp] theorem State.setQueue_held (s : State) (q : List Entry) :
    (s.setQueue q).held = s.held := rfl
@[simp] theorem State.setQueue_shedLine (s : State) (q : List Entry) :
    (s.setQueue q).shedLine = s.shedLine := rfl
@[simp] theorem State.setQueue_key (s : State) (q : List Entry) :
    (s.setQueue q).key = s.key := rfl
@[simp] theorem State.setQueue_zones (s : State) (q : List Entry) :
    (s.setQueue q).zones = s.zones := rfl
@[simp] theorem State.setQueue_arb (s : State) (q : List Entry) :
    (s.setQueue q).arb = s.arb := rfl
@[simp] theorem State.setQueue_plant (s : State) (q : List Entry) :
    (s.setQueue q).plant = s.plant := rfl
@[simp] theorem State.setQueue_nodes (s : State) (q : List Entry) :
    (s.setQueue q).nodes = { s.nodes with queue := q } := rfl
@[simp] theorem State.setQueue_line (s : State) (q : List Entry) :
    (s.setQueue q).line = s.line := rfl
@[simp] theorem State.setQueue_op (s : State) (q : List Entry) :
    (s.setQueue q).op = s.op := rfl
@[simp] theorem State.setQueue_cond (s : State) (q : List Entry) :
    (s.setQueue q).cond = s.cond := rfl
@[simp] theorem State.setQueue_port (s : State) (q : List Entry) :
    (s.setQueue q).port = s.port := rfl
@[simp] theorem State.setQueue_pending (s : State) (q : List Entry) :
    (s.setQueue q).pending = s.pending := rfl

@[simp] theorem State.setLine_now (s : State) (l : Line) :
    (s.setLine l).now = s.now := rfl
@[simp] theorem State.setLine_held (s : State) (l : Line) :
    (s.setLine l).held = s.held := rfl
@[simp] theorem State.setLine_shedLine (s : State) (l : Line) :
    (s.setLine l).shedLine = s.shedLine := rfl
@[simp] theorem State.setLine_key (s : State) (l : Line) :
    (s.setLine l).key = s.key := rfl
@[simp] theorem State.setLine_zones (s : State) (l : Line) :
    (s.setLine l).zones = s.zones := rfl
@[simp] theorem State.setLine_arb (s : State) (l : Line) :
    (s.setLine l).arb = s.arb := rfl
@[simp] theorem State.setLine_plant (s : State) (l : Line) :
    (s.setLine l).plant = s.plant := rfl
@[simp] theorem State.setLine_nodes (s : State) (l : Line) :
    (s.setLine l).nodes = s.nodes := rfl
@[simp] theorem State.setLine_line (s : State) (l : Line) :
    (s.setLine l).line = l := rfl
@[simp] theorem State.setLine_op (s : State) (l : Line) :
    (s.setLine l).op = s.op := rfl
@[simp] theorem State.setLine_cond (s : State) (l : Line) :
    (s.setLine l).cond = s.cond := rfl
@[simp] theorem State.setLine_port (s : State) (l : Line) :
    (s.setLine l).port = s.port := rfl
@[simp] theorem State.setLine_pending (s : State) (l : Line) :
    (s.setLine l).pending = s.pending := rfl

@[simp] theorem State.setOp_now (s : State) (o : OpControl) :
    (s.setOp o).now = s.now := rfl
@[simp] theorem State.setOp_held (s : State) (o : OpControl) :
    (s.setOp o).held = s.held := rfl
@[simp] theorem State.setOp_shedLine (s : State) (o : OpControl) :
    (s.setOp o).shedLine = s.shedLine := rfl
@[simp] theorem State.setOp_key (s : State) (o : OpControl) :
    (s.setOp o).key = s.key := rfl
@[simp] theorem State.setOp_zones (s : State) (o : OpControl) :
    (s.setOp o).zones = s.zones := rfl
@[simp] theorem State.setOp_arb (s : State) (o : OpControl) :
    (s.setOp o).arb = s.arb := rfl
@[simp] theorem State.setOp_plant (s : State) (o : OpControl) :
    (s.setOp o).plant = s.plant := rfl
@[simp] theorem State.setOp_nodes (s : State) (o : OpControl) :
    (s.setOp o).nodes = s.nodes := rfl
@[simp] theorem State.setOp_line (s : State) (o : OpControl) :
    (s.setOp o).line = s.line := rfl
@[simp] theorem State.setOp_op (s : State) (o : OpControl) :
    (s.setOp o).op = o := rfl
@[simp] theorem State.setOp_cond (s : State) (o : OpControl) :
    (s.setOp o).cond = s.cond := rfl
@[simp] theorem State.setOp_port (s : State) (o : OpControl) :
    (s.setOp o).port = s.port := rfl
@[simp] theorem State.setOp_pending (s : State) (o : OpControl) :
    (s.setOp o).pending = s.pending := rfl

@[simp] theorem State.setCond_now (s : State) (c : CondBlock) :
    (s.setCond c).now = s.now := rfl
@[simp] theorem State.setCond_held (s : State) (c : CondBlock) :
    (s.setCond c).held = s.held := rfl
@[simp] theorem State.setCond_shedLine (s : State) (c : CondBlock) :
    (s.setCond c).shedLine = s.shedLine := rfl
@[simp] theorem State.setCond_key (s : State) (c : CondBlock) :
    (s.setCond c).key = s.key := rfl
@[simp] theorem State.setCond_zones (s : State) (c : CondBlock) :
    (s.setCond c).zones = s.zones := rfl
@[simp] theorem State.setCond_arb (s : State) (c : CondBlock) :
    (s.setCond c).arb = s.arb := rfl
@[simp] theorem State.setCond_plant (s : State) (c : CondBlock) :
    (s.setCond c).plant = s.plant := rfl
@[simp] theorem State.setCond_nodes (s : State) (c : CondBlock) :
    (s.setCond c).nodes = s.nodes := rfl
@[simp] theorem State.setCond_line (s : State) (c : CondBlock) :
    (s.setCond c).line = s.line := rfl
@[simp] theorem State.setCond_op (s : State) (c : CondBlock) :
    (s.setCond c).op = s.op := rfl
@[simp] theorem State.setCond_cond (s : State) (c : CondBlock) :
    (s.setCond c).cond = c := rfl
@[simp] theorem State.setCond_port (s : State) (c : CondBlock) :
    (s.setCond c).port = s.port := rfl
@[simp] theorem State.setCond_pending (s : State) (c : CondBlock) :
    (s.setCond c).pending = s.pending := rfl

@[simp] theorem State.setPort_now (s : State) (p : Port) :
    (s.setPort p).now = s.now := rfl
@[simp] theorem State.setPort_held (s : State) (p : Port) :
    (s.setPort p).held = s.held := rfl
@[simp] theorem State.setPort_shedLine (s : State) (p : Port) :
    (s.setPort p).shedLine = s.shedLine := rfl
@[simp] theorem State.setPort_key (s : State) (p : Port) :
    (s.setPort p).key = s.key := rfl
@[simp] theorem State.setPort_zones (s : State) (p : Port) :
    (s.setPort p).zones = s.zones := rfl
@[simp] theorem State.setPort_arb (s : State) (p : Port) :
    (s.setPort p).arb = s.arb := rfl
@[simp] theorem State.setPort_plant (s : State) (p : Port) :
    (s.setPort p).plant = s.plant := rfl
@[simp] theorem State.setPort_nodes (s : State) (p : Port) :
    (s.setPort p).nodes = s.nodes := rfl
@[simp] theorem State.setPort_line (s : State) (p : Port) :
    (s.setPort p).line = s.line := rfl
@[simp] theorem State.setPort_op (s : State) (p : Port) :
    (s.setPort p).op = s.op := rfl
@[simp] theorem State.setPort_cond (s : State) (p : Port) :
    (s.setPort p).cond = s.cond := rfl
@[simp] theorem State.setPort_port (s : State) (p : Port) :
    (s.setPort p).port = p := rfl
@[simp] theorem State.setPort_pending (s : State) (p : Port) :
    (s.setPort p).pending = s.pending := rfl

@[simp] theorem State.setWork_now (s : State) (n : NodeId) (w : CommWork) :
    (s.setWork n w).now = s.now := rfl
@[simp] theorem State.setWork_held (s : State) (n : NodeId) (w : CommWork) :
    (s.setWork n w).held = s.held := rfl
@[simp] theorem State.setWork_shedLine (s : State) (n : NodeId) (w : CommWork) :
    (s.setWork n w).shedLine = s.shedLine := rfl
@[simp] theorem State.setWork_key (s : State) (n : NodeId) (w : CommWork) :
    (s.setWork n w).key = s.key := rfl
@[simp] theorem State.setWork_zones (s : State) (n : NodeId) (w : CommWork) :
    (s.setWork n w).zones = s.zones := rfl
@[simp] theorem State.setWork_arb (s : State) (n : NodeId) (w : CommWork) :
    (s.setWork n w).arb = s.arb := rfl
@[simp] theorem State.setWork_plant (s : State) (n : NodeId) (w : CommWork) :
    (s.setWork n w).plant = s.plant := rfl
@[simp] theorem State.setWork_nodes (s : State) (n : NodeId) (w : CommWork) :
    (s.setWork n w).nodes = s.nodes := rfl
@[simp] theorem State.setWork_line (s : State) (n : NodeId) (w : CommWork) :
    (s.setWork n w).line = s.line := rfl
@[simp] theorem State.setWork_op (s : State) (n : NodeId) (w : CommWork) :
    (s.setWork n w).op = { s.op with work := s.op.work.set n.val w n.isLt } := rfl
@[simp] theorem State.setWork_cond (s : State) (n : NodeId) (w : CommWork) :
    (s.setWork n w).cond = s.cond := rfl
@[simp] theorem State.setWork_port (s : State) (n : NodeId) (w : CommWork) :
    (s.setWork n w).port = s.port := rfl
@[simp] theorem State.setWork_pending (s : State) (n : NodeId) (w : CommWork) :
    (s.setWork n w).pending = s.pending := rfl

@[simp] theorem State.reach_now (s : State) (t : Time) :
    (s.reach t).now = max s.now t := rfl
@[simp] theorem State.reach_held (s : State) (t : Time) :
    (s.reach t).held = s.held := rfl
@[simp] theorem State.reach_shedLine (s : State) (t : Time) :
    (s.reach t).shedLine = s.shedLine := rfl
@[simp] theorem State.reach_key (s : State) (t : Time) :
    (s.reach t).key = s.key := rfl
@[simp] theorem State.reach_zones (s : State) (t : Time) :
    (s.reach t).zones = s.zones := rfl
@[simp] theorem State.reach_arb (s : State) (t : Time) :
    (s.reach t).arb = s.arb := rfl
@[simp] theorem State.reach_plant (s : State) (t : Time) :
    (s.reach t).plant = s.plant := rfl
@[simp] theorem State.reach_nodes (s : State) (t : Time) :
    (s.reach t).nodes = s.nodes := rfl
@[simp] theorem State.reach_line (s : State) (t : Time) :
    (s.reach t).line = s.line := rfl
@[simp] theorem State.reach_op (s : State) (t : Time) :
    (s.reach t).op = s.op := rfl
@[simp] theorem State.reach_cond (s : State) (t : Time) :
    (s.reach t).cond = s.cond := rfl
@[simp] theorem State.reach_port (s : State) (t : Time) :
    (s.reach t).port = s.port := rfl
@[simp] theorem State.reach_pending (s : State) (t : Time) :
    (s.reach t).pending = s.pending := rfl

@[simp] theorem State.raise_now (s : State) (c : StickyCond) (i : Option Nat) :
    (s.raise c i).now = s.now := rfl
@[simp] theorem State.raise_held (s : State) (c : StickyCond) (i : Option Nat) :
    (s.raise c i).held = s.held := rfl
@[simp] theorem State.raise_shedLine (s : State) (c : StickyCond) (i : Option Nat) :
    (s.raise c i).shedLine = s.shedLine := rfl
@[simp] theorem State.raise_key (s : State) (c : StickyCond) (i : Option Nat) :
    (s.raise c i).key = s.key := rfl
@[simp] theorem State.raise_zones (s : State) (c : StickyCond) (i : Option Nat) :
    (s.raise c i).zones = s.zones := rfl
@[simp] theorem State.raise_arb (s : State) (c : StickyCond) (i : Option Nat) :
    (s.raise c i).arb = s.arb := rfl
@[simp] theorem State.raise_plant (s : State) (c : StickyCond) (i : Option Nat) :
    (s.raise c i).plant = s.plant := rfl
@[simp] theorem State.raise_nodes (s : State) (c : StickyCond) (i : Option Nat) :
    (s.raise c i).nodes = s.nodes := rfl
@[simp] theorem State.raise_line (s : State) (c : StickyCond) (i : Option Nat) :
    (s.raise c i).line = s.line := rfl
@[simp] theorem State.raise_op (s : State) (c : StickyCond) (i : Option Nat) :
    (s.raise c i).op = s.op := rfl
@[simp] theorem State.raise_cond (s : State) (c : StickyCond) (i : Option Nat) :
    (s.raise c i).cond = s.cond.setSticky c ((s.cond.sticky c).raised i) := rfl
@[simp] theorem State.raise_port (s : State) (c : StickyCond) (i : Option Nat) :
    (s.raise c i).port = s.port := rfl
@[simp] theorem State.raise_pending (s : State) (c : StickyCond) (i : Option Nat) :
    (s.raise c i).pending = s.pending := rfl

@[simp] theorem State.viewShed_now (s : State) (b : Bool) :
    (s.viewShed b).now = s.now := rfl
@[simp] theorem State.viewShed_held (s : State) (b : Bool) :
    (s.viewShed b).held = s.held := rfl
@[simp] theorem State.viewShed_shedLine (s : State) (b : Bool) :
    (s.viewShed b).shedLine = s.shedLine := rfl
@[simp] theorem State.viewShed_key (s : State) (b : Bool) :
    (s.viewShed b).key = s.key := rfl
@[simp] theorem State.viewShed_zones (s : State) (b : Bool) :
    (s.viewShed b).zones = s.zones := rfl
@[simp] theorem State.viewShed_arb (s : State) (b : Bool) :
    (s.viewShed b).arb = s.arb := rfl
@[simp] theorem State.viewShed_plant (s : State) (b : Bool) :
    (s.viewShed b).plant = { s.plant with shedView := b } := rfl
@[simp] theorem State.viewShed_nodes (s : State) (b : Bool) :
    (s.viewShed b).nodes = s.nodes := rfl
@[simp] theorem State.viewShed_line (s : State) (b : Bool) :
    (s.viewShed b).line = s.line := rfl
@[simp] theorem State.viewShed_op (s : State) (b : Bool) :
    (s.viewShed b).op = s.op := rfl
@[simp] theorem State.viewShed_cond (s : State) (b : Bool) :
    (s.viewShed b).cond = { s.cond with shedActive := b } := rfl
@[simp] theorem State.viewShed_port (s : State) (b : Bool) :
    (s.viewShed b).port = s.port := rfl
@[simp] theorem State.viewShed_pending (s : State) (b : Bool) :
    (s.viewShed b).pending = s.pending := rfl

@[simp] theorem State.enterPart_now (s : State) (p : PartState) :
    (s.enterPart p).now = s.now := rfl
@[simp] theorem State.enterPart_held (s : State) (p : PartState) :
    (s.enterPart p).held = s.held := rfl
@[simp] theorem State.enterPart_shedLine (s : State) (p : PartState) :
    (s.enterPart p).shedLine = s.shedLine := rfl
@[simp] theorem State.enterPart_key (s : State) (p : PartState) :
    (s.enterPart p).key = s.key := rfl
@[simp] theorem State.enterPart_zones (s : State) (p : PartState) :
    (s.enterPart p).zones = s.zones := rfl
@[simp] theorem State.enterPart_arb (s : State) (p : PartState) :
    (s.enterPart p).arb = s.arb := rfl
@[simp] theorem State.enterPart_plant (s : State) (p : PartState) :
    (s.enterPart p).plant = s.plant := rfl
@[simp] theorem State.enterPart_nodes (s : State) (p : PartState) :
    (s.enterPart p).nodes = s.nodes := rfl
@[simp] theorem State.enterPart_line (s : State) (p : PartState) :
    (s.enterPart p).line = s.line := rfl
@[simp] theorem State.enterPart_op (s : State) (p : PartState) :
    (s.enterPart p).op = { s.op with state := p, entered := s.now } := rfl
@[simp] theorem State.enterPart_cond (s : State) (p : PartState) :
    (s.enterPart p).cond = { s.cond with stopped := decide (p = .stopped) } := rfl
@[simp] theorem State.enterPart_port (s : State) (p : PartState) :
    (s.enterPart p).port = s.port := rfl
@[simp] theorem State.enterPart_pending (s : State) (p : PartState) :
    (s.enterPart p).pending = s.pending := rfl

@[simp] theorem State.withPending_now (s : State) (q : List Instr) :
    (s.withPending q).now = s.now := rfl
@[simp] theorem State.withPending_held (s : State) (q : List Instr) :
    (s.withPending q).held = s.held := rfl
@[simp] theorem State.withPending_shedLine (s : State) (q : List Instr) :
    (s.withPending q).shedLine = s.shedLine := rfl
@[simp] theorem State.withPending_key (s : State) (q : List Instr) :
    (s.withPending q).key = s.key := rfl
@[simp] theorem State.withPending_zones (s : State) (q : List Instr) :
    (s.withPending q).zones = s.zones := rfl
@[simp] theorem State.withPending_arb (s : State) (q : List Instr) :
    (s.withPending q).arb = s.arb := rfl
@[simp] theorem State.withPending_plant (s : State) (q : List Instr) :
    (s.withPending q).plant = s.plant := rfl
@[simp] theorem State.withPending_nodes (s : State) (q : List Instr) :
    (s.withPending q).nodes = s.nodes := rfl
@[simp] theorem State.withPending_line (s : State) (q : List Instr) :
    (s.withPending q).line = s.line := rfl
@[simp] theorem State.withPending_op (s : State) (q : List Instr) :
    (s.withPending q).op = s.op := rfl
@[simp] theorem State.withPending_cond (s : State) (q : List Instr) :
    (s.withPending q).cond = s.cond := rfl
@[simp] theorem State.withPending_port (s : State) (q : List Instr) :
    (s.withPending q).port = s.port := rfl
@[simp] theorem State.withPending_pending (s : State) (q : List Instr) :
    (s.withPending q).pending = q := rfl

@[simp] theorem State.setTag_now (s : State) (t : RangeTag) :
    (s.setTag t).now = s.now := rfl
@[simp] theorem State.setTag_held (s : State) (t : RangeTag) :
    (s.setTag t).held = s.held := rfl
@[simp] theorem State.setTag_shedLine (s : State) (t : RangeTag) :
    (s.setTag t).shedLine = s.shedLine := rfl
@[simp] theorem State.setTag_key (s : State) (t : RangeTag) :
    (s.setTag t).key = s.key := rfl
@[simp] theorem State.setTag_zones (s : State) (t : RangeTag) :
    (s.setTag t).zones = s.zones := rfl
@[simp] theorem State.setTag_arb (s : State) (t : RangeTag) :
    (s.setTag t).arb = s.arb := rfl
@[simp] theorem State.setTag_plant (s : State) (t : RangeTag) :
    (s.setTag t).plant = s.plant := rfl
@[simp] theorem State.setTag_nodes (s : State) (t : RangeTag) :
    (s.setTag t).nodes = s.nodes := rfl
@[simp] theorem State.setTag_line (s : State) (t : RangeTag) :
    (s.setTag t).line = s.line := rfl
@[simp] theorem State.setTag_op (s : State) (t : RangeTag) :
    (s.setTag t).op = s.op := rfl
@[simp] theorem State.setTag_cond (s : State) (t : RangeTag) :
    (s.setTag t).cond = s.cond := rfl
@[simp] theorem State.setTag_port (s : State) (t : RangeTag) :
    (s.setTag t).port = { s.port with tag := t } := rfl
@[simp] theorem State.setTag_pending (s : State) (t : RangeTag) :
    (s.setTag t).pending = s.pending := rfl

@[simp] theorem State.setProtection_now (s : State) (p : Protection) :
    (s.setProtection p).now = s.now := rfl
@[simp] theorem State.setProtection_held (s : State) (p : Protection) :
    (s.setProtection p).held = s.held := rfl
@[simp] theorem State.setProtection_shedLine (s : State) (p : Protection) :
    (s.setProtection p).shedLine = s.shedLine := rfl
@[simp] theorem State.setProtection_key (s : State) (p : Protection) :
    (s.setProtection p).key = s.key := rfl
@[simp] theorem State.setProtection_zones (s : State) (p : Protection) :
    (s.setProtection p).zones = s.zones := rfl
@[simp] theorem State.setProtection_arb (s : State) (p : Protection) :
    (s.setProtection p).arb = s.arb := rfl
@[simp] theorem State.setProtection_plant (s : State) (p : Protection) :
    (s.setProtection p).plant = s.plant := rfl
@[simp] theorem State.setProtection_nodes (s : State) (p : Protection) :
    (s.setProtection p).nodes = s.nodes := rfl
@[simp] theorem State.setProtection_line (s : State) (p : Protection) :
    (s.setProtection p).line = s.line := rfl
@[simp] theorem State.setProtection_op (s : State) (p : Protection) :
    (s.setProtection p).op = s.op := rfl
@[simp] theorem State.setProtection_cond (s : State) (p : Protection) :
    (s.setProtection p).cond = s.cond := rfl
@[simp] theorem State.setProtection_port (s : State) (p : Protection) :
    (s.setProtection p).port = { s.port with protection := p } := rfl
@[simp] theorem State.setProtection_pending (s : State) (p : Protection) :
    (s.setProtection p).pending = s.pending := rfl

@[simp] theorem State.setKey_now (s : State) (k : KeyPos) :
    (s.setKey k).now = s.now := rfl
@[simp] theorem State.setKey_held (s : State) (k : KeyPos) :
    (s.setKey k).held = s.held := rfl
@[simp] theorem State.setKey_shedLine (s : State) (k : KeyPos) :
    (s.setKey k).shedLine = s.shedLine := rfl
@[simp] theorem State.setKey_key (s : State) (k : KeyPos) :
    (s.setKey k).key = k := rfl
@[simp] theorem State.setKey_zones (s : State) (k : KeyPos) :
    (s.setKey k).zones = s.zones := rfl
@[simp] theorem State.setKey_arb (s : State) (k : KeyPos) :
    (s.setKey k).arb = s.arb := rfl
@[simp] theorem State.setKey_plant (s : State) (k : KeyPos) :
    (s.setKey k).plant = s.plant := rfl
@[simp] theorem State.setKey_nodes (s : State) (k : KeyPos) :
    (s.setKey k).nodes = s.nodes := rfl
@[simp] theorem State.setKey_line (s : State) (k : KeyPos) :
    (s.setKey k).line = s.line := rfl
@[simp] theorem State.setKey_op (s : State) (k : KeyPos) :
    (s.setKey k).op = s.op := rfl
@[simp] theorem State.setKey_cond (s : State) (k : KeyPos) :
    (s.setKey k).cond = s.cond := rfl
@[simp] theorem State.setKey_port (s : State) (k : KeyPos) :
    (s.setKey k).port = s.port := rfl
@[simp] theorem State.setKey_pending (s : State) (k : KeyPos) :
    (s.setKey k).pending = s.pending := rfl

@[simp] theorem State.setShedLine_now (s : State) (b : Bool) :
    (s.setShedLine b).now = s.now := rfl
@[simp] theorem State.setShedLine_held (s : State) (b : Bool) :
    (s.setShedLine b).held = s.held := rfl
@[simp] theorem State.setShedLine_shedLine (s : State) (b : Bool) :
    (s.setShedLine b).shedLine = b := rfl
@[simp] theorem State.setShedLine_key (s : State) (b : Bool) :
    (s.setShedLine b).key = s.key := rfl
@[simp] theorem State.setShedLine_zones (s : State) (b : Bool) :
    (s.setShedLine b).zones = s.zones := rfl
@[simp] theorem State.setShedLine_arb (s : State) (b : Bool) :
    (s.setShedLine b).arb = s.arb := rfl
@[simp] theorem State.setShedLine_plant (s : State) (b : Bool) :
    (s.setShedLine b).plant = s.plant := rfl
@[simp] theorem State.setShedLine_nodes (s : State) (b : Bool) :
    (s.setShedLine b).nodes = s.nodes := rfl
@[simp] theorem State.setShedLine_line (s : State) (b : Bool) :
    (s.setShedLine b).line = s.line := rfl
@[simp] theorem State.setShedLine_op (s : State) (b : Bool) :
    (s.setShedLine b).op = s.op := rfl
@[simp] theorem State.setShedLine_cond (s : State) (b : Bool) :
    (s.setShedLine b).cond = s.cond := rfl
@[simp] theorem State.setShedLine_port (s : State) (b : Bool) :
    (s.setShedLine b).port = s.port := rfl
@[simp] theorem State.setShedLine_pending (s : State) (b : Bool) :
    (s.setShedLine b).pending = s.pending := rfl

/-! ## Records -/

@[simp] theorem State.zone_setZone (s : State) (z y : Zone) (r : ZoneRec) :
    (s.setZone z r).zone y = if y = z then r else s.zone y := by
  unfold State.zone State.setZone
  by_cases h : y = z
  · subst h; simp
  · have h' : z.val ≠ y.val := fun e => h (Fin.ext e.symm)
    simp [h, h']

@[simp] theorem State.zone_modZone (s : State) (z y : Zone) (f : ZoneRec → ZoneRec) :
    (s.modZone z f).zone y = if y = z then f (s.zone z) else s.zone y := by
  simp [State.modZone]

@[simp] theorem State.node_setNode (s : State) (n m : NodeId) (r : NodeRec) :
    (s.setNode n r).node m = if m = n then r else s.node m := by
  unfold State.node State.setNode
  by_cases h : m = n
  · subst h; simp
  · have h' : n.val ≠ m.val := fun e => h (Fin.ext e.symm)
    simp [h, h']

@[simp] theorem State.node_modNode (s : State) (n m : NodeId) (f : NodeRec → NodeRec) :
    (s.modNode n f).node m = if m = n then f (s.node n) else s.node m := by
  simp [State.modNode]

@[simp] theorem State.work_setWork (s : State) (n m : NodeId) (w : CommWork) :
    (s.setWork n w).work m = if m = n then w else s.work m := by
  unfold State.work State.setWork State.setOp
  by_cases h : m = n
  · subst h; simp
  · have h' : n.val ≠ m.val := fun e => h (Fin.ext e.symm)
    simp [h, h']

/-! ## A record is read from its own block -/

theorem State.node_congr {s t : State} (h : t.nodes.table = s.nodes.table) (n : NodeId) : t.node n = s.node n := by
  simp [State.node, h]

theorem State.zone_congr {s t : State} (h : t.zones = s.zones) (z : Zone) : t.zone z = s.zone z := by
  simp [State.zone, h]

end Sys2Proof.Machine
end

