-- ==== Sys2Proof/Laws/NodeSide.lean ====
section
/-! SUPPORT. What each request to the node manager can change, one lemma per operation (NodeSide): the queue, the line,
pending moves, owed retries and HALTs, and the work of commissioning. -/
namespace Sys2Proof.Machine

theorem NodeSide.refl (s : State) : NodeSide s s :=
  ⟨rfl, rfl, rfl, rfl, rfl, rfl, rfl, rfl, rfl, rfl, rfl, rfl, rfl, fun _ => rfl, fun _ _ => rfl⟩

theorem NodeSide.trans {s t u : State} (a : NodeSide s t) (b : NodeSide t u) : NodeSide s u where
  now := b.now.trans a.now
  held := b.held.trans a.held
  shedLine := b.shedLine.trans a.shedLine
  key := b.key.trans a.key
  zones := b.zones.trans a.zones
  arb := b.arb.trans a.arb
  plant := b.plant.trans a.plant
  cond := b.cond.trans a.cond
  port := b.port.trans a.port
  pending := b.pending.trans a.pending
  op := by rw [b.op, a.op]
  tuning := b.tuning.trans a.tuning
  pollTick := b.pollTick.trans a.pollTick
  recs := fun n => by
    have h := b.recs n
    rw [a.recs n] at h
    exact h
  still := fun n h => by
    have hs : (t.node n).state = (s.node n).state := by rw [a.recs n]
    rw [b.still n (by rw [hs]; exact h), a.still n h]

/-- A chain of operations keeps what each keeps. -/
theorem NodeSide.foldl {α : Type} (f : State → α → State) (h : ∀ s a, NodeSide s (f s a)) (l : List α) :
    ∀ s, NodeSide s (l.foldl f s) := by
  induction l with
  | nil => exact NodeSide.refl
  | cons a l ih => exact fun s => (h s a).trans (ih (f s a))

theorem NodeSide.setQueue (s : State) (q : List Entry) : NodeSide s (s.setQueue q) :=
  ⟨rfl, rfl, rfl, rfl, rfl, rfl, rfl, rfl, rfl, rfl, rfl, rfl, rfl, fun _ => rfl, fun _ _ => rfl⟩

theorem NodeSide.setLine (s : State) (l : Line) : NodeSide s (s.setLine l) :=
  ⟨rfl, rfl, rfl, rfl, rfl, rfl, rfl, rfl, rfl, rfl, rfl, rfl, rfl, fun _ => rfl, fun _ _ => rfl⟩

theorem NodeSide.setWork (s : State) (n : NodeId) (w : CommWork) : NodeSide s (s.setWork n w) :=
  ⟨rfl, rfl, rfl, rfl, rfl, rfl, rfl, rfl, rfl, rfl, rfl, rfl, rfl, fun _ => rfl, fun _ _ => rfl⟩

/-- A change of owed retry, retry step and owed HALT, and of the pending move of a BUSY node. -/
theorem NodeSide.modNode (s : State) (n : NodeId) (f : NodeRec → NodeRec)
    (h : ∀ r, f r = { r with
      pending := (f r).pending, retryOwed := (f r).retryOwed, retryStep := (f r).retryStep
      haltOwed := (f r).haltOwed })
    (h' : (s.node n).state ≠ .busy → (f (s.node n)).pending = (s.node n).pending) :
    NodeSide s (s.modNode n f) where
  now := rfl
  held := rfl
  shedLine := rfl
  key := rfl
  zones := rfl
  arb := rfl
  plant := rfl
  cond := rfl
  port := rfl
  pending := rfl
  op := rfl
  tuning := rfl
  pollTick := rfl
  recs := fun m => by
    rw [State.node_modNode]
    by_cases e : m = n
    · subst e; simp only [if_true]; exact h _
    · simp only [e, if_false]
  still := fun m hm => by
    rw [State.node_modNode]
    by_cases e : m = n
    · subst e; simp only [if_true]; exact h' hm
    · simp only [e, if_false]

theorem NodeSide.startTxn (s : State) (e : Entry) : NodeSide s (s.startTxn e) := NodeSide.setLine s _

theorem NodeSide.handOver (s : State) : NodeSide s s.handOver := by
  unfold State.handOver
  split
  · split
    · exact NodeSide.refl s
    · exact (NodeSide.setQueue s _).trans (NodeSide.startTxn _ _)
  · exact NodeSide.refl s

theorem NodeSide.tellRefused (s : State) (n : NodeId) (c : Command) (o : Origin) :
    NodeSide s (s.tellRefused n c o) := by
  unfold State.tellRefused
  split
  · exact NodeSide.modNode s n _ (fun _ => rfl) (fun _ => rfl)
  · exact NodeSide.modNode s n _ (fun _ => rfl) (fun _ => rfl)
  · split
    · exact NodeSide.setWork s n _
    · exact NodeSide.refl s
  · exact NodeSide.modNode s n _ (fun _ => rfl) (fun _ => rfl)
  · exact NodeSide.refl s

/-- R159: a refused MOVE of commissioning leaves the work of a node whose initial MOVE is still to come as it is. -/
theorem State.tellRefused_early (s : State) (n : NodeId) (h : (s.work n).moveBegun = false) :
    s.tellRefused n .move .commission = s := by
  simp [State.tellRefused, h]

theorem NodeSide.refuseEntry (s : State) (e : Entry) : NodeSide s (s.refuseEntry e) := by
  unfold State.refuseEntry
  split
  · exact NodeSide.refl s
  · exact NodeSide.foldl _ (fun s o => NodeSide.tellRefused s _ _ o) _ s

theorem NodeSide.joinQueue (s : State) (e : Entry) : NodeSide s (s.joinQueue e) := by
  unfold State.joinQueue
  split
  · exact NodeSide.setQueue s _
  · split
    · rename_i s' h
      unfold State.absorbedInFlight at h
      split at h
      · exact absurd h (by simp)
      · split at h
        · injection h with h; subst h; exact NodeSide.setLine s _
        · exact absurd h (by simp)
    · split
      · exact NodeSide.setQueue s _
      · split
        · split
          · exact (NodeSide.refuseEntry s _).trans (NodeSide.setQueue _ _)
          · exact NodeSide.refuseEntry s _
        · exact NodeSide.refuseEntry s _

theorem NodeSide.request (s : State) (e : Entry) : NodeSide s (s.request e) :=
  (NodeSide.joinQueue s e).trans (NodeSide.handOver _)

theorem NodeSide.askMove (s : State) (n : NodeId) (a : Nat) (o : Origin) : NodeSide s (s.askMove n a o) := by
  unfold State.askMove
  split <;> first
    | exact NodeSide.request s _
    | exact NodeSide.refl s
    | exact NodeSide.modNode s n _ (fun _ => rfl) (fun h => absurd (by assumption) h)

theorem NodeSide.askStatus (s : State) (n : NodeId) (o : Origin) : NodeSide s (s.askStatus n o) := by
  unfold State.askStatus
  split <;> first
    | exact NodeSide.request s _
    | exact NodeSide.refl s

theorem NodeSide.askRead (s : State) (n : NodeId) (o : Origin) : NodeSide s (s.askRead n o) := by
  unfold State.askRead
  split <;> first
    | exact NodeSide.request s _
    | exact NodeSide.refl s

theorem NodeSide.askBroadcast (s : State) (c : Command) (o : Origin) : NodeSide s (s.askBroadcast c o) :=
  NodeSide.request s _

theorem NodeSide.askOwn (s : State) (n : NodeId) (c : Command) (o : Origin) : NodeSide s (s.askOwn n c o) :=
  NodeSide.request s _

theorem NodeSide.dropEntries (s : State) (n : NodeId) (p : Command → Bool) : NodeSide s (s.dropEntries n p) :=
  NodeSide.setQueue s _

theorem NodeSide.askStart (s : State) (n : NodeId) : NodeSide s (s.askStart n) := by
  unfold State.askStart
  split <;> exact NodeSide.askOwn s n _ _

theorem NodeSide.moveTo (s : State) (n : Option NodeId) (a : Nat) (o : Origin) : NodeSide s (s.moveTo n a o) := by
  unfold State.moveTo
  split
  · exact NodeSide.refl s
  · split
    · exact NodeSide.refl s
    · exact NodeSide.askMove s _ a o

theorem NodeSide.zoneTargets (s : State) (z : Zone) : NodeSide s (s.zoneTargets z) := by
  unfold State.zoneTargets
  dsimp only
  split
  · exact ((NodeSide.moveTo s _ _ _).trans (NodeSide.moveTo _ _ _ _)).trans (NodeSide.moveTo _ _ _ _)
  · exact NodeSide.refl s

theorem NodeSide.grantNotices (s : State) (b : Arbiter) (z : Option Zone) : NodeSide s (s.grantNotices b z) := by
  unfold State.grantNotices
  refine NodeSide.foldl _ (fun t y => ?_) allZones s
  split
  · exact NodeSide.refl t
  · exact NodeSide.zoneTargets t y

theorem NodeSide.plantMove (s : State) (n : Option NodeId) (a : Nat) (o : Origin) : NodeSide s (s.plantMove n a o) := by
  unfold State.plantMove
  split
  · exact NodeSide.refl s
  · exact NodeSide.askMove s _ a o

theorem NodeSide.intakeCompare (s : State) : NodeSide s s.intakeCompare := by
  unfold State.intakeCompare
  split
  · exact NodeSide.refl s
  · split
    · exact NodeSide.refl s
    · exact NodeSide.moveTo s _ _ _

theorem NodeSide.intakeNodeReady (s : State) (n : NodeId) : NodeSide s (s.intakeNodeReady n) := by
  unfold State.intakeNodeReady
  split
  · exact NodeSide.intakeCompare s
  · exact NodeSide.refl s

theorem NodeSide.steadyStatus (s : State) (n : Option NodeId) : NodeSide s (s.steadyStatus n) := by
  unfold State.steadyStatus
  split
  · exact NodeSide.refl s
  · split
    · exact NodeSide.askStatus s _ _
    · exact NodeSide.refl s

theorem NodeSide.startRetry (s : State) (n : NodeId) (a : RetryAction) : NodeSide s (s.startRetry n a) := by
  unfold State.startRetry
  split <;> exact (NodeSide.modNode s n _ (fun _ => rfl) (fun _ => rfl)).trans (NodeSide.askOwn _ n _ _)

theorem NodeSide.retryNode (s : State) (n : NodeId) (a : RetryAction) : NodeSide s (s.retryNode n a) := by
  unfold State.retryNode
  split
  · exact NodeSide.startRetry s n a
  · exact NodeSide.refl s

theorem NodeSide.initialMove (s : State) (n : NodeId) : NodeSide s (s.initialMove n) :=
  (NodeSide.setWork s n _).trans (NodeSide.askMove _ n _ _)

theorem NodeSide.askHalt (s : State) (n : NodeId) : NodeSide s (s.askHalt n) := NodeSide.request s _

theorem NodeSide.owedHalt (s : State) (n : NodeId) : NodeSide s (s.owedHalt n) := by
  unfold State.owedHalt
  split
  · exact (NodeSide.modNode s n _ (fun _ => rfl) (fun _ => rfl)).trans (NodeSide.askHalt _ n)
  · exact NodeSide.refl s

theorem NodeSide.owedRetry (s : State) (n : NodeId) : NodeSide s (s.owedRetry n) := by
  unfold State.owedRetry
  split
  · exact NodeSide.refl s
  · split
    · exact NodeSide.startRetry s n _
    · exact NodeSide.refl s

theorem NodeSide.owedMove (s : State) (n : NodeId) : NodeSide s (s.owedMove n) := by
  unfold State.owedMove
  split
  · exact NodeSide.initialMove s n
  · exact NodeSide.refl s

theorem NodeSide.dueAtPoll (s : State) (n : NodeId) : NodeSide s (s.dueAtPoll n) := by
  unfold State.dueAtPoll
  refine NodeSide.trans ?_ (((NodeSide.owedHalt _ n).trans (NodeSide.owedRetry _ n)).trans (NodeSide.owedMove _ n))
  split
  · exact NodeSide.askStatus s n _
  · exact NodeSide.refl s

theorem NodeSide.tickNode (s : State) (n : NodeId) : NodeSide s (s.tickNode n) := by
  unfold State.tickNode
  split
  · exact NodeSide.dueAtPoll s n
  · exact NodeSide.refl s

/-! ## Following commissioning (R160) -/

/-- The sequence runs in COMMISSIONING alone. -/
theorem State.commissions_state (s : State) (h : s.commissions = true) : s.op.state = .commissioning := by
  unfold State.commissions at h
  simp only [Bool.and_eq_true, decide_eq_true_eq] at h
  exact h.1

/-- R162: from a RESTART on, nothing is followed. -/
theorem State.opFollow_restarted (s : State) (h : s.op.soft ≠ .none) : s.opFollow = s := by
  simp [State.opFollow, State.commissions, h]

/-- A node that is not settled is left as it is. -/
theorem State.opSettled_eq_self (s : State) (n : NodeId) (h : s.followed) : s.opSettled n = s := by
  unfold State.opSettled
  split
  · rename_i c
    exact absurd (h (s.commissions_state c.1) n c.2.1 c.2.2.1) (by rw [c.2.2.2]; simp)
  · rfl

/-- Where every settled node has its mark, following changes nothing. -/
theorem State.opFollow_eq_self (s : State) (h : s.followed) : s.opFollow = s := by
  have fold : ∀ l : List NodeId, l.foldl State.opSettled s = s := by
    intro l
    induction l with
    | nil => rfl
    | cons n l ih => rw [List.foldl_cons, State.opSettled_eq_self s n h]; exact ih
  unfold State.opFollow
  split
  · exact fold allNodes
  · rfl

/-- Outside COMMISSIONING no node is followed. -/
theorem State.opFollow_outside (s : State) (h : s.op.state ≠ .commissioning) : s.opFollow = s :=
  s.opFollow_eq_self (fun c => absurd c h)

end Sys2Proof.Machine
end

