-- ==== Sys2Proof/Laws/Sides.lean ====
section
/-! SUPPORT. What the plant controller's decisions (PlantSide), an event at the arbiter (ShareSide) and an evaluation
(DemandSide) can change, one lemma per operation. -/
namespace Sys2Proof.Machine

/-! ## PlantSide -/

theorem PlantSide.ofNode {s t : State} (h : NodeSide s t) : PlantSide s t where
  now := h.now
  held := h.held
  shedLine := h.shedLine
  key := h.key
  zones := h.zones
  arb := h.arb
  plant := by rw [h.plant]
  cond := by rw [h.cond]
  port := h.port
  pending := h.pending
  op := h.op
  tuning := h.tuning
  pollTick := h.pollTick
  recs := h.recs
  still := h.still

theorem PlantSide.refl (s : State) : PlantSide s s := PlantSide.ofNode (NodeSide.refl s)

theorem PlantSide.trans {s t u : State} (a : PlantSide s t) (b : PlantSide t u) : PlantSide s u where
  now := b.now.trans a.now
  held := b.held.trans a.held
  shedLine := b.shedLine.trans a.shedLine
  key := b.key.trans a.key
  zones := b.zones.trans a.zones
  arb := b.arb.trans a.arb
  plant := by rw [b.plant, a.plant]
  cond := by rw [b.cond, a.cond]
  port := b.port.trans a.port
  pending := b.pending.trans a.pending
  op := by rw [b.op, a.op]
  tuning := b.tuning.trans a.tuning
  pollTick := b.pollTick.trans a.pollTick
  recs := fun n => by
    have h := b.recs n
    rw [a.recs n] at h
    exact h
  still := fun n h => by
    have hs : (t.node n).state = (s.node n).state := by rw [a.recs n]
    rw [b.still n (by rw [hs]; exact h), a.still n h]

theorem PlantSide.setSequencer (s : State) (q : Sequencer) : PlantSide s (s.setSequencer q) :=
  ⟨rfl, rfl, rfl, rfl, rfl, rfl, rfl, rfl, rfl, rfl, rfl, rfl, rfl, fun _ => rfl, fun _ _ => rfl⟩

theorem PlantSide.setHeater (s : State) (q : Heater) : PlantSide s (s.setHeater q) :=
  ⟨rfl, rfl, rfl, rfl, rfl, rfl, rfl, rfl, rfl, rfl, rfl, rfl, rfl, fun _ => rfl, fun _ _ => rfl⟩

theorem PlantSide.enterSeq (s : State) (q : Seq) : PlantSide s (s.enterSeq q) := PlantSide.setSequencer s _

theorem PlantSide.enterHeater (s : State) (h : HeaterState) : PlantSide s (s.enterHeater h) :=
  ⟨rfl, rfl, rfl, rfl, rfl, rfl, rfl, rfl, rfl, rfl, rfl, rfl, rfl, fun _ => rfl, fun _ _ => rfl⟩

theorem PlantSide.plantMove (s : State) (n : Option NodeId) (a : Nat) (o : Origin) :
    PlantSide s (s.plantMove n a o) := PlantSide.ofNode (NodeSide.plantMove s n a o)

theorem PlantSide.testHold (s : State) : PlantSide s s.testHold := by
  unfold State.testHold
  split
  · split
    · split
      · exact PlantSide.setSequencer s _
      · exact PlantSide.refl s
    · exact PlantSide.setSequencer s _
  · exact PlantSide.refl s

theorem PlantSide.seqRise (s : State) : PlantSide s s.seqRise := by
  unfold State.seqRise
  split
  · split
    · exact (PlantSide.plantMove s _ _ _).trans (PlantSide.enterSeq _ _)
    · exact PlantSide.refl s
  · split
    · exact (PlantSide.plantMove s _ _ _).trans (PlantSide.enterSeq _ _)
    · exact PlantSide.refl s
  · exact PlantSide.refl s

theorem PlantSide.heaterStart (s : State) : PlantSide s s.heaterStart := by
  unfold State.heaterStart
  split
  · exact (PlantSide.plantMove s _ _ _).trans (PlantSide.enterHeater _ _)
  · exact PlantSide.refl s

theorem PlantSide.testStopDelay (s : State) : PlantSide s s.testStopDelay := by
  unfold State.testStopDelay
  split
  · split
    · split
      · exact PlantSide.setHeater s _
      · exact PlantSide.refl s
    · exact PlantSide.setHeater s _
  · exact PlantSide.refl s

theorem PlantSide.viewCool (s : State) (v : PoolView) : PlantSide s (s.setPlant { s.plant with viewCool := v }) :=
  ⟨rfl, rfl, rfl, rfl, rfl, rfl, rfl, rfl, rfl, rfl, rfl, rfl, rfl, fun _ => rfl, fun _ _ => rfl⟩

theorem PlantSide.viewHeat (s : State) (v : PoolView) : PlantSide s (s.setPlant { s.plant with viewHeat := v }) :=
  ⟨rfl, rfl, rfl, rfl, rfl, rfl, rfl, rfl, rfl, rfl, rfl, rfl, rfl, fun _ => rfl, fun _ _ => rfl⟩

theorem PlantSide.hearCool (s : State) (b : Arbiter) : PlantSide s (s.hearCool b) := by
  unfold State.hearCool
  dsimp only
  split
  · exact PlantSide.refl s
  · have h := (PlantSide.viewCool s s.arb.cool.view).trans (PlantSide.testHold _)
    split
    · exact h.trans (PlantSide.seqRise _)
    · exact h

theorem PlantSide.hearHeat (s : State) (b : Arbiter) : PlantSide s (s.hearHeat b) := by
  unfold State.hearHeat
  dsimp only
  split
  · exact PlantSide.refl s
  · have h := (PlantSide.viewHeat s s.arb.heat.view).trans (PlantSide.testStopDelay _)
    split
    · exact h.trans (PlantSide.heaterStart _)
    · exact h

/-- R64, R68, R69: notices change no zone record and no pool. -/
theorem PlantSide.notices (s : State) (b : Arbiter) (z : Option Zone) : PlantSide s (s.notices b z) :=
  ((PlantSide.ofNode (NodeSide.grantNotices s b z)).trans (PlantSide.hearHeat _ b)).trans (PlantSide.hearCool _ b)

theorem PlantSide.setIntake (s : State) (c : Nat) (t : Option Nat) :
    PlantSide s (s.setPlant { s.plant with purgeCount := c, intakeTarget := t }) :=
  ⟨rfl, rfl, rfl, rfl, rfl, rfl, rfl, rfl, rfl, rfl, rfl, rfl, rfl, fun _ => rfl, fun _ _ => rfl⟩

theorem PlantSide.purgeNotice (s : State) (b : Bool) : PlantSide s (s.purgeNotice b) :=
  (PlantSide.setIntake s _ _).trans (PlantSide.ofNode (NodeSide.intakeCompare _))

theorem PlantSide.modeNotice (s : State) (a b : EffMode) : PlantSide s (s.modeNotice a b) := by
  unfold State.modeNotice
  split
  · exact PlantSide.refl s
  · split
    · exact PlantSide.purgeNotice s true
    · split
      · exact PlantSide.purgeNotice s false
      · exact PlantSide.refl s

theorem PlantSide.heaterFailure (s : State) : PlantSide s s.heaterFailure := by
  unfold State.heaterFailure
  dsimp only
  split <;> exact (PlantSide.setHeater s _).trans (PlantSide.enterHeater _ _)

/-! ## ShareSide -/

theorem ShareSide.ofPlant {s t : State} (h : PlantSide s t) : ShareSide s t where
  now := h.now
  held := h.held
  shedLine := h.shedLine
  key := h.key
  zones := h.zones
  saturationTime := by rw [h.arb]
  plant := h.plant
  cond := h.cond
  port := h.port
  pending := h.pending
  op := h.op
  tuning := h.tuning
  pollTick := h.pollTick
  recs := h.recs
  still := h.still

theorem ShareSide.ofNode {s t : State} (h : NodeSide s t) : ShareSide s t := ShareSide.ofPlant (PlantSide.ofNode h)

theorem ShareSide.refl (s : State) : ShareSide s s := ShareSide.ofPlant (PlantSide.refl s)

theorem ShareSide.trans {s t u : State} (a : ShareSide s t) (b : ShareSide t u) : ShareSide s u where
  now := b.now.trans a.now
  held := b.held.trans a.held
  shedLine := b.shedLine.trans a.shedLine
  key := b.key.trans a.key
  zones := b.zones.trans a.zones
  saturationTime := b.saturationTime.trans a.saturationTime
  plant := by rw [b.plant, a.plant]
  cond := by rw [b.cond, a.cond]
  port := b.port.trans a.port
  pending := b.pending.trans a.pending
  op := by rw [b.op, a.op]
  tuning := b.tuning.trans a.tuning
  pollTick := b.pollTick.trans a.pollTick
  recs := fun n => by
    have h := b.recs n
    rw [a.recs n] at h
    exact h
  still := fun n h => by
    have hs : (t.node n).state = (s.node n).state := by rw [a.recs n]
    rw [b.still n (by rw [hs]; exact h), a.still n h]

theorem ShareSide.setArb (s : State) (a : Arbiter) (h : a.saturationTime = s.arb.saturationTime) :
    ShareSide s (s.setArb a) :=
  ⟨rfl, rfl, rfl, rfl, rfl, h, rfl, rfl, rfl, rfl, rfl, rfl, rfl, fun _ => rfl, fun _ _ => rfl⟩

/-- One event at the arbiter and its notices. -/
theorem ShareSide.arbiterEvent (s : State) (a : Arbiter) (h : a.saturationTime = s.arb.saturationTime) :
    ShareSide s (s.arbiterEvent a) :=
  (ShareSide.setArb s a h).trans (ShareSide.ofPlant (PlantSide.notices _ _ none))

theorem ShareSide.writeCapacity (s : State) (i : PoolId) (v : Nat) : ShareSide s (s.writeCapacity i v) := by
  unfold State.writeCapacity
  split
  · exact ShareSide.refl s
  · exact ShareSide.arbiterEvent s _ (Arbiter.writeCapacity_saturationTime _ _ _ _ _)

theorem ShareSide.refreshCool (s : State) : ShareSide s s.refreshCool := ShareSide.writeCapacity s _ _
theorem ShareSide.refreshHeat (s : State) : ShareSide s s.refreshHeat := ShareSide.writeCapacity s _ _

/-- The arbiter after one event is the one given: its notices change no pool. -/
theorem State.arbiterEvent_arb (s : State) (a : Arbiter) : (s.arbiterEvent a).arb = a :=
  (PlantSide.notices (s.setArb a) s.arb none).arb

/-- R47: the pool holds the value written. -/
theorem State.writeCapacity_capacity (s : State) (i : PoolId) (v : Nat) :
    ((s.writeCapacity i v).arb.pool i).capacity = v := by
  unfold State.writeCapacity
  split
  · rename_i h; exact h.symm
  · rw [State.arbiterEvent_arb]; exact Arbiter.writeCapacity_capacity _ _ _ _ _

theorem ShareSide.shedStage (s : State) (k : Nat) : ShareSide s (s.shedStage k) := by
  unfold State.shedStage
  split <;>
    exact (ShareSide.ofPlant ((PlantSide.plantMove s _ _ _).trans (PlantSide.enterSeq _ _))).trans
      (ShareSide.refreshCool _)

theorem ShareSide.seqDecide (s : State) : ShareSide s s.seqDecide := by
  unfold State.seqDecide
  split
  · exact ShareSide.ofPlant (PlantSide.seqRise s)
  · split
    · split
      · exact ShareSide.shedStage s _
      · split
        · exact ShareSide.ofPlant (PlantSide.seqRise s)
        · split
          · exact ShareSide.shedStage s _
          · exact ShareSide.refl s
    · exact ShareSide.refl s
  · exact ShareSide.refl s

theorem ShareSide.enterRunning (s : State) (k : Nat) : ShareSide s (s.enterRunning k) :=
  (((ShareSide.ofPlant (PlantSide.enterSeq s _)).trans (ShareSide.refreshCool _)).trans
    (ShareSide.ofPlant (PlantSide.testHold _))).trans (ShareSide.seqDecide _)

theorem ShareSide.allowedChanged (s : State) (a : Nat) : ShareSide s (s.allowedChanged a) := by
  unfold State.allowedChanged
  split
  · exact ShareSide.refl s
  · exact (ShareSide.refreshCool s).trans (ShareSide.seqDecide _)

theorem ShareSide.completeStep (s : State) : ShareSide s s.completeStep := by
  unfold State.completeStep
  split
  · exact (ShareSide.ofPlant (PlantSide.setSequencer s _)).trans (ShareSide.enterRunning _ _)
  · exact ShareSide.enterRunning s _
  · exact ShareSide.enterRunning s _
  · exact (ShareSide.ofPlant (PlantSide.enterSeq s _)).trans (ShareSide.refreshCool _)
  · exact ShareSide.refl s

theorem ShareSide.flameOut (s : State) : ShareSide s s.flameOut :=
  (ShareSide.ofPlant (PlantSide.heaterFailure s)).trans (ShareSide.refreshHeat _)

theorem ShareSide.heaterStop (s : State) : ShareSide s s.heaterStop := by
  unfold State.heaterStop
  split <;> first
    | exact (ShareSide.ofPlant ((PlantSide.plantMove s _ _ _).trans (PlantSide.enterHeater _ _))).trans
        (ShareSide.refreshHeat _)
    | exact ShareSide.ofPlant ((PlantSide.setHeater s _).trans (PlantSide.plantMove _ _ _ _))
    | exact ShareSide.refl s

theorem ShareSide.heaterLit (s : State) : ShareSide s s.heaterLit :=
  ((ShareSide.ofPlant ((PlantSide.setHeater s _).trans (PlantSide.enterHeater _ _))).trans
    (ShareSide.refreshHeat _)).trans (ShareSide.ofPlant (PlantSide.testStopDelay _))

/-! ## DemandSide -/

theorem DemandSide.ofShare {s t : State} (h : ShareSide s t) : DemandSide s t where
  now := h.now
  held := h.held
  shedLine := h.shedLine
  key := h.key
  zoneTuning := by rw [h.zones]
  doorMap := by rw [h.zones]
  zone := fun z => by rw [State.zone_congr h.zones z]
  saturationTime := h.saturationTime
  plant := h.plant
  cond := h.cond
  port := h.port
  pending := h.pending
  op := h.op
  tuning := h.tuning
  pollTick := h.pollTick
  recs := h.recs
  still := h.still

theorem DemandSide.ofPlant {s t : State} (h : PlantSide s t) : DemandSide s t :=
  DemandSide.ofShare (ShareSide.ofPlant h)

theorem DemandSide.ofNode {s t : State} (h : NodeSide s t) : DemandSide s t :=
  DemandSide.ofPlant (PlantSide.ofNode h)

theorem DemandSide.refl (s : State) : DemandSide s s := DemandSide.ofShare (ShareSide.refl s)

theorem DemandSide.trans {s t u : State} (a : DemandSide s t) (b : DemandSide t u) : DemandSide s u where
  now := b.now.trans a.now
  held := b.held.trans a.held
  shedLine := b.shedLine.trans a.shedLine
  key := b.key.trans a.key
  zoneTuning := b.zoneTuning.trans a.zoneTuning
  doorMap := b.doorMap.trans a.doorMap
  zone := fun z => by
    have h := b.zone z
    rw [a.zone z] at h
    exact h
  saturationTime := b.saturationTime.trans a.saturationTime
  plant := by rw [b.plant, a.plant]
  cond := by rw [b.cond, a.cond]
  port := b.port.trans a.port
  pending := b.pending.trans a.pending
  op := by rw [b.op, a.op]
  tuning := b.tuning.trans a.tuning
  pollTick := b.pollTick.trans a.pollTick
  recs := fun n => by
    have h := b.recs n
    rw [a.recs n] at h
    exact h
  still := fun n h => by
    have hs : (t.node n).state = (s.node n).state := by rw [a.recs n]
    rw [b.still n (by rw [hs]; exact h), a.still n h]

theorem DemandSide.foldl {α : Type} (f : State → α → State) (h : ∀ s a, DemandSide s (f s a)) (l : List α) :
    ∀ s, DemandSide s (l.foldl f s) := by
  induction l with
  | nil => exact DemandSide.refl
  | cons a l ih => exact fun s => (h s a).trans (ih (f s a))

theorem DemandSide.writeDemand (s : State) (z : Zone) : DemandSide s (s.writeDemand z) where
  now := rfl
  held := rfl
  shedLine := rfl
  key := rfl
  zoneTuning := rfl
  doorMap := rfl
  zone := fun y => by
    simp only [State.writeDemand, State.zone_modZone]
    split
    · rename_i e; subst e; rfl
    · rfl
  saturationTime := rfl
  plant := rfl
  cond := rfl
  port := rfl
  pending := rfl
  op := rfl
  tuning := rfl
  pollTick := rfl
  recs := fun _ => rfl
  still := fun _ _ => rfl

theorem ShareSide.settleZone (s : State) (z : Zone) : ShareSide s (s.settleZone z) :=
  ShareSide.setArb s _ (SameSize.settle _ _ _ _ _ _).saturationTime

/-- R11: what an evaluation can change. -/
theorem DemandSide.evaluate (s : State) (z : Zone) : DemandSide s (s.evaluate z) := by
  unfold State.evaluate
  dsimp only
  split
  · split
    · exact DemandSide.ofNode (NodeSide.zoneTargets s z)
    · exact (((DemandSide.writeDemand s z).trans (DemandSide.ofShare (ShareSide.settleZone _ z))).trans
        (DemandSide.ofNode (NodeSide.zoneTargets _ z))).trans (DemandSide.ofPlant (PlantSide.notices _ _ _))
  · exact DemandSide.refl s

end Sys2Proof.Machine
end

