-- ==== Sys2Proof/Laws/Port.lean ====
section
/-! SUPPORT. What the body link port does with a request while it is free: one lemma for a request that reaches its
owner, one for the reply that follows, and the two-byte fields of a payload. -/
namespace Sys2Proof.Machine

theorem requestKind_code (k : Kind) : requestKind k.code = some k := by cases k <;> rfl

@[simp] theorem joinBytes_split (w : Word) : joinBytes (hiByte w) (loByte w) = w := by
  unfold joinBytes hiByte loByte
  ext i hi
  simp only [BitVec.getElem_append, BitVec.getElem_extractLsb']
  split
  · simp [hi]
  · have h : 8 + (i - 8) = i := by omega
    simp [h, hi]

/-- A free port takes a whole good frame at once. -/
theorem State.hostRequest_free (s : State) (k : Kind) (tag : Byte) (p : List Byte) (h : s.portFree) :
    s.hostRequest k tag p = s.takeGood k.code tag p := by
  obtain ⟨_, h2, h3, h4⟩ := h
  simp [State.hostRequest, State.offer, State.busy, h2, h3, h4, State.takeFrame]

/-- A good frame of a known kind. -/
theorem State.takeGood_code (s : State) (k : Kind) (tag : Byte) (p : List Byte) :
    s.takeGood k.code tag p =
      (s.takeRequest k p).1.reply (k.code + 0x80#8) tag
        (k.tagEffect.cleared s.port.tag (s.takeRequest k p).2) (s.takeRequest k p).2 := by
  simp [State.takeGood, requestKind_code]

/-- A request that passes the port's first four checks goes to its owner. -/
theorem State.takeRequest_owner (s : State) (k : Kind) (p : List Byte)
    (hs : k.takenIn.includes s.op.state = true) (ht : k.tagEffect.outOfSequence s.port.tag = false)
    (hl : p.length = k.length) :
    s.takeRequest k p = (s.setTag (k.tagEffect.after s.port.tag)).ownerTakes k s.port.tag p := by
  simp [State.takeRequest, hs, ht, hl]

/-- The answer flag of each answer's STATUS byte. -/
theorem answerFlags_statusByte (a b c : Bool) (ans : Answer) :
    answerFlags (statusByte a b c ans) =
      match ans with
      | .ok _ => 0#8
      | .unknownKind => 4#8
      | .checkFailed => 8#8
      | .sequenceError => 16#8
      | .badArgument => 32#8
      | .refused _ => 64#8 := by
  cases ans <;> cases a <;> cases b <;> cases c <;> simp [statusByte, answerFlags]

/-- RANGE_CLEARED of the STATUS byte. -/
theorem statusByte_cleared (a b c : Bool) (ans : Answer) : (statusByte a b c ans).getLsbD 1 = b := by
  cases ans <;> cases a <;> cases b <;> cases c <;> simp [statusByte]

theorem State.reply_replies (s : State) (kind tag : Byte) (c : Bool) (a : Answer) (f : Byte)
    (h : f = match a with
      | .ok _ => 0#8
      | .unknownKind => 4#8
      | .checkFailed => 8#8
      | .sequenceError => 16#8
      | .badArgument => 32#8
      | .refused _ => 64#8) :
    (s.reply kind tag c a).replies kind tag f a.payload :=
  ⟨_, rfl, rfl, rfl, by rw [h]; exact answerFlags_statusByte _ _ _ a, rfl⟩

theorem State.reply_replyFlag (s : State) (kind tag : Byte) (c : Bool) (a : Answer) :
    (s.reply kind tag c a).replyFlag 1 = c := by
  exact statusByte_cleared _ _ _ a

/-- A reply changes the port alone. -/
theorem State.reply_eq (s : State) (kind tag : Byte) (c : Bool) (a : Answer) :
    s.reply kind tag c a = s.setPort (s.reply kind tag c a).port := rfl

/-- A request of a kind that clears the range tag, taken by a free port, from its owner's answer. -/
theorem State.answer_clears (s : State) (k : Kind) (tag : Byte) (p : List Byte) (h : s.portFree)
    (hk : k.tagEffect = .clears) (hs : k.takenIn.includes s.op.state = true) (hl : p.length = k.length) :
    s.answer (·.hostRequest k tag p) =
      .next (((s.setTag .none).ownerTakes k s.port.tag p).1.reply (k.code + 0x80#8) tag
        (decide (s.port.tag ≠ .none)) ((s.setTag .none).ownerTakes k s.port.tag p).2) := by
  have e := State.hostRequest_free s k tag p h
  have o := State.takeRequest_owner s k p hs (by simp [hk, TagEffect.outOfSequence]) hl
  rw [hk] at o
  simp only [State.answer, h.1, Bool.false_eq_true, if_false, e, State.takeGood_code, o, hk]
  rfl

/-- The port after a reply to a request whose owner left the port with no tag. -/
theorem State.reply_answered (s u : State) (kind tag : Byte) (c : Bool) (a : Answer)
    (h : u.port = { s.port with tag := .none }) :
    (u.reply kind tag c a).port = answeredPort s (u.reply kind tag c a) := by
  simp [State.reply, State.setPort, answeredPort, h]

end Sys2Proof.Machine
end

