-- ==== Sys2Proof/Laws/Fields.lean ====
section
/-! SUPPORT. What each field check of a request answers, in and out of its range, and the answers of a request that is
accepted or has a field out of range. -/
namespace Sys2Proof.Machine

theorem zoneOfNat_number (z : Zone) : zoneOfNat z.number = some z := by
  have h : 1 ≤ z.number ∧ z.number ≤ 24 := by have := z.isLt; unfold Zone.number; omega
  unfold zoneOfNat; rw [dif_pos h]; simp [Zone.number]

theorem nodeOfNat_address (n : NodeId) : nodeOfNat n.address = some n := by
  have h : 1 ≤ n.address ∧ n.address ≤ 31 := by have := n.isLt; unfold NodeId.address; omega
  unfold nodeOfNat; rw [dif_pos h]; simp [NodeId.address]

theorem doorOfNat_number (d : Door) : doorOfNat d.number = some d := by
  have h : 1 ≤ d.number ∧ d.number ≤ 4 := by have := d.isLt; unfold Door.number; omega
  unfold doorOfNat; rw [dif_pos h]; simp [Door.number]

theorem nodeField_ok (b : Byte) (h : byteIn 0 31 b) : ∃ n, nodeField b = some n ∧ namesNode b n := by
  unfold nodeField
  by_cases hb : b = 0#8
  · exact ⟨none, by simp [hb], hb⟩
  · have h1 : 1 ≤ b.toNat := by
      rcases Nat.eq_zero_or_pos b.toNat with h | h
      · exact absurd (BitVec.eq_of_toNat_eq h) hb
      · exact h
    refine ⟨some ⟨b.toNat - 1, by have := h.2; omega⟩, by simp [hb, nodeOfNat, h1, h.2], ?_⟩
    simp [namesNode, NodeId.address]; omega

theorem nodeField_bad (b : Byte) (h : ¬ byteIn 0 31 b) : nodeField b = none := by
  unfold byteIn at h
  have hb : b ≠ 0#8 := by rintro rfl; simp at h
  have : ¬ (1 ≤ b.toNat ∧ b.toNat ≤ 31) := by omega
  simp [nodeField, hb, nodeOfNat, this]

theorem rangeByte_ok {lo hi : Nat} {b : Byte} (h : byteIn lo hi b) : rangeByte lo hi b = some b.toNat := if_pos h
theorem rangeByte_bad {lo hi : Nat} {b : Byte} (h : ¬ byteIn lo hi b) : rangeByte lo hi b = none := if_neg h
theorem rangeWord_ok {lo hi : Nat} {w : Word} (h : wordIn lo hi w) : rangeWord lo hi w = some w.toNat := if_pos h
theorem rangeWord_bad {lo hi : Nat} {w : Word} (h : ¬ wordIn lo hi w) : rangeWord lo hi w = none := if_neg h
theorem setpointField_ok {w : Word} (h : setpointIn w) : setpointField w = some w.toInt := if_pos h
theorem setpointField_bad {w : Word} (h : ¬ setpointIn w) : setpointField w = none := if_neg h

theorem sourceField_code (src : Source) : sourceField src.code = some src := by cases src <;> rfl

theorem joinZoneSet_split (z : BitVec 24) : ∃ a b c, zoneSetBytes z = [a, b, c] ∧ joinZoneSet a b c = z := by
  refine ⟨_, _, _, rfl, ?_⟩
  unfold joinZoneSet
  ext i hi
  simp only [BitVec.getElem_append, BitVec.getElem_extractLsb']
  split
  · simp [hi]
  · split
    · have h : 8 + (i - 8) = i := by omega
      simp [h, hi]
    · have h : 16 + (i - 8 - 8) = i := by omega
      simp [h, hi]

theorem State.reply_repliesOk (u : State) (kind tag : Byte) (c : Bool) (p : List Byte) :
    (u.reply kind tag c (.ok p)).repliesOk kind tag p := State.reply_replies u kind tag c (.ok p) _ rfl

theorem State.reply_repliesBadArgument (u : State) (kind tag : Byte) (c : Bool) :
    (u.reply kind tag c .badArgument).repliesBadArgument kind tag :=
  State.reply_replies u kind tag c .badArgument _ rfl

theorem State.reply_repliesRefused (u : State) (kind tag : Byte) (c : Bool) (p : List Byte) :
    (u.reply kind tag c (.refused p)).repliesRefused kind tag p :=
  State.reply_replies u kind tag c (.refused p) _ rfl

theorem State.takesConfiguration_includes {s : State} (k : Kind) (h : s.takesConfiguration)
    (hk : k.takenIn = .configuration) : k.takenIn.includes s.op.state = true := by
  rcases h with h | h <;> simp [hk, TakenIn.includes, h]

/-- A request that its owner answers with BAD_ARGUMENT. -/
theorem State.clears_badArgument (s : State) (k : Kind) (tag : Byte) (p : List Byte) (h : s.portFree)
    (hk : k.tagEffect = .clears) (hs : k.takenIn.includes s.op.state = true) (hl : p.length = k.length)
    (hb : (s.setTag .none).ownerTakes k s.port.tag p = badArgument (s.setTag .none)) :
    ∃ t, s.answer (·.hostRequest k tag p) = .next t ∧ t.repliesBadArgument (k.code + 0x80#8) tag ∧
      OnlyAnswered s t := by
  refine ⟨_, State.answer_clears s k tag p h hk hs hl, ?_, ?_⟩
  · rw [hb]; exact State.reply_repliesBadArgument _ _ _ _
  · rw [hb]; rfl

/-- A request that its owner refuses, changing nothing. -/
theorem State.clears_refused (s : State) (k : Kind) (tag : Byte) (p q : List Byte) (h : s.portFree)
    (hk : k.tagEffect = .clears) (hs : k.takenIn.includes s.op.state = true) (hl : p.length = k.length)
    (hb : (s.setTag .none).ownerTakes k s.port.tag p = (s.setTag .none, .refused q)) :
    ∃ t, s.answer (·.hostRequest k tag p) = .next t ∧ t.repliesRefused (k.code + 0x80#8) tag q ∧
      OnlyAnswered s t := by
  refine ⟨_, State.answer_clears s k tag p h hk hs hl, ?_, ?_⟩
  · rw [hb]; exact State.reply_repliesRefused _ _ _ _ _
  · rw [hb]; rfl

/-- A request that its owner accepts with the state u. -/
theorem State.clears_accepted (s u : State) (k : Kind) (tag : Byte) (p : List Byte) (h : s.portFree)
    (hk : k.tagEffect = .clears) (hs : k.takenIn.includes s.op.state = true) (hl : p.length = k.length)
    (hb : (s.setTag .none).ownerTakes k s.port.tag p = accept u) (hp : u.port = (s.setTag .none).port) :
    ∃ t, s.answer (·.hostRequest k tag p) = .next t ∧ t.repliesOk (k.code + 0x80#8) tag [] ∧
      t = u.setPort t.port ∧ t.port = answeredPort s t := by
  refine ⟨_, State.answer_clears s k tag p h hk hs hl, ?_, ?_, ?_⟩
  · rw [hb]; exact State.reply_repliesOk _ _ _ _ _
  · rw [hb]; rfl
  · rw [hb]; exact State.reply_answered s _ _ _ _ _ hp

end Sys2Proof.Machine
end

