-- ==== Sys2Proof/Laws/Evaluation.lean ====
section
/-! SUPPORT. What an evaluation does, whole (Evaluated), and what a change of stack does with the notice and the
evaluation it may bring (ModeChanged). -/
namespace Sys2Proof.Machine

theorem State.zone_eq_of_zones {s t : State} (h : t.zones = s.zones) (z : Zone) : t.zone z = s.zone z := by
  simp [State.zone, h]

/-- R11, R52: writing a zone's demand and settling it. -/
theorem State.settleZone_writeDemand (s : State) (z : Zone) : (s.writeDemand z).settleZone z = s.settledAt z := by
  simp [State.settleZone, State.writeDemand, State.modZone, State.settledAt, State.setArb, State.setZone, State.zone]

/-- R11: an evaluation of an active zone in RUN. -/
theorem State.evaluate_evaluated (s : State) (z : Zone) (h1 : s.op.state = .run) (h2 : (s.zone z).active = true) :
    Evaluated s z (s.evaluate z) := by
  have hside := DemandSide.evaluate s z
  by_cases hc : (s.zone z).effMode = .curtain
  · have e : s.evaluate z = s.zoneTargets z := by simp [State.evaluate, h1, h2, hc]
    have n := NodeSide.zoneTargets s z
    refine ⟨by rw [if_pos hc, e], hside, ?_, ?_, ?_⟩
    · rw [if_pos hc, e]; exact State.zone_eq_of_zones n.zones z
    · intro y _; rw [e]; exact State.zone_eq_of_zones n.zones y
    · rw [if_pos hc, e]; exact n.arb
  · have e : s.evaluate z = ((s.settledAt z).zoneTargets z).notices s.arb (some z) := by
      simp [State.evaluate, h1, h2, hc, State.settleZone_writeDemand]
    have n := NodeSide.zoneTargets (s.settledAt z) z
    have p := PlantSide.notices ((s.settledAt z).zoneTargets z) s.arb (some z)
    have zz : (s.evaluate z).zones = (s.settledAt z).zones := by rw [e, p.zones, n.zones]
    refine ⟨by rw [if_neg hc, e], hside, ?_, ?_, ?_⟩
    · rw [if_neg hc, State.zone_eq_of_zones zz]; simp [State.settledAt, State.zone, State.setZone]
    · intro y hy
      rw [State.zone_eq_of_zones zz]
      have hv : ¬ z.val = y.val := fun h => hy (Fin.ext h.symm)
      simp [State.settledAt, State.zone, State.setZone, hv]
    · rw [if_neg hc, e, p.arb, n.arb]; rfl

/-- R29: a change of a zone's stack tells the plant controller of the mode, and then evaluates the zone. -/
theorem State.changeMode_evaluated (s : State) (z : Zone) (f : ZoneRec → ZoneRec) (h1 : s.op.state = .run)
    (h2 : (f (s.zone z)).active = true) (h3 : (s.zone z).effMode ≠ (f (s.zone z)).effMode) :
    Evaluated (s.changeStack z f) z (s.changeMode z f) := by
  have hp : PlantSide (s.modZone z f) (s.changeStack z f) := PlantSide.modeNotice _ _ _
  have e : s.changeMode z f = (s.changeStack z f).evaluate z := by simp [State.changeMode, h3]
  rw [e]
  refine State.evaluate_evaluated _ z ?_ ?_
  · rw [hp.op]; exact h1
  · rw [State.zone_eq_of_zones hp.zones]; simpa using h2

/-- R29, R107: what the plant controller is told of a change of mode in RUN. -/
theorem State.modeNotice_told (s : State) (before after : EffMode) (h : s.op.state = .run) :
    modeTold s before after (s.modeNotice before after) := by
  constructor
  · intro e
    by_cases hb : before = .purge <;> by_cases ha : after = .purge <;> simp_all [State.modeNotice]
  · intro e c g b hc hg hb
    have ne : before ≠ after := fun h => e (by rw [h])
    by_cases ha : after = .purge
    · have n : s.modeNotice before after = s.purgeNotice true := by
        rw [State.modeNotice, if_neg ne, if_pos ha]
      rw [n, hb, hg, hc]
      cases hi : s.plant.defn.intake <;>
        simp [State.purgeNotice, State.intakeCompare, State.setPlant, State.moveTo, Plant.runIntake, h, hi, ha,
          State.latestCommanded, State.queuedMove, State.node]
    · have hb' : before = .purge := by
        apply Classical.byContradiction; intro h'; exact e ⟨fun x => absurd x h', fun x => absurd x ha⟩
      have n : s.modeNotice before after = s.purgeNotice false := by
        rw [State.modeNotice, if_neg ne, if_neg ha, if_pos hb']
      rw [n, hb, hg, hc]
      cases hi : s.plant.defn.intake <;>
        simp [State.purgeNotice, State.intakeCompare, State.setPlant, State.moveTo, Plant.runIntake, h, hi, ha,
          State.latestCommanded, State.queuedMove, State.node]

/-- R29: a change of an active zone's stack in RUN. -/
theorem State.changeMode_changed (s : State) (z : Zone) (f : ZoneRec → ZoneRec) (h1 : s.op.state = .run)
    (h2 : (f (s.zone z)).active = true) : ModeChanged s z (f (s.zone z)) (s.changeMode z f) := by
  refine ⟨s.changeStack z f, State.modeNotice_told _ _ _ h1, fun e => ?_, fun e => ?_⟩
  · simp [State.changeMode, e]
  · exact State.changeMode_evaluated s z f h1 h2 (fun x => e x.symm)

end Sys2Proof.Machine
end

