-- ==== Sys2Proof/Laws/Layouts.lean ====
section
/-! SUPPORT. The encoders of the query replies against the layout of the statements (R185, chapter 11.4): each encoder
writes the bytes that the layout gives, and each payload of fixed form is its layout. -/
namespace Sys2Proof.Machine

theorem natBytes2_layout (n : Nat) : natBytes2 n = Layout.num2 n := by
  simp only [natBytes2, wordBytes, Layout.num2, hiByte, loByte, wordOf, byteOf, List.cons.injEq, and_true]
  constructor
  · apply BitVec.eq_of_toNat_eq
    simp only [BitVec.extractLsb'_toNat, BitVec.toNat_ofNat, Nat.shiftRight_eq_div_pow]
    omega
  · apply BitVec.eq_of_toNat_eq
    simp [BitVec.extractLsb'_toNat]

theorem natBytes4_layout (n : Nat) : natBytes4 n = Layout.num4 n := rfl

theorem tempBytes_layout (v : Option Int) : tempBytes v = Layout.temp v := by
  cases v with
  | none => decide
  | some v =>
    rw [Layout.temp, ← natBytes2_layout]
    simp only [tempBytes, natBytes2, wordOf]
    congr 1
    apply BitVec.eq_of_toNat_eq
    simp [BitVec.toNat_ofInt]
    omega

theorem co2Bytes_layout (v : Option Nat) : co2Bytes v = Layout.co2 v := by
  cases v with
  | none => decide
  | some v => exact natBytes2_layout v

theorem argByte_layout (v : Option Nat) : argByte v = Layout.arg v := by cases v <;> rfl
theorem nodeByte_layout (v : Option NodeId) : nodeByte v = Layout.node v := by cases v <;> rfl
theorem flagByte_layout (b : Bool) : flagByte b = Layout.flag b := rfl

theorem ageBytes_layout (since now : Time) : natBytes2 (ageSeconds since now) = Layout.age since now :=
  natBytes2_layout _

theorem timeLeft_layout (u : Nat) (t : Timer) (now : Time) (h : 1 ≤ u) : timeLeft u t now = Layout.left u t now := by
  cases t with
  | none => rfl
  | some d =>
    have e : d - now + (u - 1) = d - now + u - 1 := (Nat.add_sub_assoc h _).symm
    simp only [timeLeft, Layout.left, e]

theorem zoneSetBytes_layout (b : BitVec 24) : zoneSetBytes b = Layout.zoneSet b := by
  simp only [zoneSetBytes, Layout.zoneSet, byteOf, List.cons.injEq, and_true]
  refine ⟨?_, ?_, ?_⟩ <;> apply BitVec.eq_of_toNat_eq <;>
    simp [BitVec.extractLsb'_toNat, Nat.shiftRight_eq_div_pow]

theorem condSetBytes_layout (b : BitVec 12) : condSetBytes b = Layout.condSet b := by
  rw [Layout.condSet, ← natBytes2_layout]
  simp only [condSetBytes, natBytes2, wordOf]
  congr 1
  apply BitVec.eq_of_toNat_eq
  simp

theorem zoneFlagsByte_layout (f : ZoneFlags) :
    f.byte = byteOf (f.saturated.toNat + 2 * f.sensorLost.toNat + 4 * f.actuatorFault.toNat +
      8 * f.curtainExpired.toNat) := by
  cases f with | mk a b c d => cases a <;> cases b <;> cases c <;> cases d <;> decide

theorem doorByte_layout (r : ZoneRec) : doorByte r = byteOf (r.openDoors.toNat + 128 * r.curtainSpent.toNat) := by
  unfold doorByte
  generalize r.openDoors = d
  generalize r.curtainSpent = c
  revert d c
  decide

theorem pendingSet_layout (c : CondBlock) : c.pendingSet.toNat = Layout.pendingBits c := by
  simp only [CondBlock.pendingSet, CondBlock.flags, Layout.pendingBits]
  generalize c.compFault.pending = a1
  generalize c.nodeOffline.pending = a2
  generalize c.nodeFault.pending = a3
  generalize c.auxLockout = a4
  generalize c.sensorLost.pending = a5
  generalize c.shedActive = a6
  generalize c.zoneSaturated.pending = a7
  generalize c.curtainExpired.pending = a8
  generalize c.purgeAuto.pending = a9
  generalize c.linkOverrun.pending = a10
  generalize c.commissionDone.pending = a11
  generalize c.stopped = a12
  revert a1 a2 a3 a4 a5 a6 a7 a8 a9 a10 a11 a12
  decide +kernel

/-- PLANT_QUERY's payload is its layout. -/
theorem plantReply_layout (s : State) : plantReply s = Layout.plant s := by
  simp [plantReply, Layout.plant, sequencerBytes, heaterBytes, viewBytes, flagByte_layout, argByte_layout,
    nodeByte_layout, natBytes2_layout, timeLeft_layout, Plant.coolantOnly, Config.second]

/-- ZONE_QUERY's payload is its layout. -/
theorem zoneReply_layout (s : State) (z : Zone) : zoneReply s z = Layout.zone s z := by
  have e : (((s.zone z).stack.reverse.map (entryBytes s.now)).flatten) = ((s.zone z).stack.reverse.flatMap
      (fun e => byteOf (e.kind.code + 16 * causeCode e.cause) :: Layout.age e.start s.now)) := by
    have f : entryBytes s.now = fun e =>
        byteOf (e.kind.code + 16 * causeCode e.cause) :: Layout.age e.start s.now := by
      funext e
      rw [entryBytes, ageBytes_layout]
    rw [List.flatMap_def, f]
  simp only [zoneReply, Layout.zone, zoneConfigBytes, zoneRunBytes, stackBytes, zoneTimerBytes, zoneShareBytes,
    flagByte_layout, tempBytes_layout, co2Bytes_layout, nodeByte_layout, zoneFlagsByte_layout, doorByte_layout,
    ageBytes_layout, e]
  have l (t : Timer) : natBytes2 (timeLeft Config.second t s.now) = Layout.num2 (Layout.left 8000 t s.now) := by
    rw [timeLeft_layout _ _ _ (by decide), natBytes2_layout, Config.second]
  simp only [l, List.append_assoc, List.cons_append, List.nil_append]
  try rfl

theorem queuedBytes_layout (e : Entry) :
    queuedBytes e = [byteOf (e.cmd.code + 128 * e.urgent.toNat), byteOf (if e.cmd = .move then e.argument else 0)] := by
  cases h : e.urgent <;> simp [queuedBytes, h]

theorem presenceByte_layout (s : State) (n : NodeId) :
    presenceByte s n = byteOf ((s.node n).version.isSome.toNat + 2 * (s.node n).busySince.isSome.toNat +
      4 * (match s.line.inFlight with | none => false | some x => decide (x.node = some n)).toNat) := by
  have f (a b c : Bool) : flagBits 8 0 [a, b, c] = byteOf (a.toNat + 2 * b.toNat + 4 * c.toNat) := by
    cases a <;> cases b <;> cases c <;> decide
  exact f _ _ _

theorem valueBytes_layout (k : Option NodeKind) (v : Option Value) : valueBytes k v =
    match v with
    | some (.reading a c) => Layout.temp (some a) ++ Layout.co2 (some c)
    | some (.num x) => [byteOf x, 0#8, 0#8, 0#8]
    | none => if k = some .sensor then [0x80#8, 0x00#8, 0xFF#8, 0xFF#8] else [0xFF#8, 0#8, 0#8, 0#8] := by
  match v with
  | none =>
    have e : tempBytes none ++ co2Bytes none = [0x80#8, 0x00#8, 0xFF#8, 0xFF#8] := by decide
    simp only [valueBytes, e]
  | some (.num x) => rfl
  | some (.reading a c) => simp only [valueBytes, tempBytes_layout, co2Bytes_layout]

theorem busyAge_layout (now : Time) (b : Option Time) :
    natBytes2 (busyAge now b) = match b with | none => [0#8, 0#8] | some b => Layout.age b now := by
  cases b with
  | none => exact (by decide : natBytes2 0 = [0#8, 0#8])
  | some b => exact ageBytes_layout b now

theorem pendingArgByte_layout (p : Option PendingMove) : pendingArgByte p = Layout.arg (p.map (·.argument)) := by
  cases p <;> rfl

/-- NODE_QUERY's payload is its layout. -/
theorem nodeReply_layout (s : State) (n : NodeId) : nodeReply s n = Layout.nodeRec s n := by
  have e : (entriesFor s n).map queuedBytes = (entriesFor s n).map (fun e =>
      [byteOf (e.cmd.code + 128 * e.urgent.toNat), byteOf (if e.cmd = .move then e.argument else 0)]) :=
    List.map_congr_left (fun e _ => queuedBytes_layout e)
  have l (t : Timer) : natBytes2 (timeLeft Config.ms t s.now) = Layout.num2 (Layout.left 8 t s.now) := by
    rw [timeLeft_layout _ _ _ (by decide), natBytes2_layout, Config.ms]
  have m (t : Timer) : natBytes2 (timeLeft Config.second t s.now) = Layout.num2 (Layout.left 8000 t s.now) := by
    rw [timeLeft_layout _ _ _ (by decide), natBytes2_layout, Config.second]
  simp only [nodeReply, nodeRecordBytes, nodeTimerBytes, presenceByte_layout, valueBytes_layout, e, l, m, busyAge_layout,
    pendingArgByte_layout, argByte_layout, flagByte_layout, countOf]
  simp only [Layout.nodeRec, List.flatMap_def, List.append_assoc, List.cons_append, List.nil_append, pendingOriginByte,
    versionByte, entriesFor]
  try rfl

theorem firstBit_first (s : State) : firstCondition s (firstBit (s.cond.pendingSet &&& s.cond.mask)) := by
  generalize h : s.cond.pendingSet &&& s.cond.mask = b
  have e : ∀ b : BitVec 12, (firstBit b = 0 ∧ b = 0#12) ∨ (1 ≤ firstBit b ∧ firstBit b ≤ 12 ∧
      b.getLsbD (firstBit b - 1) = true ∧ ∀ j < 12, j + 1 < firstBit b → b.getLsbD j = false) := by decide +kernel
  rw [firstCondition, h]
  refine (e b).imp id (fun x => ⟨x.1, x.2.1, x.2.2.1, fun j hj => ?_⟩)
  exact x.2.2.2 j (by omega) hj

/-- COND_QUERY's payload is its layout. -/
theorem condReply_layout (s : State) :
    condReply s = Layout.cond s (firstBit (s.cond.pendingSet &&& s.cond.mask)) := by
  simp only [condReply, Layout.cond, condSetBytes_layout, flagByte_layout, Layout.condSet, pendingSet_layout]
  have e (r : Sticky) : stickyBytes r = [byteOf r.count, byteOf (r.last.getD 0)] := by
    cases h : r.last <;> simp [stickyBytes, h, byteOf]
  simp only [stickyPlaces, List.map_cons, List.map_nil, e, CondBlock.sticky, List.flatMap_cons, List.flatMap_nil]
  rfl

/-- STATE_QUERY's payload is its layout. -/
theorem stateReply_layout (s : State) : stateReply s = Layout.state s := by
  simp only [stateReply, stateHead, commissioningBytes, stateCounts, protectionBytes, refusalBytes, restByte,
    ageBytes_layout, flagByte_layout, zoneSetBytes_layout, Layout.state]
  have a : Layout.nodesOf s (fun _ => true) = byteOf (configuredNodes s).length := by
    simp [Layout.nodesOf, configuredNodes, allNodes]
  have b (st : NodeState) : Layout.nodesOf s (fun n => decide ((s.node n).state = st)) = byteOf (nodesIn s st) := by
    simp [Layout.nodesOf, nodesIn, countOf, configuredNodes, allNodes, List.filter_filter, Bool.and_comm]
  have c : decide (s.plant.seq.state ∈ [Seq.off, .lockout, .fault]) = s.plant.seq.state.atRest := by
    cases s.plant.seq.state <;> rfl
  have d : decide (s.plant.heater.state ∈ [HeaterState.off, .igniteWait, .lockedOut]) = s.plant.heater.state.atRest := by
    cases s.plant.heater.state <;> rfl
  by_cases h : s.op.state = .commissioning
  · have e : Layout.nodesOf s (fun n => s.op.done[n]) =
        byteOf (countOf (configuredNodes s) (fun n => s.op.done[n])) := by
      simp [Layout.nodesOf, countOf, configuredNodes, allNodes, List.filter_filter, Bool.and_comm]
    cases hr : s.op.lastRefusal <;> cases hp : s.port.protection.range <;>
      (simp only [a, b, c, d, e, h, List.map_cons, List.map_nil, if_true, decide_true, Bool.true_and]; rfl)
  · have e : Layout.nodesOf s (fun _ => false) = 0#8 := by simp [Layout.nodesOf, byteOf]
    cases hr : s.op.lastRefusal <;> cases hp : s.port.protection.range <;>
      (simp only [a, b, c, d, e, h, List.map_cons, List.map_nil, if_false, decide_false, Bool.false_and]; rfl)

end Sys2Proof.Machine
end

