-- ==== Sys2Proof/Tests/Slice0.lean ====
section
/-! SUPPORT. Checks of the work on small states: each check of WellFormed refuses an ill-formed command, and for every
statement with hypotheses a state and operands that meet them, with what the command then does there. -/
namespace Sys2Proof.Tests

-- One theorem at a time: each is a kernel evaluation, and together they would ask for more threads than memory holds.
set_option Elab.async false

open Sys2Proof.Machine

/-! ## Small states -/

/-- The command answers a next state of which p holds. -/
def nextHolds (o : Host.Outcome State Fault Refusal) (p : State → Bool) : Bool :=
  match o with
  | .next t => p t
  | .fault _ => false
  | .refused _ => false

/-- The command answers the state given. -/
def nextIs (o : Host.Outcome State Fault Refusal) (t : State) : Bool := nextHolds o (fun u => decide (u = t))

/-- The answer flags, KIND and payload of the reply being sent. -/
def answer (t : State) (kind flag : Byte) (payload : List Byte) : Bool :=
  match t.port.sending with
  | none => false
  | some r => decide (r.kind = kind) && decide (answerFlags r.status = flag) && decide (r.payload = payload)

def inState (p : PartState) : State := { State.reset with op := { State.reset.op with state := p } }
def inRun : State := inState .run

/-- A READY node of a kind. -/
def readyOf (k : NodeKind) : NodeRec := { NodeRec.reset with configured := true, kind := some k, state := .ready }

/-- Zone 1 in AUTO at 20 degrees, wanting heat, with its sensor 1, blower 2 and valve 3 READY, and HEAT capacity 10. -/
def warm : State :=
  let s := ((inRun.setNode 0 (readyOf .sensor)).setNode 1 (readyOf .blower)).setNode 2 (readyOf .valve)
  let s := s.setArb { s.arb with heat := { s.arb.heat with capacity := 10 } }
  s.setZone 0 { ZoneRec.reset 0 with
    active := true, baseMode := .auto, sensor := some 0, blower := some 1, valve := some 2, temperature := some 200 }

/-- Zone 24 with an override on top. -/
def overridden (k : EntryKind) : State :=
  warm.setZone 23 { ZoneRec.reset 0 with
    active := true, baseMode := .vent, stack := [⟨k, none, 0⟩, ⟨.base, none, 0⟩], defogTimer := some 40
    curtainTimer := some 50, holdTimer := some 60, tempSetpoint := some 230, openDoors := 1#4 }

/-- A compressor 4 of two stages, an aux heater 5 and an intake 6, READY. -/
def withPlant (s : State) : State :=
  let s := ((s.setNode 3 { readyOf .compressor with binding := some (.plant .compressor) }).setNode 4
    { readyOf .auxheat with binding := some (.plant .auxHeater) }).setNode 5
    { readyOf .damper with binding := some (.plant .intake) }
  s.setPlant { s.plant with
    band := .cruise
    defn := { s.plant.defn with
      compressor := some 3, u1 := 4, u2 := 4, idleMax := 1, cruiseMax := 2, pullMax := 2, auxHeater := some 4
      auxUnits := 6, coolantUnits := 5, intake := some 5 } }

def plantRun : State := withPlant inRun

def zoneArgs : ZoneDefArgs := ⟨24#8, 2#8, 16#8, 2#8, 30#8, 31#8, 0#8, 31#8, 1#8, 300#16, 4#8⟩
def plantArgs : PlantDefArgs :=
  ⟨31#8, 16#8, 0#8, 0#8, 0#8, 1#8, 1#8, 4#8, 30#16, 300#16, 10#8, 0#8, 32#8, 21#8, 1#8⟩
def tuneArgs : TuneDefArgs :=
  ⟨10#8, 50#8, 30#8, 240#8, 600#16, 800#16, 700#16, 60#16, 900#16, 10#8, 100#16, 5#16, 300#16, 5#16, 300#16, 5#16⟩

/-- A MOVE of a plant node. -/
def moveOf (n : NodeId) (a : Nat) (o : Origin) : Txn := ⟨some n, .move, a, true, o, [o], 1, none⟩

/-! ## Well-formed commands, and the table's bits -/

theorem test_loop_zone_refused :
    (Instr.loopTimerExpiry 0).wellFormed = false ∧ (Instr.loopTimerExpiry 25).wellFormed = false ∧
    (Instr.loopTimerExpiry 1).wellFormed = true ∧ (Instr.loopTimerExpiry 24).wellFormed = true := by decide
theorem test_hold_zone_refused :
    (Instr.holdTimerExpiry 0).wellFormed = false ∧ (Instr.holdTimerExpiry 25).wellFormed = false := by decide
theorem test_defog_zone_refused :
    (Instr.defogTimerExpiry 0).wellFormed = false ∧ (Instr.defogTimerExpiry 25).wellFormed = false := by decide
theorem test_curtain_zone_refused :
    (Instr.curtainTimerExpiry 0).wellFormed = false ∧ (Instr.curtainTimerExpiry 25).wellFormed = false := by decide
theorem test_claim_zone_refused :
    (Instr.claimSaturation 0).wellFormed = false ∧ (Instr.claimSaturation 25).wellFormed = false := by decide
theorem test_wake_node_refused :
    (Instr.wakeTimerExpiry 0).wellFormed = false ∧ (Instr.wakeTimerExpiry 32).wellFormed = false ∧
    (Instr.wakeTimerExpiry 1).wellFormed = true ∧ (Instr.wakeTimerExpiry 31).wellFormed = true := by decide
theorem test_poll_node_refused :
    (Instr.nodePollTimerExpiry 0).wellFormed = false ∧ (Instr.nodePollTimerExpiry 32).wellFormed = false := by decide
theorem test_travel_node_refused :
    (Instr.travelTimerExpiry 0).wellFormed = false ∧ (Instr.travelTimerExpiry 32).wellFormed = false := by decide
theorem test_revival_node_refused :
    (Instr.revivalTimerExpiry 0).wellFormed = false ∧ (Instr.revivalTimerExpiry 32).wellFormed = false := by decide

theorem test_no_word_spells_a_command : decodeTableWord 0 0 = none ∧ decodeTableWord 8 195 = none := by decide

/-! ## The machine and its resets -/

theorem test_step_runs_the_front :
    nextHolds (step (State.reset.withPending [.engine 1#8 2#8 3#8, .restart 2#8])) (fun t =>
      decide (t.plant.band = .cruise) && decide (t.plant.coolant = 3) && decide (t.pending = [.restart 2#8])) = true := by
  decide +kernel
theorem test_empty_queue_ticks :
    State.reset.pending = [] ∧ nextIs (step State.reset) { State.reset with now := 1 } = true := by decide +kernel
theorem test_events_of_no_record :
    exec (.loopTimerExpiry 0) State.reset = .fault (.noSuchZone 0) ∧
    exec (.claimSaturation 25) State.reset = .fault (.noSuchZone 25) ∧
    exec (.wakeTimerExpiry 32) State.reset = .fault (.noSuchNode 32) := ⟨rfl, rfl, rfl⟩
theorem test_held_part_keeps_still :
    ({ inRun with held := true } : State).held = true ∧ (Instr.shutdown 1#8).wellFormed = true ∧
    nextIs (exec (.shutdown 1#8) { inRun with held := true }) { inRun with held := true } = true := by decide +kernel
theorem test_hold_then_reset :
    nextHolds (exec .hardResetHold { inRun with port := { inRun.port with rx := .inFrame [3#8] } }) (fun t =>
      t.held && decide (t.port.rx = .hunt) && nextHolds (exec (.hardReset .pin) t) (fun u =>
        decide (u.op.state = .config) && decide (u.op.cause = .pin))) = true := by decide +kernel

/-! ## The port -/

theorem test_whole_frame :
    ([] : List Byte).length ≤ 60 ∧ (List.replicate 60 1#8).length ≤ 60 ∧ State.reset.held = false ∧
    State.reset.port.rx = .hunt ∧ State.reset.port.rxTimer = none ∧
    nextHolds (exec (.frameReceived (requestBytes 0x40#8 7#8 [])) State.reset) (fun t =>
      answer t 0xC0#8 0#8 (stateReply State.reset)) = true ∧
    nextHolds (exec (.frameReceived (requestBytes 0x40#8 7#8 (List.replicate 60 1#8))) State.reset) (fun t =>
      answer t 0xC0#8 0x20#8 []) = true := by decide +kernel
theorem test_offer_by_port_state :
    State.reset.portFree ∧
    nextHolds (exec (.stateQuery 1#8) State.reset) (fun t =>
      nextHolds (exec (.condQuery 2#8) t) (fun u =>
        u.port.slot.isSome && !u.cond.linkOverrun.pending && nextHolds (exec (.condQuery 3#8) u) (fun v =>
          v.cond.linkOverrun.pending))) = true := by decide +kernel
theorem test_query_payloads :
    (23#8 : Byte).toNat ≤ 23 ∧ (Layout.state State.reset).length = 36 ∧
    nextHolds (exec (.zoneQuery 1#8 24#8) State.reset) (fun t => answer t 0xC1#8 0#8 (Layout.zone State.reset 23)) = true ∧
    nextHolds (exec (.nodeQuery 1#8 31#8) State.reset) (fun t => answer t 0xC3#8 0#8 (Layout.nodeRec State.reset 30)) = true ∧
    nextHolds (exec (.poolQuery 1#8 2#8 1#8 23#8) State.reset) (fun t =>
      answer t 0xC2#8 0#8 (Layout.poolHead State.reset .cool 1#8 23#8 0)) = true ∧
    nextHolds (exec (.plantQuery 1#8) plantRun) (fun t => answer t 0xC4#8 0#8 (Layout.plant plantRun)) = true ∧
    nextHolds (exec (.condQuery 1#8) State.reset) (fun t => answer t 0xC5#8 0#8 (Layout.cond State.reset 0)) = true ∧
    nextHolds (exec (.poolQuery 1#8 3#8 1#8 0#8) State.reset) (fun t => answer t 0xC2#8 0x20#8 []) = true := by
  decide +kernel
theorem test_broken_frames :
    State.reset.portFree ∧ State.reset.port.rx = .hunt ∧ State.reset.port.rxTimer = none ∧
    (1#8 : Byte).toNat < 2 ∧ 62 < (63#8 : Byte).toNat ∧ 0#16 ≠ requestCrc 0x40#8 7#8 [] ∧
    nextHolds (exec (.frameReceived [0xC3#8, 1#8]) State.reset) (fun t => answer t 0xFF#8 8#8 []) = true ∧
    nextHolds (exec (.frameReceived [0xC3#8, 63#8]) State.reset) (fun t => answer t 0xFF#8 8#8 []) = true ∧
    nextHolds (exec (.frameReceived [0xC3#8, 2#8, 0x40#8, 7#8, 0#8, 0#8]) State.reset) (fun t =>
      answer t 0xFF#8 8#8 []) = true := by decide +kernel
theorem test_crc_and_reply_bytes :
    crc16 [] = 0xFFFF#16 ∧ crc16 [0x31#8, 0x32#8, 0x33#8, 0x34#8, 0x35#8, 0x36#8, 0x37#8, 0x38#8, 0x39#8] = 0x29B1#16 ∧
    bitsFromTop 0xC1#8 = [true, true, false, false, false, false, false, true] ∧
    ([0x31#8, 0x32#8].flatMap bitsFromTop).foldl crcTakesBit 0xFFFF#16 = crc16 [0x31#8, 0x32#8] ∧
    (⟨0x92#8, 1#8, 0#8, [7#8]⟩ : Reply).bytes =
      [0xC3#8, 4#8, 0x92#8, 1#8, 0#8, 7#8] ++ wordBytes (crc16 [4#8, 0x92#8, 1#8, 0#8, 7#8]) := by decide +kernel
theorem test_frame_gap :
    nextIs (exec (.frameReceived [0x3C#8]) State.reset) State.reset = true ∧
    nextIs (exec .frameGapTimeout State.reset) State.reset = true ∧
    nextHolds (exec (.frameReceived [0xC3#8]) State.reset) (fun t =>
      decide (t.port.rxTimer = some 40) && nextHolds (exec .frameGapTimeout t) (fun u =>
        decide (u.now = 40) && decide (u.port.rx = .hunt))) = true := by decide +kernel
theorem test_reply_sent :
    nextIs (exec .replySent State.reset) State.reset = true ∧
    nextHolds (exec (.stateQuery 1#8) State.reset) (fun t =>
      t.port.sending.isSome && nextIs (exec .replySent t) State.reset) = true ∧
    nextHolds (exec (.stateQuery 1#8) State.reset) (fun t => nextHolds (exec (.condQuery 2#8) t) (fun u =>
      nextHolds (exec .replySent u) (fun v =>
        answer v 0xC5#8 0#8 (condReply State.reset) && v.port.slot.isNone))) = true := by decide +kernel
/-- A state with a RESTART being answered, its line in the phase given. -/
def restarting (p : LinePhase) : State :=
  { inRun with
    op := { inRun.op with soft := .reply }, port := { inRun.port with sending := some ⟨0x92#8, 1#8, 0#8, []⟩ }
    line := { inRun.line with phase := p, timer := some 7, replyStart := some 0 } }
theorem test_restart_cuts :
    (∀ p : LinePhase, (restarting p).held = false ∧ (restarting p).port.sending ≠ none ∧
      (restarting p).op.soft = .reply) ∧
    nextHolds (exec (.restart 1#8) inRun) (fun t => decide (t.op.soft = .reply) && answer t 0x92#8 0#8 []) = true ∧
    nextHolds (exec .replySent (restarting .idle)) (fun t =>
      decide (t.line.phase = .gap) && decide (t.line.timer = some 10)) = true ∧
    nextHolds (exec .replySent (restarting .sending)) (fun t =>
      decide (t.line.phase = .sending) && decide (t.line.timer = some 2) && t.line.cut) = true ∧
    nextHolds (exec .replySent (restarting .closing)) (fun t =>
      decide (t.line.phase = .drain) && decide (t.line.timer = some 7)) = true ∧
    nextHolds (exec .replySent (restarting .gap)) (fun t => t.line.cut && decide (t.line.timer = some 7)) = true := by
  refine ⟨fun p => ⟨rfl, fun h => (nomatch h), rfl⟩, ?_⟩
  decide +kernel
theorem test_wrong_state :
    inRun.portFree ∧ inRun.port.rx = .hunt ∧
    nextHolds (exec (.frameReceived (requestBytes 0x10#8 7#8 [])) inRun) (fun t =>
      answer t 0x90#8 0x40#8 [1#8, 2#8]) = true ∧
    nextHolds (exec (.frameReceived (requestBytes 0x11#8 7#8 [])) State.reset) (fun t =>
      answer t 0x91#8 0x40#8 [1#8, 0#8]) = true ∧
    nextHolds (exec (.frameReceived (requestBytes 0x23#8 7#8 [])) (State.reset.setTag (.opened 3))) (fun t =>
      answer t 0xA3#8 0x40#8 [1#8, 0#8] && decide (t.port.tag = .opened 3)) = true ∧
    nextHolds (exec (.frameReceived (requestBytes 0x2B#8 7#8 [])) (State.reset.setTag (.opened 3))) (fun t =>
      answer t 0xAB#8 0x40#8 [1#8, 0#8] && decide (t.port.tag = .none)) = true := by decide +kernel
theorem test_unknown_kind_and_length :
    (∀ k : Kind, k.code ≠ 0x80#8) ∧ (∀ k : Kind, k.code ≠ 0#8) ∧
    Kind.condMask.takenIn.includes State.reset.op.state = true ∧ ([] : List Byte).length ≠ Kind.condMask.length ∧
    nextHolds (exec (.frameReceived (requestBytes 0x80#8 7#8 [])) State.reset) (fun t => answer t 0xFF#8 4#8 []) = true ∧
    nextHolds (exec (.frameReceived (requestBytes 0#8 7#8 [])) State.reset) (fun t => answer t 0x80#8 4#8 []) = true ∧
    nextHolds (exec (.frameReceived (requestBytes 0x47#8 7#8 [])) State.reset) (fun t =>
      answer t 0xC7#8 0x20#8 []) = true := by
  refine ⟨fun k => by cases k <;> decide, fun k => by cases k <;> decide, ?_⟩
  decide +kernel
theorem test_range_lengths :
    ([] : List Byte).length ≠ Kind.rangeClose.length ∧ Kind.rangeApply.takenIn.includes inRun.op.state = true ∧
    nextHolds (exec (.frameReceived (requestBytes 0x23#8 7#8 [])) (inRun.setTag (.opened 3))) (fun t =>
      answer t 0xA3#8 0x20#8 [] && decide (t.port.tag = .opened 3) && !t.replyFlag 1) = true ∧
    nextHolds (exec (.frameReceived (requestBytes 0x23#8 7#8 [])) inRun) (fun t => answer t 0xA3#8 0x10#8 []) = true ∧
    nextHolds (exec (.frameReceived (requestBytes 0x24#8 7#8 [])) (inRun.setTag (.closed 3 4))) (fun t =>
      answer t 0xA4#8 0x20#8 [] && decide (t.port.tag = .none) && t.replyFlag 1) = true ∧
    nextHolds (exec (.frameReceived (requestBytes 0x24#8 7#8 [])) (inRun.setTag (.opened 3))) (fun t =>
      answer t 0xA4#8 0x10#8 [] && t.replyFlag 1) = true := by decide +kernel
theorem test_bad_actions :
    ¬ byteIn 1 2 0#8 ∧ ¬ byteIn 1 2 3#8 ∧ ¬ byteIn 1 4 0#8 ∧ ¬ byteIn 1 4 5#8 ∧ warm.zoneOpen 0 .panel ∧
    nextHolds (exec (.frameReceived (requestBytes 0x25#8 7#8 [4#8, 3#8])) inRun) (fun t =>
      answer t 0xA5#8 0x20#8 []) = true ∧
    nextHolds (exec (.frameReceived (requestBytes 0x28#8 7#8 [1#8, 2#8, 0#8])) warm) (fun t =>
      answer t 0xA8#8 0x20#8 []) = true ∧
    nextHolds (exec (.frameReceived (requestBytes 0x29#8 7#8 [3#8])) (inRun.setTag (.opened 3))) (fun t =>
      answer t 0xA9#8 0x20#8 [] && t.replyFlag 1 && decide (t.port.tag = .none)) = true ∧
    nextHolds (exec (.frameReceived (requestBytes 0x2B#8 7#8 [31#8, 0#8])) inRun) (fun t =>
      answer t 0xAB#8 0x20#8 []) = true ∧
    nextHolds (exec (.frameReceived (requestBytes 0x24#8 7#8 [1#8, 5#8, 0#8, 1#8])) (inRun.setTag (.closed 3 4)))
      (fun t => answer t 0xA4#8 0x20#8 [] && t.replyFlag 1) = true := by decide +kernel
theorem test_refused_query_keeps_the_port :
    nextHolds (exec (.zoneQuery 1#8 25#8) (inRun.setTag (.opened 3))) (fun t =>
      decide (t.port = { inRun.port with tag := .opened 3, sending := t.port.sending }) && !t.replyFlag 1) = true := by
  decide +kernel
theorem test_queries :
    nextHolds (exec (.zoneQuery 1#8 24#8) warm) (fun t => answer t 0xC1#8 0#8 (zoneReply warm 23)) = true ∧
    nextHolds (exec (.zoneQuery 1#8 25#8) warm) (fun t => answer t 0xC1#8 0x20#8 []) = true ∧
    nextHolds (exec (.nodeQuery 1#8 31#8) warm) (fun t => answer t 0xC3#8 0#8 (nodeReply warm 30)) = true ∧
    nextHolds (exec (.nodeQuery 1#8 0#8) warm) (fun t => answer t 0xC3#8 0x20#8 []) = true ∧
    nextHolds (exec (.poolQuery 1#8 1#8 2#8 23#8) warm) (fun t =>
      answer t 0xC2#8 0#8 [1#8, 10#8, 0#8, 10#8, 0#8, 0#8, 2#8, 23#8, 0#8]) = true ∧
    nextHolds (exec (.poolQuery 1#8 1#8 2#8 24#8) warm) (fun t => answer t 0xC2#8 0x20#8 []) = true ∧
    nextHolds (exec (.plantQuery 1#8) warm) (fun t => answer t 0xC4#8 0#8 (plantReply warm)) = true := by
  decide +kernel

/-! ## Configuration and part state -/

theorem test_zone_def :
    State.reset.portFree ∧ State.reset.takesConfiguration ∧ zoneArgs.zone.toNat = (23 : Zone).number ∧
    zoneDefInRange zoneArgs ∧ ¬ zoneDefInRange { zoneArgs with wmax := 17#8 } ∧
    nextHolds (exec (.zoneDef 1#8 zoneArgs) (State.reset.setNode 4 { NodeRec.reset with
      binding := some (.zone 23 .damper) })) (fun t =>
      answer t 0x81#8 0#8 [] && decide ((t.zone 23).sensor = some 30) && decide ((t.zone 23).blower = none) &&
      decide ((t.node 4).binding = none)) = true ∧
    nextHolds (exec (.zoneDefInactive 1#8 zoneArgs) State.reset) (fun t =>
      answer t 0x81#8 0#8 [] && !(t.zone 23).active) = true ∧
    nextHolds (exec (.zoneDef 1#8 { zoneArgs with wmax := 17#8 }) State.reset) (fun t =>
      answer t 0x81#8 0x20#8 []) = true ∧
    nextHolds (exec (.zoneDefInactive 1#8 { zoneArgs with zone := 25#8 }) State.reset) (fun t =>
      answer t 0x81#8 0x20#8 []) = true := by decide +kernel
theorem test_node_def :
    (31#8 : Byte).toNat = (30 : NodeId).address ∧ byteIn 1 6 6#8 ∧ ¬ byteIn 1 6 7#8 ∧
    nextHolds (exec (.nodeDef 1#8 31#8 1#8 6#8) State.reset) (fun t =>
      answer t 0x82#8 0#8 [] && decide ((t.node 30).kind = some .auxheat)) = true ∧
    nextHolds (exec (.nodeDef 1#8 1#8 0#8 7#8) State.reset) (fun t =>
      answer t 0x82#8 0#8 [] && !(t.node 0).configured) = true ∧
    nextHolds (exec (.nodeDef 1#8 1#8 1#8 7#8) State.reset) (fun t => answer t 0x82#8 0x20#8 []) = true := by
  decide +kernel
theorem test_door_def :
    (4#8 : Byte).toNat = (3 : Door).number ∧ ¬ byteIn 1 4 5#8 ∧
    nextHolds (exec (.doorDef 1#8 4#8 0x800001#24) State.reset) (fun t =>
      answer t 0x83#8 0#8 [] && decide (t.zones.doorMap[3] = 0x800001#24)) = true ∧
    nextHolds (exec (.doorDef 1#8 5#8 0#24) State.reset) (fun t => answer t 0x83#8 0x20#8 []) = true := by
  decide +kernel
theorem test_plant_def :
    plantDefInRange plantArgs ∧ ¬ plantDefInRange { plantArgs with coolantUnits := 22#8 } ∧
    State.reset.arb.heat.grants = [] ∧ State.reset.arb.heat.claims = [] ∧
    nextHolds (exec (.plantDef 1#8 plantArgs) State.reset) (fun t =>
      answer t 0x84#8 0#8 [] && decide (t.plant.defn.compressor = some 30)) = true ∧
    nextHolds (exec (.plantDef 1#8 { plantArgs with coolantUnits := 22#8 }) State.reset) (fun t =>
      answer t 0x84#8 0x20#8 []) = true := by decide +kernel
theorem test_tune_def :
    tuneDefInRange tuneArgs ∧ ¬ tuneDefInRange { tuneArgs with purgeOff := 701#16 } ∧ ¬ inRun.takesConfiguration ∧
    nextHolds (exec (.tuneDef 1#8 tuneArgs) State.reset) (fun t =>
      answer t 0x85#8 0#8 [] && decide (t.zones.tuning.purgeOff = 700) && decide (t.plant.stopDelay = 900)) = true ∧
    nextHolds (exec (.tuneDef 1#8 { tuneArgs with purgeOff := 701#16 }) State.reset) (fun t =>
      answer t 0x85#8 0x20#8 []) = true ∧
    nextHolds (exec (.tuneDef 1#8 tuneArgs) inRun) (fun t => answer t 0x85#8 0x40#8 [1#8, 2#8]) = true := by
  refine ⟨by unfold tuneDefInRange; decide, by unfold tuneDefInRange; decide, ?_⟩
  decide +kernel
/-- A configuration that passes: one coolant unit, and node 1 a SENSOR that zone 1 names. -/
def sound : State :=
  ((State.reset.setPlant { State.reset.plant with defn := { PlantDef.reset with coolantUnits := 1 } }).setZone 0
    { ZoneRec.reset 0 with active := true, sensor := some 0 }).setNode 0
    { NodeRec.reset with configured := true, kind := some .sensor }
theorem test_validation :
    sound.validate = none ∧ State.reset.validate = some ⟨.plant, 0, .coolantUnits⟩ ∧
    (sound.setNode 0 NodeRec.reset).checkZone 0 = some ⟨.zone, 1, .sensorKind⟩ ∧
    (sound.setNode 0 NodeRec.reset).validate = some ⟨.zone, 1, .sensorKind⟩ := by decide +kernel
/-- The same with a compressor 4 of one stage, an aux heater 5 and an intake 6 that pass. -/
def soundPlant : State :=
  let s := ((sound.setNode 3 { NodeRec.reset with configured := true, kind := some .compressor }).setNode 4
    { NodeRec.reset with configured := true, kind := some .auxheat }).setNode 5
    { NodeRec.reset with configured := true, kind := some .damper }
  s.setPlant { s.plant with
    defn := { s.plant.defn with
      compressor := some 3, u1 := 4, idleMax := 1, auxHeater := some 4, auxUnits := 6, intake := some 5 } }
/-- The same with another plant definition. -/
def planned (f : PlantDef → PlantDef) : State :=
  soundPlant.setPlant { soundPlant.plant with defn := f soundPlant.plant.defn }
theorem test_validation_plant :
    soundPlant.validate = none ∧ 2 ≤ ((planned (fun d => { d with intake := some 0 })).rolesOf 0).length ∧
    (planned (fun d => { d with compressor := some 4 })).validate = some ⟨.node, 5, .compressorKind⟩ ∧
    (planned (fun d => { d with pullMax := 2 })).validate = some ⟨.node, 4, .stageUnits⟩ ∧
    (planned (fun d => { d with auxHeater := some 30 })).validate = some ⟨.node, 31, .auxKind⟩ ∧
    (planned (fun d => { d with auxUnits := 0 })).validate = some ⟨.node, 5, .auxUnits⟩ ∧
    (planned (fun d => { d with intake := some 4 })).validate = some ⟨.node, 5, .intakeKind⟩ ∧
    (planned (fun d => { d with coolantUnits := 0 })).validate = some ⟨.plant, 0, .coolantUnits⟩ := by decide +kernel
theorem test_validation_last_passes :
    (soundPlant.setZone 1 { ZoneRec.reset 0 with active := true, sensor := some 0, damper := some 5 }).validate =
      some ⟨.node, 1, .doubleBinding⟩ ∧
    ({ soundPlant with
      zones := { soundPlant.zones with doorMap := soundPlant.zones.doorMap.set 3 2#24 (by decide) } } : State).validate =
      some ⟨.door, 4, .doorZone⟩ := by decide +kernel
theorem test_commission :
    sound.portFree ∧ sound.takesConfiguration ∧
    nextHolds (exec (.commission 1#8) State.reset) (fun t => answer t 0x90#8 0x40#8 [4#8, 3#8, 0#8, 10#8]) = true ∧
    nextHolds (exec (.commission 1#8) sound) (fun t =>
      answer t 0x90#8 0#8 [] && decide (t.op.state = .commissioning) && decide ((t.node 0).state = .starting) &&
      decide ((t.node 0).binding = some (.zone 0 .sensor)) && t.queued 0 .wake) = true := by decide +kernel
theorem test_shutdown :
    (inState .commissioning).op.state = .commissioning ∧ warm.op.state = .run ∧ warm.line.phase = .idle ∧
    nextHolds (exec (.shutdown 1#8) (inState .commissioning)) (fun t => decide (t.op.state = .stopped)) = true ∧
    nextHolds (exec (.shutdown 1#8)
      (plantRun.setSequencer { plantRun.plant.seq with state := .running 1 })) (fun t =>
      decide (t.op.state = .stopping) && decide (t.plant.seq.state = .disengaging) &&
      decide (t.line.phase = .lead)) = true := by decide +kernel

/-- The plant at a shutdown, with the line in a READ of node 1. -/
def shuttingDown (q : Seq) (h : HeaterState) : State :=
  let s := plantRun.setSequencer
    { plantRun.plant.seq with state := q, minRunTimer := some 90, holdMet := true, lockoutTimer := some 70 }
  (s.setHeater
    { s.plant.heater with
      state := h, stopMark := true, igniteWaitTimer := some 50, stopDelayTimer := some 60
      flamePollTimer := some 80 }).setLine
    { phase := .awaitReply, txn := some ⟨some 0, .read, 0, false, .zone 0, [.zone 0, .retry], 1, none⟩
      timer := some 100, replyStart := none, chars := [], cut := false }
theorem test_shutdown_stops_the_plant :
    (shuttingDown (.stepUp 1) .igniting).portFree ∧ (shuttingDown (.stepUp 1) .igniting).op.state = .run ∧
    (shuttingDown (.stepUp 1) .igniting).line.phase ≠ .idle ∧
    nextHolds (exec (.shutdown 1#8) (shuttingDown (.stepUp 1) .igniting)) (fun t =>
      decide (t.plant.heater = (shuttingDown (.stepUp 1) .igniting).plant.heater.still .stopping) &&
      decide (t.plant.seq = { plantRun.plant.seq with state := .disengaging }) &&
      decide (t.line.txn = some ⟨some 0, .read, 0, false, .zone 0, [.retry], 1, none⟩) &&
      decide (t.nodes.queue = [⟨none, .move, 0, true, .shutdown, []⟩])) = true ∧
    nextHolds (exec (.shutdown 1#8) (shuttingDown .lockout .igniteWait)) (fun t =>
      decide (t.plant.heater = (shuttingDown .lockout .igniteWait).plant.heater) &&
      decide (t.plant.seq = { plantRun.plant.seq with state := .lockout, lockoutTimer := some 70 }) &&
      decide (t.op.state = .stopped)) = true := by decide +kernel

/-! ## Zone requests -/

/-- A zone 1 that a PANEL_ONLY range protects. -/
def guarded : State := warm.setProtection ⟨some (1, 1), .panelOnly, false⟩
theorem test_zone_refusals :
    warm.portFree ∧ guarded.port.protection.bars 1 .panel = true ∧ warm.port.protection.bars 25 .panel = false ∧
    ¬ byteIn 1 3 4#8 ∧ (warm.zone 23).active = false ∧ warm.zoneOpen 0 .panel ∧
    ¬ warm.setpointTaken 0 .panel 241#16 ∧ warm.setpointTaken 0 .panel 240#16 ∧
    nextHolds (exec (.setpoint 1#8 1#8 4#8 220#16) warm) (fun t => answer t 0xA1#8 0x20#8 []) = true ∧
    nextHolds (exec (.plan 1#8 1#8 2#8 1#8 220#16) guarded) (fun t => answer t 0xA0#8 0x40#8 [2#8]) = true ∧
    nextHolds (exec (.defog 1#8 25#8 2#8 1#8) warm) (fun t => answer t 0xA7#8 0x20#8 []) = true ∧
    nextHolds (exec (.purgeStart 1#8 24#8 2#8) warm) (fun t => answer t 0xA8#8 0x40#8 [5#8]) = true ∧
    nextHolds (exec (.setpoint 1#8 1#8 2#8 241#16) warm) (fun t => answer t 0xA1#8 0x20#8 []) = true ∧
    nextHolds (exec (.defog 1#8 1#8 2#8 31#8) warm) (fun t => answer t 0xA7#8 0x20#8 []) = true := by decide +kernel
theorem test_protection_levels :
    (⟨some (3, 10), .panelAndDriver, false⟩ : Protection).bars 3 .driver = true ∧
    (⟨some (3, 10), .panelAndDriver, false⟩ : Protection).bars 10 .panel = true ∧
    (⟨some (3, 10), .panelAndDriver, false⟩ : Protection).bars 11 .panel = false ∧
    (⟨some (3, 10), .panelAndDriver, false⟩ : Protection).bars 2 .driver = false ∧
    (⟨some (3, 10), .panelAndDriver, false⟩ : Protection).bars 3 .service = false ∧
    (⟨some (3, 10), .panelOnly, false⟩ : Protection).bars 3 .driver = false ∧
    (⟨none, .panelAndDriver, false⟩ : Protection).bars 3 .panel = false := by decide
theorem test_setpoint :
    (1#8 : Byte).toNat = (0 : Zone).number ∧ warm.zoneOpen 0 .driver ∧ warm.setpointTaken 0 .driver 300#16 ∧
    nextHolds (exec (.setpoint 1#8 1#8 1#8 300#16) warm) (fun t =>
      answer t 0xA1#8 0#8 [] && decide ((t.zone 0).planSetpoint = 300) && decide ((t.zone 0).direction = .heat) &&
      decide (t.arb.heat.unitsOf 0 = 8)) = true ∧
    nextHolds (exec (.setpoint 1#8 1#8 2#8 220#16) warm) (fun t =>
      decide ((t.zone 0).tempSetpoint = some 220) && decide ((t.zone 0).want = 0)) = true := by decide +kernel
theorem test_plan :
    (2#8 : Byte).toNat = BaseMode.heatOnly.code ∧
    nextHolds (exec (.plan 1#8 1#8 3#8 2#8 220#16) warm) (fun t =>
      answer t 0xA0#8 0#8 [] && decide ((t.zone 0).baseMode = .heatOnly) && decide ((t.zone 0).want = 4)) = true ∧
    nextHolds (exec (.plan 1#8 24#8 3#8 2#8 220#16) (overridden .curtain)) (fun t =>
      decide ((t.zone 23).baseMode = .heatOnly) && decide ((t.zone 23).tempSetpoint = none)) = true := by
  decide +kernel
theorem test_defog :
    warm.zoneOpen 0 .service ∧ (warm.zone 0).hasEntry .defog = false ∧ byteIn 0 30 30#8 ∧
    (overridden .defog).zoneOpen 23 .service ∧ ((overridden .defog).zone 23).hasEntry .defog = true ∧
    nextHolds (exec (.defog 1#8 1#8 3#8 30#8) warm) (fun t =>
      decide ((t.zone 0).effMode = .defog) && decide ((t.zone 0).want = 8) && decide ((t.zone 0).claimRank = 3)) = true ∧
    nextHolds (exec (.defog 1#8 24#8 3#8 1#8) (overridden .defog)) (fun t =>
      decide ((t.zone 23).defogTimer = some Config.minute)) = true ∧
    nextHolds (exec (.defog 1#8 24#8 3#8 0#8) (overridden .defog)) (fun t =>
      decide ((t.zone 23).effMode = .vent) && decide ((t.zone 23).defogTimer = none)) = true ∧
    nextHolds (exec (.defog 1#8 1#8 3#8 0#8) warm) (fun t =>
      decide (t = warm.setPort t.port)) = true := by decide +kernel
theorem test_purge :
    (warm.zone 0).hasEntry .purge = false ∧ ((overridden .purge).zone 23).hasEntry .purge = true ∧
    nextHolds (exec (.purgeStart 1#8 1#8 1#8) warm) (fun t =>
      decide ((t.zone 0).effMode = .purge) && decide (t.plant.purgeCount = 1) &&
      decide (t.plant.intakeTarget = some 100)) = true ∧
    nextHolds (exec (.purgeEnd 1#8 24#8 1#8) (overridden .purge)) (fun t =>
      decide ((t.zone 23).effMode = .vent) && decide (t.plant.intakeTarget = some 20)) = true := by decide +kernel
theorem test_range_tag :
    byteIn 1 24 24#8 ∧ ¬ byteIn 1 24 25#8 ∧ byteIn 3 24 3#8 ∧ ¬ byteIn 3 24 2#8 ∧
    nextHolds (exec (.rangeOpen 1#8 24#8) inRun) (fun t => decide (t.port.tag = .opened 24)) = true ∧
    nextHolds (exec (.rangeOpen 1#8 25#8) (inRun.setTag (.opened 3))) (fun t =>
      answer t 0xA2#8 0x20#8 [] && t.replyFlag 1 && decide (t.port.tag = .none)) = true ∧
    nextHolds (exec (.rangeClose 1#8 3#8) (inRun.setTag (.closed 3 9))) (fun t =>
      decide (t.port.tag = .closed 3 3)) = true ∧
    nextHolds (exec (.rangeClose 1#8 2#8) (inRun.setTag (.opened 3))) (fun t =>
      answer t 0xA3#8 0x20#8 [] && decide (t.port.tag = .opened 3)) = true ∧
    nextHolds (exec (.rangeClose 1#8 3#8) inRun) (fun t => answer t 0xA3#8 0x10#8 []) = true := by decide +kernel
theorem test_range_plan :
    (warm.setTag (.closed 1 24)).portFree ∧ (2#16 : Word).toNat = BaseMode.heatOnly.code ∧
    setpointIn 160#16 ∧ warm.planApplies .driver none 0 = true ∧ warm.planApplies .driver none 1 = false ∧
    nextHolds (exec (.rangeApplyPlanMode 1#8 1#8 2#16) (warm.setTag (.closed 1 24))) (fun t =>
      answer t 0xA4#8 0#8 [1#8, 23#8] && decide ((t.zone 0).baseMode = .heatOnly)) = true ∧
    nextHolds (exec (.rangeApplyPlanSetpoint 1#8 1#8 160#16) (warm.setTag (.closed 1 1))) (fun t =>
      answer t 0xA4#8 0#8 [1#8, 0#8] && decide ((t.zone 0).planSetpoint = 160)) = true := by decide +kernel
theorem test_range_takes :
    (tagZones 3 5).map Zone.number = [3, 4, 5] ∧ tagZones 24 25 = [23] ∧ guarded.planApplies .panel none 0 = false ∧
    guarded.planApplies .driver none 0 = true ∧ warm.planApplies .panel (some 240) 0 = true ∧
    warm.planApplies .panel (some 241) 0 = false ∧ warm.planApplies .service (some 300) 0 = true ∧
    warm.setpointChange .panel 230 (warm.zone 0) =
      { warm.zone 0 with tempSetpoint := some 230, holdTimer := some (60 * Config.minute) } ∧
    warm.setpointChange .driver 230 ((overridden .purge).zone 23) =
      { (overridden .purge).zone 23 with planSetpoint := 230, tempSetpoint := none, holdTimer := none } := by
  decide +kernel
theorem test_range_refused :
    ¬ wordIn 0 4 5#16 ∧ ¬ setpointIn 301#16 ∧ ¬ wordIn 1 2 3#16 ∧ wordIn 1 2 2#16 ∧
    nextHolds (exec (.rangeApplyPlanMode 1#8 1#8 2#16) (inRun.setTag (.opened 3))) (fun t =>
      answer t 0xA4#8 0x10#8 [] && t.replyFlag 1) = true ∧
    nextHolds (exec (.rangeApplyPlanSetpoint 1#8 1#8 301#16) (inRun.setTag (.closed 3 9))) (fun t =>
      answer t 0xA4#8 0x20#8 []) = true ∧
    nextHolds (exec (.rangeApplyUnprotect 1#8 2#8 0#16 .opened) (inRun.setTag (.closed 3 9))) (fun t =>
      answer t 0xA4#8 0x40#8 [2#8] && decide (t.key = .opened)) = true := by decide +kernel
/-- A protected range of zones 3 to 10, locked, with the tag given. -/
def locked (f l : Nat) : State := (inRun.setTag (.closed f l)).setProtection ⟨some (3, 10), .panelOnly, true⟩
theorem test_protection :
    (locked 8 12).portFree ∧ (2#16 : Word).toNat = ProtectLevel.panelAndDriver.code ∧
    nextHolds (exec (.rangeApplyUnprotect 1#8 1#8 0#16 .opened) (locked 8 12)) (fun t =>
      answer t 0xA4#8 0#8 [3#8, 2#8] && decide (t.port.protection.range = some (3, 7))) = true ∧
    nextHolds (exec (.rangeApplyUnprotect 1#8 1#8 0#16 .opened) (locked 5 6)) (fun t => answer t 0xA4#8 0x20#8 []) = true ∧
    nextHolds (exec (.rangeApplyProtect 1#8 1#8 1#16 .lock) (locked 3 10)) (fun t => answer t 0xA4#8 0#8 [8#8, 0#8]) = true ∧
    nextHolds (exec (.rangeApplyProtect 1#8 3#8 2#16 .lock) (locked 3 10)) (fun t =>
      answer t 0xA4#8 0x40#8 [3#8]) = true := by decide +kernel
theorem test_protect_lock :
    State.reset.port.protection.locked = false ∧ (locked 1 1).port.protection.locked = true ∧
    nextHolds (exec (.protectLock 1#8 .lock) State.reset) (fun t =>
      answer t 0xAC#8 0#8 [] && t.port.protection.locked) = true ∧
    nextHolds (exec (.protectLock 1#8 .lock) (locked 1 1)) (fun t => answer t 0xAC#8 0x40#8 [3#8]) = true := by
  decide +kernel
/-- Door 1 leads to zones 1 and 24. -/
def mapped (m : BitVec 24) (s : State) : State :=
  { s with zones := { s.zones with doorMap := s.zones.doorMap.set 0 m (by decide) } }
theorem test_door_open :
    (1#8 : Byte).toNat = (0 : Door).number ∧ (mapped 0x800001#24 warm).portFree ∧
    (mapped 0x800001#24 warm).curtainStarts 0 = true ∧
    nextHolds (exec (.doorOpen 1#8 1#8) (mapped 0x800001#24 warm)) (fun t =>
      decide ((t.zone 0).effMode = .curtain) && decide ((t.zone 23).openDoors = 1#4) &&
      decide ((t.zone 0).curtainTimer = some (180 * Config.second))) = true ∧
    nextHolds (exec (.doorOpen 1#8 5#8) warm) (fun t => answer t 0xA5#8 0x20#8 []) = true := by decide +kernel
theorem test_door_close :
    (mapped 0x800000#24 (overridden .curtain)).zones.doorMap[0] = BitVec.twoPow 24 (23 : Zone).val ∧
    ((overridden .curtain).zone 23).active = true ∧ ((overridden .curtain).zone 23).effMode = .curtain ∧
    ((overridden .curtain).zone 23).openDoors = BitVec.twoPow 4 0 ∧
    nextHolds (exec (.doorClose 1#8 1#8) (mapped 0x800000#24 (overridden .curtain))) (fun t =>
      answer t 0xA5#8 0#8 [] && decide ((t.zone 23).effMode = .vent) &&
      decide ((t.zone 23).loopTimer = some (2 * Config.second)) && decide ((t.zone 23).curtainTimer = none)) = true := by
  decide +kernel

/-! ## The plant and the conditions -/

theorem test_engine :
    byteIn 0 3 3#8 ∧ ¬ byteIn 0 3 4#8 ∧
    nextHolds (exec (.engine 1#8 3#8 3#8) plantRun) (fun t =>
      answer t 0xA6#8 0#8 [] && decide (t.plant.band = .pull) && decide (t.arb.heat.capacity = 15)) = true ∧
    nextHolds (exec (.engine 1#8 2#8 0#8) plantRun) (fun t => decide (t = plantRun.setPort t.port)) = true ∧
    nextHolds (exec (.engine 1#8 4#8 0#8) plantRun) (fun t => answer t 0xA6#8 0x20#8 []) = true := by decide +kernel
/-- The plant of the small state with its sequencer in a state, in a band. -/
def banded (q : Seq) (b : EngineBand) : State :=
  let s := plantRun.setSequencer { plantRun.plant.seq with state := q }
  s.setPlant { s.plant with band := b }
theorem test_allowed_stages_and_capacity :
    (banded (.running 2) .idle).allowedStages = 1 ∧ (banded (.running 2) .cruise).allowedStages = 2 ∧
    (banded (.running 2) .pull).allowedStages = 2 ∧ (banded (.running 2) .stopped).allowedStages = 0 ∧
    (banded .fault .cruise).allowedStages = 0 ∧
    ((banded (.running 2) .cruise).viewShed true).allowedStages = 0 ∧
    ((banded (.running 2) .cruise).enterPart .stopping).allowedStages = 0 ∧
    (withPlant inRun).plant.defn.compressor ≠ none ∧ inRun.allowedStages = 0 ∧
    (banded (.running 2) .cruise).coolCapacity = 8 ∧ (banded (.running 2) .idle).coolCapacity = 4 ∧
    (banded (.stepDown 2) .cruise).coolCapacity = 4 ∧ (banded .lockout .cruise).coolCapacity = 0 := by decide +kernel
theorem test_shed :
    plantRun.held = false ∧ plantRun.allowedStages = 2 ∧ plantRun.compressorReady = true ∧
    nextHolds (exec .shedNAsserted (plantRun.setSequencer { plantRun.plant.seq with state := .running 2 })) (fun t =>
      decide (t.plant.seq.state = .stepDown 2) && t.cond.shedActive && t.moveUnderWay 3 1) = true ∧
    nextHolds (exec .shedNReleased plantRun) (fun t => !t.plant.shedView) = true := by decide +kernel
theorem test_aux :
    plantRun.plant.heater.state = .off ∧
    ({ plantRun with plant := { plantRun.plant with viewHeat := ⟨true, 0⟩ } } : State).heatWaits ∧
    plantRun.takesIn 4 .move ∧
    nextHolds (exec (.auxGrant 1#8) { plantRun with plant := { plantRun.plant with viewHeat := ⟨true, 0⟩ } }) (fun t =>
      decide (t.plant.heater.state = .igniting) && t.moveUnderWay 4 1) = true ∧
    nextHolds (exec (.auxWithdraw 1#8)
      (plantRun.setHeater { plantRun.plant.heater with state := .running, permit := true })) (fun t =>
      decide (t.plant.heater.state = .stopping) && t.moveUnderWay 4 0) = true ∧
    nextHolds (exec (.auxWithdraw 1#8) (plantRun.setHeater { plantRun.plant.heater with state := .igniting })) (fun t =>
      decide (t.plant.heater.state = .igniting) && t.plant.heater.stopMark) = true := by decide +kernel
theorem test_aux_clear :
    nextHolds (exec (.auxClear 1#8)
      { plantRun with
        plant := { plantRun.plant with heater := { plantRun.plant.heater with state := .lockedOut, failures := 2 } }
        cond := { plantRun.cond with auxLockout := true } }) (fun t =>
      answer t 0xAA#8 0#8 [] && decide (t.plant.heater.state = .off) && decide (t.plant.heater.failures = 0) &&
      !t.cond.auxLockout) = true ∧
    nextHolds (exec (.auxClear 1#8) plantRun) (fun t => decide (t = plantRun.setPort t.port)) = true ∧
    nextHolds (exec (.auxClear 1#8) State.reset) (fun t => answer t 0xAA#8 0x40#8 [1#8, 0#8]) = true := by
  decide +kernel
/-- Node 31 in FAULT. -/
def faulty (r : Option RetryStep) : State :=
  inRun.setNode 30 { readyOf .valve with state := .fault, retryStep := r }
theorem test_node_retry :
    (31#8 : Byte).toNat = (30 : NodeId).address ∧ ((faulty none).node 30).state = .fault ∧
    (faulty none).takesIn 30 .status ∧
    nextHolds (exec (.nodeRetryCheck 1#8 31#8) (faulty none)) (fun t =>
      answer t 0xAB#8 0#8 [] && t.inFlight 30 .status && decide ((t.node 30).retryStep = some .status)) = true ∧
    nextHolds (exec (.nodeRetryReset 1#8 31#8) (faulty none)) (fun t => t.inFlight 30 .nodeReset) = true ∧
    nextHolds (exec (.nodeRetryCheck 1#8 31#8) (faulty (some .reset))) (fun t =>
      decide (t = (faulty (some .reset)).setPort t.port)) = true ∧
    nextHolds (exec (.nodeRetryCheck 1#8 1#8) warm) (fun t => answer t 0xAB#8 0x40#8 [6#8, 2#8]) = true ∧
    nextHolds (exec (.nodeRetryCheck 1#8 32#8) warm) (fun t => answer t 0xAB#8 0x20#8 []) = true := by decide +kernel
/-- A node in FAULT under a full queue: the retry is owed. -/
def crowded : State :=
  (faulty none).setLine { Line.reset with phase := .gap } |>.setQueue
    ((List.finRange 16).map (fun i => ⟨some ⟨i.val, by omega⟩, .read, 0, false, .poll, []⟩))
theorem test_retry_owed :
    ¬ crowded.takesIn 30 .status ∧
    nextHolds (exec (.nodeRetryCheck 1#8 31#8) crowded) (fun t =>
      decide ((t.node 30).retryOwed = some .check) && decide ((t.node 30).retryStep = none)) = true := by
  decide +kernel
theorem test_conditions :
    (0x0FFF#16 : Word).toNat < 4096 ∧ 4096 ≤ (0x1000#16 : Word).toNat ∧
    nextHolds (exec (.condMask 1#8 0x0FFF#16 1#8) (State.reset.raise .linkOverrun none)) (fun t =>
      answer t 0xC7#8 0#8 [] && t.attnDriven && t.replyFlag 7) = true ∧
    nextHolds (exec (.condClear 1#8 0x0200#16) (State.reset.raise .linkOverrun none)) (fun t =>
      answer t 0xC6#8 0#8 [0#8, 0#8] && !t.cond.linkOverrun.pending) = true ∧
    nextHolds (exec (.condClear 1#8 0x1000#16) State.reset) (fun t => answer t 0xC6#8 0x20#8 []) = true ∧
    nextHolds (exec (.condMask 1#8 0#16 2#8) State.reset) (fun t => answer t 0xC7#8 0x20#8 []) = true := by
  decide +kernel
theorem test_raise_again :
    ((State.reset.raise .nodeFault (some 3)).cond.sticky .nodeFault).pending = true ∧
    ((State.reset.raise .nodeFault (some 3)).raise .nodeFault (some 4)).cond.nodeFault = ⟨true, 2, some 4⟩ := by
  decide +kernel

/-! ## Timers -/

/-- Zone 1's loop timer runs, its sensor node in the state given. -/
def looping (st : NodeState) (missed : Nat) : State :=
  (warm.modZone 0 (fun r => { r with loopTimer := some 5, missed := missed })).modNode 0 (fun r => { r with state := st })
theorem test_loop :
    (warm.zone 0).loopTimer = none ∧ ((looping .ready 0).zone 0).loopTimer = some 5 ∧
    ((looping .busy 2).node 0).state ≠ .ready ∧ ((looping .busy 2).zone 0).active = true ∧
    nextHolds (exec (.loopTimerExpiry 1) (looping .ready 0)) (fun t =>
      t.inFlight 0 .read && decide ((t.zone 0).loopTimer = some (5 + 10 * Config.second))) = true ∧
    nextHolds (exec (.loopTimerExpiry 1) (looping .busy 1)) (fun t =>
      decide ((t.zone 0).missed = 2) && decide ((t.zone 0).sensorStatus = .missed)) = true ∧
    nextHolds (exec (.loopTimerExpiry 1) (looping .busy 2)) (fun t =>
      decide ((t.zone 0).sensorStatus = .lost) && t.cond.sensorLost.pending) = true := by decide +kernel
theorem test_zone_timers :
    ((overridden .curtain).zone 23).holdTimer = some 60 ∧ ((overridden .defog).zone 23).defogTimer = some 40 ∧
    ((overridden .curtain).zone 23).curtainTimer = some 50 ∧ ((overridden .curtain).zone 23).hasEntry .curtain = true ∧
    nextHolds (exec (.holdTimerExpiry 24) (overridden .base)) (fun t =>
      decide ((t.zone 23).tempSetpoint = none) && decide (t.now = 60)) = true ∧
    nextHolds (exec (.defogTimerExpiry 24) (overridden .defog)) (fun t =>
      decide ((t.zone 23).effMode = .vent) && decide ((t.zone 23).defogTimer = none)) = true ∧
    nextHolds (exec (.curtainTimerExpiry 24) (overridden .curtain)) (fun t =>
      (t.zone 23).curtainSpent && (t.zone 23).flags.curtainExpired &&
      decide (t.cond.curtainExpired = ⟨true, 1, some 24⟩)) = true := by decide +kernel
/-- Zone 24 waits with a claim. -/
def waiting (marked : Bool) : State :=
  inRun.setArb { inRun.arb with cool := ⟨0, [], [⟨23, 2, 1, 1, 0, 4, marked⟩]⟩ }
theorem test_claim_saturation :
    inRun.arb.claimOf 23 = none ∧ ((waiting false).arb.claimOf 23).isSome = true ∧
    nextIs (exec (.claimSaturation 24) inRun) inRun = true ∧
    nextIs (exec (.claimSaturation 24) (waiting true)) (waiting true) = true ∧
    nextHolds (exec (.claimSaturation 24) (waiting false)) (fun t =>
      decide (t.now = 4 + 300 * Config.second) && (t.zone 23).flags.saturated && t.cond.zoneSaturated.pending) = true := by
  decide +kernel
/-- The sequencer in a state with all three of its timers. -/
def sequenced (q : Seq) (met : Bool) : State :=
  plantRun.setSequencer { plantRun.plant.seq with
    state := q, minRunTimer := some 3, holdTimer := some 4, lockoutTimer := some 5, pollTimer := some 6, holdMet := met }
theorem test_sequencer_timers :
    plantRun.plant.seq.minRunTimer = none ∧ (sequenced (.running 1) true).compressorReady = true ∧
    1 ≤ (sequenced .lockout false).allowedStages ∧
    nextHolds (exec .minimumRunExpiry (sequenced (.running 1) true)) (fun t =>
      decide (t.plant.seq.state = .disengaging) && t.moveUnderWay 3 0) = true ∧
    nextHolds (exec .stageDownHoldExpiry (sequenced (.running 2) false)) (fun t =>
      decide (t.plant.seq.state = .stepDown 2) && t.moveUnderWay 3 1) = true ∧
    nextHolds (exec .stageDownHoldExpiry (sequenced (.running 1) false)) (fun t => t.plant.seq.holdMet) = true ∧
    nextHolds (exec .lockoutExpiry (sequenced .lockout false)) (fun t => decide (t.plant.seq.state = .off)) = true ∧
    nextHolds (exec .lockoutExpiry ((sequenced .lockout false).setPlant
      { (sequenced .lockout false).plant with viewCool := ⟨true, 0⟩ })) (fun t =>
      decide (t.plant.seq.state = .engaging) && t.moveUnderWay 3 1) = true := by decide +kernel
/-- The heater in a state with all three of its timers. -/
def heating (h : HeaterState) : State :=
  plantRun.setHeater { plantRun.plant.heater with
    state := h, permit := true, igniteWaitTimer := some 3, stopDelayTimer := some 4, flamePollTimer := some 5 }
theorem test_heater_timers :
    (heating .running).plant.heater.state = .running ∧ ((heating .running).node 4).state = .ready ∧
    nextHolds (exec .compressorPollExpiry (sequenced (.running 1) false)) (fun t => t.inFlight 3 .status) = true ∧
    nextHolds (exec .flamePollExpiry (heating .running)) (fun t =>
      t.inFlight 4 .status && decide (t.plant.heater.flamePollTimer = some (5 + 5 * Config.second))) = true ∧
    nextHolds (exec .igniteWaitExpiry (heating .igniteWait)) (fun t => decide (t.plant.heater.state = .off)) = true ∧
    nextHolds (exec .stopDelayExpiry (heating .running)) (fun t =>
      decide (t.plant.heater.state = .stopping) && t.moveUnderWay 4 0) = true := by decide +kernel
/-- Node 31 with a timer of each kind. -/
def timed (st : NodeState) (owed : Option RetryAction) : State :=
  inRun.setNode 30 { readyOf .valve with
    state := st, retryOwed := owed, wakeTimer := some 3, travelTimer := some 5, revivalTimer := some 6
    pollTimer := if st = .fault then none else some 4 }
theorem test_node_timers :
    (inRun.node 30).wakeTimer = none ∧ ((timed .starting none).node 30).wakeTimer = some 3 ∧
    ¬ (timed .starting none).asked 30 .wake ∧ (timed .busy none).takesIn 30 .status ∧
    nextHolds (exec (.wakeTimerExpiry 31) (timed .starting none)) (fun t =>
      t.inFlight 30 .wake && decide ((t.node 30).wakeTimer = some 803)) = true ∧
    nextHolds (exec (.nodePollTimerExpiry 31) (timed .busy none)) (fun t => t.inFlight 30 .status) = true ∧
    nextHolds (exec (.revivalTimerExpiry 31) (timed .offline none)) (fun t => t.inFlight 30 .wake) = true ∧
    nextHolds (exec .pollTickExpiry (timed .fault (some .check))) (fun t =>
      t.inFlight 30 .status && decide ((t.node 30).retryStep = some .status)) = true ∧
    nextHolds (exec .pollTickExpiry (timed .fault (some .reset))) (fun t => t.inFlight 30 .nodeReset) = true := by
  decide +kernel
/-- Zone 1's valve node 3 is BUSY, its travel timer running. -/
def travelling : State :=
  warm.modNode 2 (fun r =>
    { r with state := .busy, busySince := some 0, travelTimer := some 9, binding := some (.zone 0 .valve) })
theorem test_travel :
    (warm.node 2).travelTimer = none ∧ (travelling.node 2).state = .busy ∧ travelling.op.state ≠ .commissioning ∧
    ((timed .busy none).node 30).binding = none ∧
    nextHolds (exec (.travelTimerExpiry 3) travelling) (fun t =>
      decide ((t.node 2).state = .fault) && decide ((t.node 2).faultReason = some .travelTimeout) &&
      t.inFlight 2 .halt && (t.zone 0).flags.actuatorFault && decide (t.cond.nodeFault = ⟨true, 1, some 3⟩)) = true ∧
    nextHolds (exec (.travelTimerExpiry 31) (timed .busy none)) (fun t => t.inFlight 30 .halt) = true := by
  decide +kernel
/-- The compressor node 4 is stopping in a shutdown, and node 3 owes its initial MOVE in a commissioning. -/
def polled (p : PartState) : State :=
  let s := withPlant { warm with op := { warm.op with state := p } }
  let s := s.setNode 2 { readyOf .valve with value := some (.num 3) }
  ((s.setSequencer { s.plant.seq with state := .disengaging }).setOp { s.op with state := p }).setWork 2 .moveOwed
theorem test_poll_tick_by_part_state :
    (polled .stopping).nodes.pollTick.isSome = true ∧ ((polled .stopping).node 3).pollTimer = none ∧
    (polled .stopping).nodes.queue.length < 15 ∧ (polled .commissioning).takesIn 2 .move ∧
    (∀ m, (polled .commissioning).work m ≠ .moveDone) ∧ (∀ m, m ≠ 2 → (polled .commissioning).work m ≠ .moveOwed) ∧
    nextHolds (exec .pollTickExpiry (polled .stopping)) (fun t => match t.line.txn with
      | some x => decide (x.node = some 3) && decide (x.cmd = .status) && decide (x.origins = [.shutdown])
      | none => false) = true ∧
    nextHolds (exec .pollTickExpiry (polled .commissioning)) (fun t => match t.line.txn with
      | some x => decide (x = { moveOf 2 0 .commission with urgent := false }) && decide (t.work 2 = .moveAsked)
      | none => false) = true ∧
    nextHolds (exec .pollTickExpiry (polled .run)) (fun t => decide (t.line = Line.reset)) = true := by decide +kernel
/-- Node 31 BUSY past its travel limit, the queue full of other nodes' entries. -/
def stuck : State :=
  (timed .busy none).setLine { Line.reset with phase := .gap } |>.setQueue
    ((List.finRange 16).map (fun i => ⟨some ⟨i.val, by omega⟩, .read, 0, false, .poll, []⟩))
theorem test_halt_owed :
    16 ≤ stuck.nodes.queue.length ∧ (∀ e ∈ stuck.nodes.queue, e.node ≠ some 30) ∧ (stuck.node 30).binding = none ∧
    nextHolds (exec (.travelTimerExpiry 31) stuck) (fun t =>
      (t.node 30).haltOwed && nextHolds (exec .pollTickExpiry (t.setQueue [])) (fun u =>
        u.queued 30 .halt && !(u.node 30).haltOwed)) = true := by decide +kernel
theorem test_halt_owed_at_poll :
    nextHolds (exec (.nodePollTimerExpiry 31) ((timed .busy none).modNode 30 (fun r => { r with haltOwed := true })))
      (fun t => t.inFlight 30 .status && t.queued 30 .halt && !(t.node 30).haltOwed) = true := by decide +kernel
/-- The compressor stands at a value, a step under way. -/
def stepping (q : Seq) (v : Nat) : State :=
  (plantRun.setSequencer { plantRun.plant.seq with state := q }).modNode 3 (fun r => { r with value := some (.num v) })
theorem test_step_ends :
    (stepping .engaging 1).moveLeft 3 = false ∧ Seq.engaging.stepTarget = some 1 ∧
    ((stepping .engaging 1).seqReport 3).plant.seq.state = .running 1 ∧
    ((stepping .engaging 1).seqReport 3).arb.cool.capacity = 4 ∧
    ((stepping (.stepUp 1) 2).seqReport 3).plant.seq.state = .running 2 ∧
    ((stepping (.stepDown 2) 1).seqReport 3).plant.seq.state = .running 1 ∧
    ((stepping .disengaging 0).seqReport 3).plant.seq.state = .lockout ∧
    ((stepping .engaging 0).seqReport 3).plant.seq.state = .fault := by decide +kernel

/-! ## The field line -/

def pollTxn (c : Command) (n : Option NodeId) : Txn := ⟨n, c, 0, false, .poll, [.poll], 1, none⟩
/-- A transaction in flight, in a phase whose timer ends at 100. -/
def onLine (p : LinePhase) (x : Txn) (chars : List Byte) : State :=
  inRun.setLine { phase := p, txn := some x, timer := some 100, replyStart := some 60, chars := chars, cut := false }
theorem test_sending :
    (onLine .lead (pollTxn .move none) []).line.timer = some 100 ∧
    nextHolds (exec .leadEnd (onLine .lead (pollTxn .move none) [])) (fun t =>
      decide (t.line.phase = .sending) && decide (t.line.timer = some 120)) = true ∧
    nextHolds (exec .frameSent (onLine .sending (pollTxn .status (some 0)) [])) (fun t =>
      decide (t.line.phase = .trail) && decide (t.line.timer = some 105)) = true ∧
    nextHolds (exec .trailEnd (onLine .trail (pollTxn .status (some 0)) [])) (fun t =>
      decide (t.line.phase = .awaitReply) && decide (t.line.timer = some 180)) = true ∧
    nextHolds (exec .trailEnd (onLine .trail (pollTxn .move none) [])) (fun t =>
      decide (t.line.phase = .broadcastWait) && decide (t.line.timer = some 116)) = true := by decide +kernel
/-- A character with mark 0, even parity and its stop bit. -/
def good (b : Byte) : Instr := .replyCharacterReceived b false (parityBit b false) true
theorem test_reply_counts :
    [Command.wake, .ident, .status, .read, .move, .halt, .nodeReset].map (fun c => expectedChars c 0x73#8) =
      [2, 4, 4, 6, 3, 2, 2] ∧
    ∀ c ∈ [Command.wake, .ident, .status, .read, .move, .halt, .nodeReset],
      expectedChars c 4#8 = 2 ∧ expectedChars c 8#8 = 2 := by decide
theorem test_characters :
    charGood 5#8 false (parityBit 5#8 false) true = true ∧ charGood 5#8 false (!parityBit 5#8 false) true = false ∧
    expectedChars .status 0#8 = 4 ∧ expectedChars .status 4#8 = 2 ∧
    nextHolds (exec (good 0#8) (onLine .awaitReply (pollTxn .status (some 0)) [])) (fun t =>
      decide (t.line.phase = .receiving) && decide (t.line.chars = [0#8]) && decide (t.now = 25)) = true ∧
    nextHolds (exec (good 128#8) (onLine .awaitReply (pollTxn .status (some 0)) [])) (fun t =>
      decide (t.line.phase = .drain)) = true ∧
    nextHolds (exec (good 2#8) (onLine .receiving (pollTxn .status (some 0)) [0#8])) (fun t =>
      decide (t.line.phase = .receiving) && decide (t.line.chars = [0#8, 2#8])) = true ∧
    nextHolds (exec (good 252#8) (onLine .receiving (pollTxn .status (some 0)) [0#8, 2#8, 2#8])) (fun t =>
      decide (t.line.phase = .closing)) = true ∧
    nextHolds (exec (good 251#8) (onLine .receiving (pollTxn .status (some 0)) [0#8, 2#8, 2#8])) (fun t =>
      decide (t.line.phase = .drain) && decide (t.line.timer = some 105)) = true := by decide +kernel
theorem test_characters_after :
    nextHolds (exec (good 1#8) (onLine .closing (pollTxn .status (some 0)) [0#8])) (fun t =>
      decide (t.line.phase = .drain)) = true ∧
    nextHolds (exec (good 1#8) (onLine .drain (pollTxn .status (some 0)) [0#8])) (fun t =>
      decide (t.now = 95) && decide (t.line.timer = some 105)) = true ∧
    nextIs (exec (good 1#8) (onLine .gap (pollTxn .status (some 0)) [])) (onLine .gap (pollTxn .status (some 0)) []) =
      true := by decide +kernel
theorem test_first_failure :
    (onLine .awaitReply (pollTxn .status (some 0)) []).attemptFails .replyWindowExpiry .awaitReply .noReply ∧
    (pollTxn .status (some 0)).attempt < 2 ∧
    nextHolds (exec .replyWindowExpiry (onLine .awaitReply (pollTxn .status (some 0)) [])) (fun t =>
      decide (t.line.phase = .gap) && decide (t.line.timer = some 110)) = true ∧
    nextHolds (exec .replyGapTimeout (onLine .receiving (pollTxn .status (some 0)) [])) (fun t =>
      decide (t.line.phase = .gap)) = true ∧
    nextHolds (exec .drainEnd (onLine .drain (pollTxn .status (some 0)) [])) (fun t => decide (t.line.phase = .gap)) = true ∧
    nextHolds (exec .closingQuietEnd (onLine .closing (pollTxn .status (some 0)) [8#8, 248#8])) (fun t =>
      decide (t.line.phase = .gap)) = true :=
  ⟨Or.inl ⟨rfl, rfl, rfl⟩, by decide +kernel⟩
/-- A STATUS of node 31 in its second attempt, with failures counted. -/
def lastTry (fails : Nat) : State :=
  (onLine .awaitReply { pollTxn .status (some 30) with attempt := 2 } []).setNode 30
    { readyOf .valve with failCount := fails }
theorem test_second_failure :
    ((lastTry 1).node 30).state = .ready ∧ ((lastTry 2).node 30).binding = none ∧
    nextHolds (exec .replyWindowExpiry (lastTry 1)) (fun t =>
      decide ((t.node 30).failCount = 2) && decide (t.line.phase = .idle)) = true ∧
    nextHolds (exec .replyWindowExpiry (lastTry 2)) (fun t =>
      decide ((t.node 30).state = .offline) && decide (t.cond.nodeOffline = ⟨true, 1, some 31⟩)) = true := by
  decide +kernel
/-- A reply of node 31 in its closing quiet, the node in the state given. -/
def closing (st : NodeState) (x : Txn) (chars : List Byte) : State :=
  (onLine .closing x chars).setNode 30
    { readyOf .valve with state := st, pending := if st = .busy then some ⟨60, .plant⟩ else none }
theorem test_answered :
    (closing .busy (pollTxn .status (some 30)) [0#8, 50#8, 50#8, 156#8]).answered 100 30 (pollTxn .status (some 30)) 0#8
      [50#8, 50#8] :=
  ⟨⟨rfl, rfl, rfl, rfl, rfl, ⟨156#8, rfl⟩, rfl⟩, rfl, rfl, rfl, rfl⟩
theorem test_status_reply :
    valueFits (some .valve) 100 = true ∧ stBusy 2#8 = true ∧
    nextHolds (exec .closingQuietEnd (closing .ready (pollTxn .status (some 30)) [2#8, 50#8, 100#8, 104#8])) (fun t =>
      decide ((t.node 30).state = .busy) && decide ((t.node 30).travelTimer = some (100 + 60 * Config.second))) = true ∧
    nextHolds (exec .closingQuietEnd (closing .busy (pollTxn .status (some 30)) [2#8, 50#8, 100#8, 104#8])) (fun t =>
      decide ((t.node 30).state = .busy) && decide ((t.node 30).value = some (.num 50))) = true ∧
    nextHolds (exec .closingQuietEnd (closing .busy (pollTxn .status (some 30)) [0#8, 60#8, 60#8, 136#8])) (fun t =>
      decide ((t.node 30).state = .ready) && decide (t.line.txn = none)) = true ∧
    nextHolds (exec .closingQuietEnd (closing .busy (pollTxn .status (some 30)) [0#8, 50#8, 50#8, 156#8])) (fun t =>
      decide ((t.node 30).state = .ready) && t.moveUnderWay 30 60) = true := by decide +kernel
/-- The state with a MOVE 9 of node 31 queued between entries of other nodes. -/
def withMove (s : State) : State :=
  s.setQueue [⟨some 3, .halt, 0, true, .poll, []⟩, ⟨some 30, .move, 9, false, .zone 4, []⟩,
    ⟨some 5, .read, 0, false, .zone 1, []⟩]
theorem test_queued_move_pends :
    nextHolds (exec .closingQuietEnd (withMove (closing .ready (pollTxn .status (some 30)) [2#8, 50#8, 100#8, 104#8])))
      (fun t => decide ((t.node 30).state = .busy) && decide ((t.node 30).pending = some ⟨9, .zone 4⟩) &&
        decide (t.nodes.queue = [⟨some 5, .read, 0, false, .zone 1, []⟩]) && t.inFlight 3 .halt) = true ∧
    nextHolds (exec .closingQuietEnd (withMove (closing .ready
        ⟨some 30, .move, 50, false, .zone 23, [.zone 23], 1, none⟩ [66#8, 255#8, 191#8])))
      (fun t => decide ((t.node 30).pending = some ⟨9, .zone 4⟩)) = true := by decide +kernel
/-- A READ of zone 1's sensor in its closing quiet. -/
def read (chars : List Byte) : State :=
  warm.setLine
    { phase := .closing, txn := some ⟨some 0, .read, 0, false, .zone 0, [.zone 0], 1, none⟩, timer := some 100
      replyStart := some 60, chars := chars, cut := false }
theorem test_reading :
    (warm.node 0).state = .ready ∧ (warm.zone 0).hasEntry .purge = false ∧ 1499 < warm.zones.tuning.purgeOn ∧
    nextHolds (exec .closingQuietEnd (read [0#8, 0#8, 190#8, 5#8, 219#8, 0#8])) (fun t =>
      decide ((t.zone 0).temperature = some 190) && decide ((t.zone 0).co2 = some 1499) &&
      decide ((t.zone 0).want = 6) && decide (t.arb.heat.unitsOf 0 = 6)) = true ∧
    nextHolds (exec .closingQuietEnd (read [0#8, 3#8, 33#8, 0#8, 0#8, 0#8])) (fun t =>
      decide ((t.zone 0).missed = 1) && decide ((t.zone 0).temperature = some 200)) = true := by decide +kernel
theorem test_reading_purges :
    warm.zones.tuning.purgeOn ≤ 1500 ∧ (read []).op.state = .run ∧ (read []).queued 0 .move = false ∧
    nextHolds (exec .closingQuietEnd (read [0#8, 0#8, 190#8, 5#8, 220#8, 0#8])) (fun t =>
      decide ((t.zone 0).effMode = .purge) && decide (((t.zone 0).stack.head?.bind ModeEntry.cause) = some .auto) &&
      decide (t.cond.purgeAuto = ⟨true, 1, some 1⟩) && decide (t.plant.purgeCount = 1)) = true ∧
    nextHolds (exec .closingQuietEnd ((read [0#8, 0#8, 190#8, 3#8, 232#8, 0#8]).modZone 0 (fun r =>
        { r with stack := ⟨.purge, some .auto, 0⟩ :: r.stack }))) (fun t =>
      decide ((t.zone 0).effMode = .auto) && decide ((t.zone 0).want = 6)) = true ∧
    nextHolds (exec .closingQuietEnd ((read [2#8, 3#8, 33#8, 0#8, 0#8, 0#8]).modZone 0 (fun r =>
        { r with missed := 2, sensorStatus := .missed }))) (fun t =>
      decide ((t.zone 0).sensorStatus = .lost) && t.cond.sensorLost.pending && decide ((t.node 0).state = .busy)) = true := by
  decide +kernel
theorem test_read_fails :
    (pollTxn .status (some 30)).cmd ≠ .read ∧
    nextHolds (exec .replyWindowExpiry (warm.setLine
      { phase := .awaitReply, txn := some ⟨some 0, .read, 0, false, .zone 0, [.zone 0], 2, some .badReply⟩
        timer := some 100, replyStart := none, chars := [], cut := false })) (fun t =>
      decide ((t.zone 0).missed = 1) && decide ((t.node 0).failCount = 1) && decide (t.line = Line.reset)) = true := by
  decide +kernel
def moveTxn : Txn := ⟨some 30, .move, 50, false, .zone 23, [.zone 23], 1, none⟩
theorem test_move_rows :
    (closing .ready moveTxn []).queued 30 .move = false ∧ moveTxn.origin ≠ .commission ∧
    nextHolds (exec .closingQuietEnd (closing .ready moveTxn [2#8, 50#8, 204#8])) (fun t =>
      decide ((t.node 30).state = .busy) && decide ((t.node 30).target = some 50)) = true ∧
    nextHolds (exec .closingQuietEnd (closing .ready moveTxn [0#8, 50#8, 206#8])) (fun t =>
      decide ((t.node 30).state = .ready) && decide ((t.node 30).value = some (.num 50))) = true ∧
    nextHolds (exec .closingQuietEnd (closing .ready moveTxn [66#8, 255#8, 191#8])) (fun t =>
      decide ((t.node 30).state = .busy) && decide ((t.node 30).pending = some ⟨50, .zone 23⟩)) = true ∧
    nextHolds (exec .closingQuietEnd (closing .ready moveTxn [64#8, 255#8, 193#8])) (fun t =>
      decide ((t.node 30).faultReason = some .refusedMove) && t.cond.nodeFault.pending) = true ∧
    nextHolds (exec .closingQuietEnd (closing .ready moveTxn [0#8, 51#8, 205#8])) (fun t =>
      decide ((t.node 30).faultReason = some .illegalReply)) = true ∧
    nextHolds (exec .closingQuietEnd ((closing .ready moveTxn [64#8, 255#8, 193#8]).modNode 30
      (fun r => { r with kind := some .auxheat }))) (fun t => decide ((t.node 30).state = .ready)) = true := by
  decide +kernel

/-! ## Replies of plant nodes -/

/-- A reply in its closing quiet. -/
def replying (s : State) (x : Txn) (chars : List Byte) : State :=
  s.setLine { phase := .closing, txn := some x, timer := some 100, replyStart := some 60, chars := chars, cut := false }
theorem replying_replied (s : State) (n : NodeId) (x : Txn) (st : Byte) (data : List Byte) (c : Byte)
    (held : s.held = false) (node : x.node = some n) (check : stCheckError st = false) :
    (replying s x (st :: (data ++ [c]))).replied 100 n x st data :=
  ⟨held, rfl, rfl, rfl, node, ⟨c, rfl⟩, check⟩
/-- A STATUS of a node that its own origin asked for. -/
def statusOf (n : NodeId) (o : Origin) : Txn := ⟨some n, .status, 0, false, o, [o], 1, none⟩
/-- A node of the plant is BUSY, begun at 0. -/
def busyAt (s : State) (n : NodeId) : State :=
  s.modNode n (fun r => { r with state := .busy, busySince := some 0, pollTimer := some 200, travelTimer := some 300 })

theorem test_compressor_told :
    (replying (stepping (.running 2) 2) (statusOf 3 .plant) [0#8, 1#8, 1#8, 9#8]).statusTold 100 3 (statusOf 3 .plant)
        0#8 1#8 1#8 ∧
    (stepping (.running 2) 2).solePlant 3 .compressor ∧ (stepping (.running 2) 2).plant.defn.compressor = some 3 :=
  ⟨⟨⟨replying_replied _ 3 _ 0#8 [1#8, 1#8] 9#8 rfl rfl rfl, rfl, rfl, rfl, rfl⟩, rfl, by decide +kernel,
    by decide +kernel, by decide +kernel, by decide +kernel⟩, ⟨by decide +kernel, by decide +kernel⟩, rfl⟩
/-- The reply to a STATUS of the compressor node, the sequencer in a state, a steady-state check asked in it or not. -/
def compressorTells (q : Seq) (asked busy : Bool) (o : Origin) (st v : Byte) : State :=
  let s := (stepping q 2).setSequencer { (stepping q 2).plant.seq with checkAsked := asked }
  replying (if busy then busyAt s 3 else s) (statusOf 3 o) [st, v, v, 0#8]
theorem test_compressor_check :
    nextHolds (exec .closingQuietEnd (compressorTells (.running 2) true false .plant 0#8 1#8)) (fun t =>
      decide (t.plant.seq.state = .fault) && decide ((t.node 3).faultReason = some .unexpectedValue) &&
      decide (t.cond.compFault = ⟨true, 1, some 4⟩)) = true ∧
    nextHolds (exec .closingQuietEnd (compressorTells (.running 2) true false .plant 2#8 2#8)) (fun t =>
      decide (t.plant.seq.state = .fault)) = true ∧
    nextHolds (exec .closingQuietEnd (compressorTells (.running 2) false false .plant 0#8 1#8)) (fun t =>
      decide (t.plant.seq.state = .running 2) && decide ((t.node 3).value = some (.num 1))) = true ∧
    nextHolds (exec .closingQuietEnd (compressorTells (.running 2) false false .plant 2#8 2#8)) (fun t =>
      decide (t.plant.seq.state = .running 2) && decide ((t.node 3).state = .busy)) = true := by decide +kernel
theorem test_compressor_busy_ends :
    nextHolds (exec .closingQuietEnd (compressorTells (.stepUp 1) false true .poll 0#8 2#8)) (fun t =>
      decide (t.plant.seq.state = .running 2) && decide (t.arb.cool.capacity = 8)) = true ∧
    nextHolds (exec .closingQuietEnd (compressorTells (.stepUp 1) false true .poll 0#8 1#8)) (fun t =>
      decide (t.plant.seq.state = .fault) && decide (t.arb.cool.capacity = 0)) = true ∧
    nextHolds (exec .closingQuietEnd ((compressorTells .fault false true .poll 0#8 1#8).modNode 3
      (fun r => { r with busyFromFault := true }))) (fun t =>
      decide (t.plant.seq.state = .disengaging) && t.moveUnderWay 3 0) = true ∧
    nextHolds (exec .closingQuietEnd ((compressorTells .fault false true .poll 0#8 0#8).modNode 3
      (fun r => { r with busyFromFault := true }))) (fun t => decide (t.plant.seq.state = .lockout)) = true := by
  decide +kernel
/-- A status told in a part state, the sequencer watching or not. -/
def partTells (p : PartState) (q : Seq) (watch busy : Bool) (o : Origin) (v : Byte) : State :=
  let s := compressorTells q false busy o 0#8 v
  (s.setOp { s.op with state := p }).setSequencer { s.plant.seq with watch := watch }
theorem test_compressor_watch_and_stop :
    (partTells .commissioning .off true true .poll 1#8).followed ∧
    (∃ m : NodeId, m ≠ 3 ∧ ((partTells .commissioning .off true true .poll 1#8).node m).configured = true ∧
      (partTells .commissioning .off true true .poll 1#8).op.done[m] = false) ∧
    nextHolds (exec .closingQuietEnd (partTells .commissioning .off true true .poll 1#8)) (fun t =>
      decide (t.plant.seq.state = .fault) && decide (t.op.state = .commissioning)) = true ∧
    nextHolds (exec .closingQuietEnd (partTells .commissioning .off true true .poll 0#8)) (fun t =>
      decide (t.plant.seq.state = .lockout) && decide (t.op.state = .commissioning)) = true ∧
    nextHolds (exec .closingQuietEnd (partTells .stopping .disengaging false false .shutdown 0#8)) (fun t =>
      decide (t.plant.seq.state = .lockout) && decide (t.op.state = .stopped)) = true ∧
    nextHolds (exec .closingQuietEnd (partTells .stopping .disengaging false true .shutdown 2#8)) (fun t =>
      decide (t.plant.seq.state = .disengaging) && t.moveUnderWay 3 0) = true :=
  have idle : ∀ m, (partTells .commissioning .off true true .poll 1#8).work m ≠ .moveDone := by decide +kernel
  ⟨fun _ m h => absurd h (idle m), ⟨4, by decide +kernel⟩, by decide +kernel⟩
/-- The broadcast MOVE 0 of the shutdown still waits in the queue. -/
def broadcastWaits (s : State) : State := s.setQueue [⟨none, .move, 0, true, .shutdown, []⟩]
theorem test_broadcast_stands_for_the_compressor :
    nextHolds (exec .closingQuietEnd (broadcastWaits (partTells .stopping .disengaging false true .shutdown 2#8)))
      (fun t => decide (t.plant.seq.state = .disengaging) && !t.moveLeft 3 && decide ((t.node 3).state = .ready) &&
        t.broadcastStands) = true := by decide +kernel
theorem test_compressor_move :
    (stepping (.stepUp 1) 1).noMove 3 ∧
    nextHolds (exec .closingQuietEnd (replying (stepping (.stepUp 1) 1) (moveOf 3 2 .plant) [0#8, 2#8, 0#8])) (fun t =>
      decide (t.plant.seq.state = .running 2)) = true ∧
    nextHolds (exec .closingQuietEnd (replying (stepping (.stepUp 1) 1) (moveOf 3 1 .plant) [0#8, 1#8, 0#8])) (fun t =>
      decide ((t.node 3).faultReason = some .unexpectedValue)) = true ∧
    nextHolds (exec .closingQuietEnd (replying (stepping (.stepUp 1) 1) (moveOf 3 2 .plant) [64#8, 255#8, 0#8]))
      (fun t => decide ((t.node 3).faultReason = some .refusedMove) && decide (t.plant.seq.state = .fault)) = true ∧
    nextHolds (exec .closingQuietEnd (replying (stepping (.stepUp 1) 1) (moveOf 3 2 .plant) [2#8, 2#8, 0#8])) (fun t =>
      decide ((t.node 3).state = .busy) && decide (t.plant.seq.state = .stepUp 1)) = true ∧
    nextHolds (exec .closingQuietEnd (replying (withPlant (inState .commissioning)) (moveOf 3 0 .commission)
      [66#8, 255#8, 0#8])) (fun t =>
      decide ((t.node 3).state = .busy) && t.plant.seq.watch && decide (t.work 3 = .moveDone)) = true := by
  decide +kernel

/-- The reply to a STATUS of the aux heater node, the heater in a state. -/
def heaterTells (h : HeaterState) (mark busy : Bool) (o : Origin) (v : Byte) : State :=
  let s := plantRun.setHeater { plantRun.plant.heater with state := h, stopMark := mark, checkAsked := true }
  replying (if busy then busyAt s 4 else s) (statusOf 4 o) [0#8, v, v, 0#8]
theorem test_heater_told :
    (heaterTells .igniting false true .poll 1#8).statusTold 100 4 (statusOf 4 .poll) 0#8 1#8 1#8 ∧
    (heaterTells .igniting false true .poll 1#8).solePlant 4 .auxHeater :=
  ⟨⟨⟨replying_replied _ 4 _ 0#8 [1#8, 1#8] 0#8 rfl rfl rfl, rfl, rfl, rfl, rfl⟩, rfl, by decide +kernel,
    by decide +kernel, by decide +kernel, by decide +kernel⟩, ⟨by decide +kernel, by decide +kernel⟩⟩
theorem test_heater_busy_ends :
    nextHolds (exec .closingQuietEnd (heaterTells .igniting false true .poll 1#8)) (fun t =>
      decide (t.plant.heater.state = .running) && decide (t.arb.heat.capacity = 6)) = true ∧
    nextHolds (exec .closingQuietEnd (heaterTells .igniting false true .poll 0#8)) (fun t =>
      decide (t.plant.heater.state = .igniteWait) && decide (t.plant.heater.failures = 1)) = true ∧
    nextHolds (exec .closingQuietEnd (heaterTells .igniting true true .poll 1#8)) (fun t =>
      decide (t.plant.heater.state = .stopping) && t.moveUnderWay 4 0) = true ∧
    nextHolds (exec .closingQuietEnd (heaterTells .igniting true true .poll 0#8)) (fun t =>
      decide (t.plant.heater.state = .off)) = true ∧
    nextHolds (exec .closingQuietEnd (heaterTells .stopping false true .poll 0#8)) (fun t =>
      decide (t.plant.heater.state = .off)) = true ∧
    nextHolds (exec .closingQuietEnd (heaterTells .stopping false true .poll 1#8)) (fun t =>
      decide (t.plant.heater.state = .stopping) && t.moveUnderWay 4 0) = true ∧
    nextHolds (exec .closingQuietEnd ((heaterTells .igniting true true .poll 1#8).modNode 4
      (fun r => { r with pending := some ⟨0, .plant⟩ }))) (fun t =>
      decide (t.plant.heater.state = .stopping) && t.moveUnderWay 4 0) = true := by decide +kernel
theorem test_flame :
    nextHolds (exec .closingQuietEnd (heaterTells .running false false .plant 0#8)) (fun t =>
      decide (t.plant.heater.state = .igniteWait) && decide (t.arb.heat.capacity = 0)) = true ∧
    nextHolds (exec .closingQuietEnd (heaterTells .running false true .poll 0#8)) (fun t =>
      decide (t.plant.heater.state = .igniteWait)) = true ∧
    nextHolds (exec .closingQuietEnd (heaterTells .running false false .plant 1#8)) (fun t =>
      decide (t.plant.heater.state = .running) && decide ((t.node 4).value = some (.num 1))) = true ∧
    nextHolds (exec .closingQuietEnd ((heaterTells .running false false .plant 0#8).setHeater
      { plantRun.plant.heater with state := .running })) (fun t => decide (t.plant.heater.state = .running)) = true := by
  decide +kernel
/-- A STATUS of a shutdown, by the value it shows. -/
def heaterStops (v : Byte) : State :=
  let s := heaterTells .stopping false false .shutdown v
  s.setOp { s.op with state := .stopping }
theorem test_heater_shutdown :
    nextHolds (exec .closingQuietEnd (heaterStops 0#8)) (fun t =>
      decide (t.plant.heater.state = .off) && decide (t.op.state = .stopped)) = true ∧
    nextHolds (exec .closingQuietEnd (heaterStops 1#8)) (fun t => match t.line.txn with
      | some x => decide (x.node = some 4) && decide (x.cmd = .move) && decide (x.origin = .shutdown)
      | none => false) = true := by decide +kernel
theorem test_broadcast_stands_for_the_heater :
    nextHolds (exec .closingQuietEnd (broadcastWaits (heaterStops 1#8))) (fun t =>
      decide (t.plant.heater.state = .stopping) && !t.moveLeft 4 && t.broadcastStands) = true := by decide +kernel
/-- The reply to a MOVE of the aux heater node, the heater in a state. -/
def heaterMoves (h : HeaterState) (a : Nat) (st taken : Byte) : State :=
  replying ((plantRun.setHeater { plantRun.plant.heater with state := h }).modNode 4
    (fun r => { r with value := some (.num 1) })) (moveOf 4 a .plant) [st, taken, 0#8]
theorem test_heater_moves :
    nextHolds (exec .closingQuietEnd (heaterMoves .igniting 1 0#8 1#8)) (fun t =>
      decide (t.plant.heater.state = .running)) = true ∧
    nextHolds (exec .closingQuietEnd (heaterMoves .igniting 1 2#8 1#8)) (fun t =>
      decide ((t.node 4).state = .busy) && decide (t.plant.heater.state = .igniting)) = true ∧
    nextHolds (exec .closingQuietEnd (heaterMoves .igniting 1 66#8 255#8)) (fun t =>
      decide ((t.node 4).pending = some ⟨1, .plant⟩)) = true ∧
    nextHolds (exec .closingQuietEnd (heaterMoves .igniting 1 64#8 255#8)) (fun t =>
      decide (t.plant.heater.state = .off) && decide ((t.node 4).state = .ready)) = true ∧
    nextHolds (exec .closingQuietEnd (heaterMoves .stopping 0 0#8 0#8)) (fun t =>
      decide (t.plant.heater.state = .off)) = true ∧
    nextHolds (exec .closingQuietEnd (heaterMoves .stopping 0 64#8 255#8)) (fun t =>
      decide (t.plant.heater.state = .stopping) && t.moveUnderWay 4 0) = true ∧
    nextHolds (exec .closingQuietEnd (replying (withPlant (inState .commissioning)) (moveOf 4 0 .commission)
      [2#8, 0#8, 0#8])) (fun t =>
      decide (t.plant.heater.state = .stopping) && decide (t.work 4 = .moveDone)) = true := by decide +kernel
/-- The intake node's busy period ends, its last taken target 20. -/
def intakeTells (goal : Nat) : State :=
  let s := (busyAt plantRun 5).modNode 5 (fun r => { r with target := some 20 })
  replying (s.setPlant { s.plant with intakeTarget := some goal }) (statusOf 5 .poll) [0#8, 20#8, 20#8, 0#8]
theorem test_intake :
    (intakeTells 20).solePlant 5 .intake ∧
    nextHolds (exec .closingQuietEnd (intakeTells 20)) (fun t =>
      decide ((t.node 5).state = .ready) && decide (t.line = Line.reset)) = true ∧
    nextHolds (exec .closingQuietEnd (intakeTells 100)) (fun t => t.moveUnderWay 5 100) = true :=
  ⟨⟨by decide +kernel, by decide +kernel⟩, by decide +kernel⟩
/-- The intake's busy period ends in a part state, with another node as the definition's intake or the bound one. -/
def intakeIn (p : PartState) (named : NodeId) : State :=
  let s := intakeTells 0
  (s.setOp { s.op with state := p }).setPlant
    { s.plant with defn := { s.plant.defn with intake := some named } }
theorem test_intake_by_part_state :
    nextHolds (exec .closingQuietEnd (intakeIn .stopped 5)) (fun t => t.moveUnderWay 5 0) = true ∧
    nextHolds (exec .closingQuietEnd (intakeIn .stopping 5)) (fun t =>
      decide ((t.node 5).state = .ready) && decide (t.line = Line.reset)) = true ∧
    nextHolds (exec .closingQuietEnd (intakeIn .stopped 6)) (fun t => decide (t.line = Line.reset)) = true := by
  decide +kernel

/-! ## Start-up, restart, revival, retry -/

/-- A command of the node manager's own. -/
def ownTxn (n : NodeId) (c : Command) (o : Origin) : Txn := ⟨some n, c, 0, false, o, [o], 1, none⟩
/-- Zone 1's valve node 3 in a start-up step. -/
def starting (c : StartCause) (step : StartStep) (wakes : Nat) : State :=
  warm.modNode 2 (fun r => { r with
    state := .starting, cause := some c, startStep := step, wakeCount := wakes, wakeTimer := some 800
    target := some 60, binding := some (.zone 0 .valve) })
theorem test_start_up_answered :
    (replying (starting .retry .wake 0) (ownTxn 2 .wake .wake) [0#8, 0#8]).replied 100 2 (ownTxn 2 .wake .wake) 0#8 [] ∧
    (replying (starting .retry .ident 0) (ownTxn 2 .ident .wake) [0#8, 4#8, 9#8, 0#8]).answered 100 2
      (ownTxn 2 .ident .wake) 0#8 [4#8, 9#8] :=
  ⟨replying_replied _ 2 _ 0#8 [] 0#8 rfl rfl rfl,
    replying_replied _ 2 _ 0#8 [4#8, 9#8] 0#8 rfl rfl rfl, rfl, rfl, rfl, rfl⟩
theorem test_wake_answers :
    nextHolds (exec .closingQuietEnd (replying (starting .retry .wake 0) (ownTxn 2 .wake .wake) [0#8, 0#8])) (fun t =>
      t.inFlight 2 .ident && decide ((t.node 2).startStep = .ident)) = true ∧
    nextHolds (exec .closingQuietEnd (replying (starting .retry .wake 28) (ownTxn 2 .wake .wake) [1#8, 0#8])) (fun t =>
      decide ((t.node 2).wakeCount = 29) && decide (t.line = Line.reset)) = true ∧
    nextHolds (exec .closingQuietEnd (replying ((starting .retry .wake 29).modNode 2 (fun r => { r with binding := none }))
      (ownTxn 2 .wake .wake) [1#8, 0#8])) (fun t =>
      decide ((t.node 2).state = .offline) && t.cond.nodeOffline.pending) = true ∧
    nextHolds (exec .closingQuietEnd (replying (starting .retry .ident 0) (ownTxn 2 .ident .wake) [1#8, 0#8])) (fun t =>
      decide ((t.node 2).startStep = .wake) && decide ((t.node 2).wakeTimer = some 900)) = true ∧
    nextHolds (exec .closingQuietEnd (replying ((starting .retry .wake 0).modNode 2 (fun r => { r with binding := none }))
      (ownTxn 2 .wake .wake) [32#8, 0#8])) (fun t => decide ((t.node 2).faultReason = some .nodeReported)) = true := by
  decide +kernel
theorem test_ident_answers :
    nextHolds (exec .closingQuietEnd (replying (starting .restart .ident 0) (ownTxn 2 .ident .wake)
      [0#8, 4#8, 9#8, 0#8])) (fun t =>
      decide ((t.node 2).state = .ready) && decide ((t.node 2).version = some 9#8) &&
      decide (t.arb.heat.unitsOf 0 = 0)) = true ∧
    nextHolds (exec .closingQuietEnd (replying ((starting .restart .ident 0).modNode 2 (fun r => { r with binding := none }))
      (ownTxn 2 .ident .wake) [0#8, 4#8, 9#8, 0#8])) (fun t => t.moveUnderWay 2 60) = true ∧
    nextHolds (exec .closingQuietEnd (replying (starting .revival .ident 0) (ownTxn 2 .ident .wake)
      [0#8, 4#8, 9#8, 0#8])) (fun t => decide (t.arb.heat.unitsOf 0 = 4)) = true ∧
    nextHolds (exec .closingQuietEnd (replying ((starting .restart .ident 0).modNode 2 (fun r => { r with binding := none }))
      (ownTxn 2 .ident .wake) [0#8, 3#8, 9#8, 0#8])) (fun t =>
      decide ((t.node 2).faultReason = some .kindMismatch)) = true := by decide +kernel
/-- Node 1 or 3 of the small state, in the start-up of commissioning. -/
def commissioned (n : NodeId) (kind : Byte) : State :=
  let s := warm.modNode n (fun r => { r with
    state := .starting, cause := some .commission, startStep := .ident, wakeTimer := some 800 })
  replying ((s.setOp { s.op with state := .commissioning }).setWork n .startUp) (ownTxn n .ident .commission)
    [0#8, kind, 9#8, 0#8]
theorem test_commissioned :
    (commissioned 2 4#8).work 2 = .startUp ∧ ((commissioned 2 4#8).node 2).cause = some .commission ∧
    nextHolds (exec .closingQuietEnd (commissioned 2 4#8)) (fun t =>
      decide (t.work 2 = .moveAsked) && t.moveUnderWay 2 0) = true ∧
    nextHolds (exec .closingQuietEnd (commissioned 0 1#8)) (fun t =>
      t.op.done[(0 : NodeId)] && decide ((t.node 0).state = .ready)) = true := by decide +kernel
/-- Node 3 was BUSY at entry to COMMISSIONING, with a MOVE that an earlier commissioning left, and the queue is full. -/
def waitedOut : State :=
  let s := (busyAt warm 2).modNode 2 (fun r => { r with pending := some ⟨0, .commission⟩ })
  let s := (s.setOp { s.op with state := .commissioning }).setWork 2 .waitBusy
  replying (s.setQueue ((List.finRange 16).map (fun i => ⟨some ⟨i.val + 6, by omega⟩, .wake, 0, false, .commission, []⟩)))
    (statusOf 2 .poll) [0#8, 50#8, 50#8, 156#8]
theorem test_waited_out_starts_up :
    waitedOut.answered 100 2 (statusOf 2 .poll) 0#8 [50#8, 50#8] ∧
    (waitedOut.work 2 = .waitBusy ∧ (waitedOut.node 2).state = .busy ∧ (waitedOut.node 2).configured = true ∧
      valueFits (waitedOut.node 2).kind 50 = true ∧ waitedOut.op.done[(2 : NodeId)] = false ∧
      waitedOut.op.soft = .none ∧ (waitedOut.node 2).binding = none) ∧
    nextHolds (exec .closingQuietEnd waitedOut) (fun t =>
      decide (t.work 2 = .startUp) && decide ((t.node 2).state = .starting) &&
      decide ((t.node 2).cause = some .commission)) = true ∧
    nextHolds (exec .closingQuietEnd (waitedOut.setQueue [])) (fun t =>
      decide (t.work 2 = .startUp) && (t.inFlight 2 .wake)) = true :=
  ⟨⟨replying_replied _ 2 _ 0#8 [50#8, 50#8] 156#8 rfl rfl rfl, rfl, rfl, rfl, rfl⟩, by decide +kernel,
    by decide +kernel, by decide +kernel⟩
/-- The intake's start-up ends, and the queue is full with a restore MOVE of node 3 as its last entry. -/
def displacing : State :=
  let s := (commissioned 5 3#8).modNode 5 (fun r => { r with
    configured := true, kind := some .damper, binding := some (.plant .intake) })
  (s.setWork 2 .moveDone).setQueue
    ((List.finRange 15).map (fun i => ⟨some ⟨i.val + 6, by omega⟩, .wake, 0, false, .commission, []⟩) ++
      [⟨some 2, .move, 7, false, .restore, []⟩])
theorem test_displaced_restore_settles :
    16 ≤ displacing.nodes.queue.length ∧ (displacing.node 2).state = .ready ∧ displacing.queued 5 .move = false ∧
    displacing.op.done[(5 : NodeId)] = false ∧
    nextHolds (exec .closingQuietEnd displacing) (fun t =>
      t.op.done[(2 : NodeId)] && t.moveUnderWay 5 20 && decide (t.work 5 = .moveAsked) &&
      decide (t.op.state = .commissioning)) = true := by decide +kernel
theorem test_wake_fails :
    nextHolds (exec .replyWindowExpiry ((starting .retry .wake 0).setLine
      { phase := .awaitReply, txn := some { ownTxn 2 .wake .wake with attempt := 2 }, timer := some 100
        replyStart := none, chars := [], cut := false })) (fun t =>
      decide ((t.node 2).wakeCount = 1) && decide (t.line = Line.reset)) = true := by decide +kernel
theorem test_restart :
    stInStart 1#8 = true ∧
    nextHolds (exec .closingQuietEnd (closing .busy (pollTxn .status (some 30)) [1#8, 50#8, 50#8, 0#8])) (fun t =>
      decide ((t.node 30).state = .starting) && decide ((t.node 30).cause = some .restart) &&
      decide ((t.node 30).pending = none) && t.inFlight 30 .wake) = true ∧
    nextHolds (exec .closingQuietEnd (read [1#8, 0#8])) (fun t =>
      decide ((t.zone 0).missed = 1) && decide ((t.node 0).state = .starting) && t.inFlight 0 .wake) = true := by
  decide +kernel
theorem test_revival :
    nextHolds (exec .closingQuietEnd (closing .offline (ownTxn 30 .wake .wake) [1#8, 0#8])) (fun t =>
      decide ((t.node 30).cause = some .revival) && decide ((t.node 30).wakeCount = 1) &&
      decide (t.line = Line.reset)) = true ∧
    nextHolds (exec .closingQuietEnd (closing .offline (ownTxn 30 .wake .wake) [0#8, 0#8])) (fun t =>
      decide ((t.node 30).startStep = .ident) && t.inFlight 30 .ident) = true ∧
    nextHolds (exec .closingQuietEnd (closing .offline (ownTxn 30 .wake .wake) [32#8, 0#8])) (fun t =>
      decide ((t.node 30).faultReason = some .nodeReported)) = true ∧
    nextHolds (exec .closingQuietEnd (closing .offline (ownTxn 30 .wake .wake) [4#8, 0#8])) (fun t =>
      decide ((t.node 30).faultReason = some .illegalReply)) = true := by decide +kernel
/-- Node 31 in FAULT, a transaction of its retry answered. -/
def retrying (step : RetryStep) (c : Command) (chars : List Byte) : State :=
  replying (faulty (some step)) (ownTxn 30 c .retry) chars
theorem test_retry :
    nextHolds (exec .closingQuietEnd (retrying .reset .nodeReset [0#8, 0#8])) (fun t =>
      decide ((t.node 30).state = .starting) && decide ((t.node 30).cause = some .retry) && t.inFlight 30 .wake) = true ∧
    nextHolds (exec .closingQuietEnd (retrying .status .status [32#8, 0#8, 0#8, 0#8])) (fun t =>
      decide ((t.node 30).faultReason = some .nodeReported) && decide ((t.node 30).retryStep = none)) = true ∧
    nextHolds (exec .closingQuietEnd (retrying .status .status [2#8, 7#8, 9#8, 0#8])) (fun t =>
      decide ((t.node 30).retryStep = some (.ident true)) && t.inFlight 30 .ident) = true ∧
    nextHolds (exec .closingQuietEnd (retrying (.ident true) .ident [0#8, 4#8, 9#8, 0#8])) (fun t =>
      decide ((t.node 30).state = .busy) && (t.node 30).busyFromFault) = true ∧
    nextHolds (exec .closingQuietEnd (retrying (.ident false) .ident [0#8, 4#8, 9#8, 0#8])) (fun t =>
      decide ((t.node 30).state = .ready) && decide ((t.node 30).faultReason = none)) = true ∧
    nextHolds (exec .closingQuietEnd (retrying (.ident false) .ident [0#8, 3#8, 9#8, 0#8])) (fun t =>
      decide ((t.node 30).faultReason = some .kindMismatch)) = true := by decide +kernel
theorem test_retry_fails :
    nextHolds (exec .replyWindowExpiry ((faulty (some .status)).setLine
      { phase := .awaitReply, txn := some { ownTxn 30 .status .retry with attempt := 2 }, timer := some 100
        replyStart := none, chars := [], cut := false })) (fun t =>
      decide ((t.node 30).retryStep = none) && decide ((t.node 30).state = .fault)) = true := by decide +kernel

/-! ## A node goes down, and a plant node comes back -/

/-- A state whose transaction fails for the second time. -/
def failing (s : State) (x : Txn) : State :=
  s.setLine
    { phase := .awaitReply, txn := some { x with attempt := 2 }, timer := some 100, replyStart := none, chars := []
      cut := false }
theorem test_failing (s : State) (n : NodeId) (x : Txn) (h : s.held = false) (m : x.node = some n) :
    (failing s x).secondFails .replyWindowExpiry 100 n { x with attempt := 2 } :=
  ⟨h, ⟨.awaitReply, .noReply, Or.inl ⟨rfl, rfl, rfl⟩, rfl⟩, rfl, m, Nat.le_refl 2, ⟨100, rfl, rfl⟩⟩
/-- Two transactions of the node have failed in a row. -/
def twiceFailed (s : State) (n : NodeId) : State := s.modNode n (fun r => { r with failCount := 2 })
/-- Zone 1's valve and sensor are bound. -/
def bound : State :=
  (warm.modNode 2 (fun r => { r with binding := some (.zone 0 .valve) })).modNode 0
    (fun r => { r with binding := some (.zone 0 .sensor) })
def readTxn : Txn := ⟨some 0, .read, 0, false, .zone 0, [.zone 0], 1, none⟩
theorem test_zone_hears_offline :
    (pollTxn .status (some 2)).noReading ∧ (bound.zone 0).active = true ∧
    nextHolds (exec .replyWindowExpiry (failing (twiceFailed bound 2) (pollTxn .status (some 2)))) (fun t =>
      decide ((t.node 2).state = .offline) && (t.zone 0).flags.actuatorFault && decide ((t.zone 0).want = 0) &&
      decide (t.cond.nodeOffline = ⟨true, 1, some 3⟩)) = true ∧
    nextHolds (exec .replyWindowExpiry (failing (twiceFailed bound 0) readTxn)) (fun t =>
      decide ((t.node 0).state = .offline) && decide ((t.zone 0).missed = 1) &&
      decide (t.cond.nodeOffline = ⟨true, 1, some 1⟩)) = true :=
  ⟨(fun h => nomatch h), rfl, by decide +kernel⟩
theorem test_plant_hears_offline :
    nextHolds (exec .replyWindowExpiry (failing (twiceFailed (stepping (.running 2) 2) 3) (statusOf 3 .plant))) (fun t =>
      decide ((t.node 3).state = .offline) && decide (t.plant.seq.state = .fault) &&
      decide (t.cond.compFault = ⟨true, 1, some 4⟩)) = true ∧
    nextHolds (exec .replyWindowExpiry (failing (twiceFailed (stepping .fault 2) 3) (statusOf 3 .plant))) (fun t =>
      decide ((t.node 3).state = .offline) && !t.cond.compFault.pending) = true ∧
    nextHolds (exec .replyWindowExpiry (failing (twiceFailed (heaterTells .running false false .plant 0#8) 4)
      (statusOf 4 .plant))) (fun t =>
      decide ((t.node 4).state = .offline) && decide (t.plant.heater.state = .off)) = true ∧
    nextHolds (exec .replyWindowExpiry (failing (twiceFailed (heaterTells .lockedOut false false .plant 0#8) 4)
      (statusOf 4 .plant))) (fun t => decide (t.plant.heater.state = .lockedOut)) = true ∧
    nextHolds (exec .replyWindowExpiry (failing (twiceFailed plantRun 5) (moveOf 5 20 .plant))) (fun t =>
      decide ((t.node 5).state = .offline) && t.cond.nodeOffline.pending) = true := by decide +kernel
theorem test_faulty_reply :
    (closing .ready (pollTxn .status (some 30)) [0#8, 101#8, 0#8, 9#8]).faultyReply 100 30 (pollTxn .status (some 30)) 0#8
      [101#8, 0#8] .illegalReply ∧
    nextHolds (exec .closingQuietEnd (closing .ready (pollTxn .status (some 30)) [0#8, 101#8, 0#8, 9#8])) (fun t =>
      decide ((t.node 30).faultReason = some .illegalReply)) = true ∧
    nextHolds (exec .closingQuietEnd (closing .busy (pollTxn .status (some 30)) [32#8, 9#8, 9#8, 9#8])) (fun t =>
      decide ((t.node 30).faultReason = some .nodeReported) && t.cond.nodeFault.pending) = true ∧
    nextHolds (exec .closingQuietEnd (replying bound (pollTxn .halt (some 2)) [16#8, 9#8])) (fun t =>
      decide ((t.node 2).faultReason = some .illegalReply) && (t.zone 0).flags.actuatorFault) = true ∧
    nextHolds (exec .closingQuietEnd (replying bound readTxn [4#8, 9#8])) (fun t =>
      decide ((t.node 0).faultReason = some .illegalReply) && decide ((t.zone 0).missed = 1) &&
      t.cond.nodeFault.pending) = true ∧
    nextHolds (exec .closingQuietEnd (replying bound ⟨some 2, .move, 50, false, .zone 0, [.zone 0], 1, none⟩
      [64#8, 255#8, 9#8])) (fun t =>
      decide ((t.node 2).faultReason = some .refusedMove) && (t.zone 0).flags.actuatorFault) = true :=
  ⟨⟨⟨rfl, rfl, rfl, rfl, rfl, ⟨9#8, rfl⟩, rfl⟩, by decide +kernel, Or.inl rfl,
    Or.inr (Or.inr ⟨rfl, rfl, rfl, rfl, rfl, 101#8, 0#8, rfl, by decide +kernel⟩)⟩, by decide +kernel⟩
theorem test_faulty_plant_reply :
    nextHolds (exec .closingQuietEnd (replying (stepping (.running 2) 2) (statusOf 3 .plant) [0#8, 5#8, 0#8, 9#8]))
      (fun t => decide ((t.node 3).faultReason = some .illegalReply) && decide (t.plant.seq.state = .fault)) = true ∧
    nextHolds (exec .closingQuietEnd (replying (stepping .fault 2) (statusOf 3 .plant) [32#8, 0#8, 0#8, 9#8]))
      (fun t => decide ((t.node 3).faultReason = some .nodeReported) && !t.cond.compFault.pending) = true ∧
    nextHolds (exec .closingQuietEnd (replying (heaterTells .igniting true false .plant 0#8) (statusOf 4 .plant)
      [0#8, 2#8, 0#8, 9#8])) (fun t =>
      decide ((t.node 4).state = .fault) && decide (t.plant.heater.state = .off) && !t.plant.heater.stopMark) = true := by
  decide +kernel
/-- A plant node's IDENT answered, in a CHECK or at the end of a start-up of this cause, with a last taken target. -/
def comesBack (s : State) (n : NodeId) (kind : Byte) (c : Option StartCause) (target : Option Nat) : State :=
  let s := s.modNode n (fun r => match c with
    | none => { r with state := .fault, faultReason := some .nodeReported, retryStep := some (.ident false) }
    | some c => { r with state := .starting, cause := some c, startStep := .ident, target := target })
  replying s (ownTxn n .ident (if c = none then .retry else .wake)) [0#8, kind, 9#8, 0#8]
theorem test_identified :
    (comesBack (stepping .fault 2) 3 5#8 none none).identified 100 3 (ownTxn 3 .ident .retry) 0#8 5#8 9#8 ∧
    (comesBack (stepping .fault 0) 3 5#8 (some .revival) (some 2)).identified 100 3 (ownTxn 3 .ident .wake) 0#8 5#8 9#8 ∧
    (comesBack (stepping .fault 0) 3 5#8 (some .revival) (some 2)).moveAtReady 3 2 :=
  have good (s : State) (x : Txn) (k : Byte) (h : s.held = false) (m : x.node = some 3) :
      (replying s x [0#8, k, 9#8, 0#8]).answered 100 3 x 0#8 [k, 9#8] :=
    ⟨replying_replied s 3 x 0#8 [k, 9#8] 0#8 h m rfl, rfl, rfl, rfl, rfl⟩
  ⟨⟨good _ _ _ rfl rfl, rfl, by decide +kernel, by decide +kernel, Or.inr (by decide +kernel)⟩,
    ⟨good _ _ _ rfl rfl, rfl, by decide +kernel, by decide +kernel, Or.inl (by decide +kernel)⟩,
    Or.inr (by decide +kernel)⟩
theorem test_compressor_comes_back :
    nextHolds (exec .closingQuietEnd (comesBack (stepping .fault 2) 3 5#8 none none)) (fun t =>
      decide (t.plant.seq.state = .disengaging) && t.moveUnderWay 3 0 && decide ((t.node 3).state = .ready)) = true ∧
    nextHolds (exec .closingQuietEnd (comesBack (stepping .fault 0) 3 5#8 none none)) (fun t =>
      decide (t.plant.seq.state = .lockout)) = true ∧
    nextHolds (exec .closingQuietEnd (comesBack (stepping .fault 0) 3 5#8 (some .revival) (some 2))) (fun t =>
      decide (t.plant.seq.state = .disengaging) && t.moveUnderWay 3 0) = true ∧
    nextHolds (exec .closingQuietEnd (comesBack (stepping .fault 0) 3 5#8 (some .retry) (some 0))) (fun t =>
      decide (t.plant.seq.state = .lockout) && t.moveUnderWay 3 0) = true ∧
    nextHolds (exec .closingQuietEnd (comesBack (stepping .fault 2) 3 5#8 (some .restart) (some 2))) (fun t =>
      decide (t.plant.seq.state = .fault) && t.moveUnderWay 3 2) = true := by decide +kernel
/-- A compressor watched in a part state. -/
def watched (p : PartState) (v : Nat) : State :=
  let s := stepping .off v
  (s.setOp { s.op with state := p }).setSequencer { s.plant.seq with watch := true }
theorem test_watch_outlives_a_restart :
    nextHolds (exec .closingQuietEnd (comesBack (watched .commissioning 0) 3 5#8 (some .restart) (some 0))) (fun t =>
      decide (t.plant.seq.state = .lockout) && t.moveUnderWay 3 0 &&
      decide (t.plant.seq.lockoutTimer = some (100 + 120 * Config.second))) = true ∧
    nextHolds (exec .closingQuietEnd (comesBack (watched .stopped 2) 3 5#8 (some .restart) (some 0))) (fun t =>
      decide (t.plant.seq.state = .off) && t.plant.seq.watch && t.moveUnderWay 3 0) = true ∧
    nextHolds (exec .replyWindowExpiry (failing (watched .commissioning 2) (moveOf 3 0 .restore))) (fun t =>
      decide (t.plant.seq.state = .fault) && decide ((t.node 3).faultReason = some .unexpectedValue)) = true := by
  decide +kernel
/-- A plant node comes back, and the queue is full, its last entry URGENT or not. -/
def fullBack (s : State) (last : Bool) : State :=
  s.setQueue ((List.finRange 16).map (fun i =>
    ⟨some ⟨i.val + 6, by omega⟩, .halt, 0, last || decide (i.val < 15), .poll, []⟩))
theorem test_restore_finds_a_full_queue :
    ¬ (fullBack (comesBack (stepping .fault 0) 3 5#8 (some .revival) (some 2)) true).moveAtReady 3 2 ∧
    (fullBack (comesBack (stepping .fault 0) 3 5#8 (some .revival) (some 2)) false).moveAtReady 3 2 ∧
    nextHolds (exec .closingQuietEnd (fullBack (comesBack (stepping .fault 0) 3 5#8 (some .revival) (some 2)) true))
      (fun t => decide (t.plant.seq.state = .lockout)) = true ∧
    nextHolds (exec .closingQuietEnd (fullBack (comesBack (stepping .fault 0) 3 5#8 (some .revival) (some 2)) false))
      (fun t => decide (t.plant.seq.state = .disengaging) && decide (t.queuedMove 3 = some 0)) = true :=
  ⟨fun h => h.elim (by decide +kernel) (by decide +kernel), Or.inr (by decide +kernel), by decide +kernel⟩
/-- The aux heater node comes back at a value, the heater in a state, the HEAT queue waiting. -/
def heaterBack (h : HeaterState) (v : Option Value) (c : Option StartCause) (target : Option Nat) : State :=
  let s := plantRun.setPlant { plantRun.plant with viewHeat := ⟨true, 0⟩ }
  comesBack ((s.setHeater { s.plant.heater with state := h, permit := true }).modNode 4
    (fun r => { r with value := v })) 4 6#8 c target
theorem test_heater_comes_back :
    nextHolds (exec .closingQuietEnd (heaterBack .off (some (.num 1)) none none)) (fun t =>
      decide (t.plant.heater.state = .stopping) && t.moveUnderWay 4 0) = true ∧
    nextHolds (exec .closingQuietEnd (heaterBack .off (some (.num 0)) (some .revival) (some 1))) (fun t =>
      decide (t.plant.heater.state = .stopping) && t.moveUnderWay 4 0) = true ∧
    nextHolds (exec .closingQuietEnd (heaterBack .off none (some .retry) none)) (fun t =>
      decide (t.plant.heater.state = .igniting) && t.moveUnderWay 4 1) = true ∧
    nextHolds (exec .closingQuietEnd ((heaterBack .off (some (.num 0)) none none).setPlant plantRun.plant)) (fun t =>
      decide (t.plant.heater.state = .off) && decide ((t.node 4).state = .ready)) = true ∧
    nextHolds (exec .closingQuietEnd (heaterBack .igniteWait (some (.num 1)) none none)) (fun t =>
      decide (t.plant.heater.state = .igniteWait) && t.moveUnderWay 4 0) = true ∧
    nextHolds (exec .closingQuietEnd (heaterBack .lockedOut (some (.num 0)) none none)) (fun t =>
      decide (t.plant.heater.state = .lockedOut) && decide (t.line = Line.reset)) = true := by decide +kernel
theorem test_intake_comes_back :
    (comesBack (intakeIn .stopped 5) 5 3#8 (some .restart) (some 20)).noMove 5 ∧
    nextHolds (exec .closingQuietEnd (comesBack (intakeIn .stopped 5) 5 3#8 (some .restart) (some 20))) (fun t =>
      t.moveUnderWay 5 0 && decide ((t.node 5).state = .ready)) = true := by decide +kernel
/-- A MOVE that was in flight as node 31's start-up of commissioning began. -/
def moveInStarting (k : NodeKind) (chars : List Byte) : State :=
  let s := (closing .starting moveTxn chars).modNode 30 (fun r => { r with kind := some k })
  s.setOp { s.op with state := .commissioning }
theorem test_move_in_starting :
    (∀ m, (moveInStarting .valve []).work m ≠ .moveDone) ∧
    nextHolds (exec .closingQuietEnd (moveInStarting .valve [2#8, 50#8, 9#8])) (fun t =>
      decide ((t.node 30).state = .starting) && decide ((t.node 30).target = some 50) &&
      decide ((t.node 30).value = none)) = true ∧
    nextHolds (exec .closingQuietEnd (moveInStarting .valve [0#8, 50#8, 9#8])) (fun t =>
      decide ((t.node 30).state = .starting) && decide ((t.node 30).value = some (.num 50))) = true ∧
    nextHolds (exec .closingQuietEnd (moveInStarting .valve [66#8, 255#8, 9#8])) (fun t =>
      decide ((t.node 30).state = .starting) && decide ((t.node 30).target = none)) = true ∧
    nextHolds (exec .closingQuietEnd (moveInStarting .auxheat [64#8, 255#8, 9#8])) (fun t =>
      decide ((t.node 30).state = .starting)) = true ∧
    nextHolds (exec .closingQuietEnd (moveInStarting .valve [64#8, 255#8, 9#8])) (fun t =>
      decide ((t.node 30).faultReason = some .refusedMove) && t.cond.nodeFault.pending) = true ∧
    nextHolds (exec .closingQuietEnd (moveInStarting .valve [0#8, 51#8, 9#8])) (fun t =>
      decide ((t.node 30).faultReason = some .illegalReply)) = true := by decide +kernel

/-! ## Broadcasts, frames, the cut -/

theorem test_frame :
    (moveOf 30 60 .plant).frame = [31#8, 5#8, 60#8, 160#8] ∧ (statusOf 0 .poll).frame = [1#8, 3#8, 252#8] ∧
    (moveOf 30 60 .plant).lineBits.length = 48 ∧
    (statusOf 0 .poll).lineBits.take 12 =
      [.start, .value true, .value false, .value false, .value false, .value false, .value false, .value false,
        .value false, .value true, .value false, .stop] := by decide +kernel
/-- A broadcast at the end of its wait, in COMMISSIONING. -/
def broadcast (x : Txn) (soft : SoftReset) : State :=
  let s := (inState .commissioning).setLine
    { phase := .broadcastWait, txn := some x, timer := some 100, replyStart := none, chars := [], cut := false }
  s.setOp { s.op with soft := soft }
def haltTxn : Txn := ⟨none, .halt, 0, true, .commission, [.commission], 1, none⟩
theorem test_broadcast :
    (broadcast haltTxn .none).op.soft ≠ .broadcast ∧
    ¬ ((pollTxn .move none).cmd = .halt ∧ (pollTxn .move none).origin = .commission) ∧
    nextHolds (exec .broadcastWaitEnd (broadcast (pollTxn .move none) .none)) (fun t =>
      decide (t.line.phase = .idle) && decide (t.op.state = .commissioning)) = true ∧
    nextHolds (exec .broadcastWaitEnd ((broadcast haltTxn .none).setNode 0 (readyOf .sensor))) (fun t =>
      t.op.haltSent && decide (t.op.state = .commissioning)) = true ∧
    nextHolds (exec .broadcastWaitEnd (broadcast haltTxn .none)) (fun t =>
      decide (t.op.state = .run) && t.cond.commissionDone.pending) = true ∧
    nextHolds (exec .broadcastWaitEnd (broadcast (pollTxn .move none) .broadcast)) (fun t =>
      decide (t.op.state = .config) && decide (t.op.cause = .restart)) = true := by decide +kernel
/-- A RESTART has been answered, and its reply is being sent. -/
def restarted (s : State) : State := s.setOp { s.op with soft := .reply }
theorem test_restart_ends_commissioning :
    nextHolds (exec .broadcastWaitEnd (broadcast haltTxn .reply)) (fun t =>
      t.op.haltSent && decide (t.op.state = .commissioning) && !t.cond.commissionDone.pending) = true ∧
    nextHolds (exec .pollTickExpiry (restarted (polled .commissioning))) (fun t =>
      decide (t.work 2 = .moveOwed) && decide (t.line = Line.reset)) = true ∧
    nextHolds (exec .closingQuietEnd (restarted (commissioned 2 4#8))) (fun t =>
      decide ((t.node 2).state = .ready) && decide (t.work 2 = .startUp) && decide (t.line = Line.reset)) = true ∧
    nextHolds (exec .closingQuietEnd (restarted (replying (withPlant (inState .commissioning)) (moveOf 3 0 .commission)
      [66#8, 255#8, 0#8]))) (fun t => t.plant.seq.watch && decide (t.work 3 = .idle)) = true ∧
    nextHolds (exec .closingQuietEnd (restarted (replying (withPlant (inState .commissioning)) (moveOf 4 0 .commission)
      [2#8, 0#8, 0#8]))) (fun t => decide (t.plant.heater.state = .stopping) && decide (t.work 4 = .idle)) = true := by
  decide +kernel
theorem test_restart_ends_the_wait_for_rest :
    nextHolds (exec .closingQuietEnd (restarted (partTells .stopping .disengaging false false .shutdown 0#8))) (fun t =>
      decide (t.plant.seq.state = .lockout) && decide (t.op.state = .stopping) && !t.cond.stopped) = true ∧
    nextHolds (exec .closingQuietEnd (restarted (heaterStops 0#8))) (fun t =>
      decide (t.plant.heater.state = .off) && decide (t.op.state = .stopping)) = true := by decide +kernel
/-- A line that the order of a soft reset has cut. -/
def cutLine (p : LinePhase) : State :=
  let s := (onLine p (pollTxn .move none) []).setLine
    { phase := p, txn := some (pollTxn .move none), timer := some 100, replyStart := none, chars := [], cut := true }
  s.setOp { s.op with soft := .cut }
theorem test_gap_and_cut :
    (cutLine .gap).line.cut = true ∧
    nextHolds (exec .gapEnd (onLine .gap (pollTxn .move none) [])) (fun t => decide (t.line.phase = .lead)) = true ∧
    nextHolds (exec .gapEnd (cutLine .gap)) (fun t =>
      decide (t.op.soft = .broadcast) && decide (t.line.phase = .lead)) = true ∧
    nextHolds (exec .drainEnd (cutLine .drain)) (fun t => decide (t.line.phase = .gap) && t.line.cut) = true ∧
    nextHolds (exec .cutCharacterEnd (cutLine .sending)) (fun t => decide (t.line.phase = .gap)) = true ∧
    nextIs (exec .cutCharacterEnd (cutLine .gap)) (cutLine .gap) = true := by decide +kernel

/-! ## Computations and invariants -/

theorem test_demand_from_error :
    ({ ZoneRec.reset 0 with temperature := some 247 } : ZoneRec).fromError = (.cool, 5) ∧
    ({ ZoneRec.reset 0 with temperature := some 210 } : ZoneRec).fromError = (.heat, 2) ∧
    ({ ZoneRec.reset 0 with temperature := some 215 } : ZoneRec).fromError = (.none, 0) := by decide
/-- Zone 1 of the small state, changed, with its valve in a state. -/
def demanding (f : ZoneRec → ZoneRec) (st : NodeState) : Direction × Nat :=
  ((warm.modZone 0 f).modNode 2 (fun r => { r with state := st })).demand 0
theorem test_demand_rows :
    demanding id .ready = (.heat, 4) ∧ demanding id .busy = (.heat, 4) ∧ demanding id .offline = (.none, 0) ∧
    demanding id .fault = (.none, 0) ∧ demanding (fun r => { r with valve := none }) .ready = (.none, 0) ∧
    demanding (fun r => { r with tempSetpoint := some 260, temperature := some 230 }) .ready = (.heat, 6) ∧
    demanding (fun r => { r with sensorStatus := .lost }) .ready = (.none, 0) ∧
    demanding (fun r => { r with temperature := none }) .ready = (.none, 0) ∧
    demanding (fun r => { r with temperature := some 240 }) .ready = (.none, 0) ∧
    demanding (fun r => { r with temperature := some 240, damper := some 1 }) .ready = (.cool, 4) ∧
    demanding (fun r => { r with baseMode := .coolOnly }) .ready = (.none, 0) ∧
    demanding (fun r => { r with baseMode := .heatOnly }) .ready = (.heat, 4) ∧
    demanding (fun r => { r with baseMode := .vent }) .ready = (.none, 0) ∧
    demanding (fun r => { r with stack := ⟨.purge, none, 0⟩ :: r.stack }) .ready = (.heat, 4) ∧
    demanding (fun r => { r with stack := ⟨.defog, none, 0⟩ :: r.stack, temperature := none }) .ready = (.heat, 8) ∧
    demanding (fun r => { r with stack := ⟨.defog, none, 0⟩ :: r.stack }) .fault = (.none, 0) := by decide +kernel
theorem test_rule_of_a_zone :
    ruleGives (warm.zone 0) (warm.zone 0).fromError (.heat, 4) ∧ warm.serves (warm.zone 0).valve ∧
    ¬ warm.serves (warm.zone 0).damper ∧ (warm.zone 0).effMode ≠ .curtain ∧
    ((overridden .curtain).zone 23).effMode = .curtain ∧ 1 ≤ (warm.zone 0).wmax :=
  ⟨by unfold ruleGives; decide +kernel, ⟨2, by decide +kernel⟩, (fun ⟨_, h, _⟩ => nomatch h), by decide +kernel,
    by decide +kernel, by decide +kernel⟩
/-- Zone 1's target computation asks its blower and valve; the valve in a state, with a latest commanded value. -/
def computing (st : NodeState) (p : Option PendingMove) (g : Option Nat) : State :=
  warm.modNode 2 (fun r => { r with state := st, pending := p, target := g })
theorem test_targets_asked :
    (computing .ready none none).latestCommanded 2 = none ∧ (computing .busy (some ⟨7, .plant⟩) none).latestCommanded 2 =
      some 7 ∧
    ((computing .ready none none).zoneTargets 0).moveUnderWay 2 0 = true ∧
    ((computing .ready none none).zoneTargets 0).moveUnderWay 1 20 = true ∧
    ((computing .ready none (some 0)).zoneTargets 0).moveUnderWay 2 0 = false ∧
    (((computing .busy (some ⟨7, .plant⟩) none).zoneTargets 0).node 2).pending = some ⟨0, .zone 0⟩ ∧
    ((computing .offline none none).zoneTargets 0).moveUnderWay 2 0 = false ∧
    (crowded.modNode 30 (fun r => { r with state := .ready })).moveTo (some 30) 9 (.zone 0) =
      crowded.modNode 30 (fun r => { r with state := .ready }) := by decide +kernel
/-- Node 31 is the intake, and the queue is full, a HALT of node 1 first and a WAKE of node 17 last. -/
def jammed : State :=
  (crowded.setNode 30 { readyOf .damper with binding := some (.plant .intake) }).setQueue
    (⟨some 0, .halt, 0, true, .poll, []⟩ ::
      ((List.finRange 15).map (fun i => ⟨some ⟨i.val + 1, by omega⟩, .read, 0, false, .zone 1, []⟩)))
theorem test_urgent_moves :
    16 ≤ jammed.nodes.queue.length ∧ jammed.plantBound 30 = true ∧
    (jammed.moveTo (some 30) 9 .plant).nodes.queue.map Entry.cmd =
      .halt :: .move :: List.replicate 14 .read ∧
    ((jammed.setQueue [⟨some 0, .read, 0, false, .zone 1, []⟩, ⟨some 30, .move, 4, false, .restore, []⟩]).moveTo (some 30) 9
      .plant).nodes.queue = [⟨some 30, .move, 9, true, .plant, []⟩, ⟨some 0, .read, 0, false, .zone 1, []⟩] ∧
    (((jammed.setQueue (List.replicate 15 ⟨some 0, .halt, 0, true, .poll, []⟩ ++
      [⟨some 7, .halt, 0, false, .poll, []⟩])).moveTo (some 30) 9 .plant).node 7).haltOwed = true := by decide +kernel
theorem test_targets :
    ({ ZoneRec.reset 0 with baseMode := .auto, wmax := 6 } : ZoneRec).grantTarget .heat (some (.heat, 1)) = 16 ∧
    ({ ZoneRec.reset 0 with baseMode := .auto, wmax := 6 } : ZoneRec).grantTarget .cool (some (.heat, 1)) = 0 := by
  decide
/-- A pool in which three zones hold ten units. -/
def shared : Arbiter :=
  { Arbiter.reset with heat := ⟨10, [⟨0, 4, 1⟩, ⟨1, 4, 2⟩, ⟨2, 2, 3⟩], []⟩, counter := 3 }
theorem test_capacity_write :
    ((shared.writeCapacity .heat 5 (fun _ => 1) 0).heat.grantedTotal) = 5 ∧
    (shared.writeCapacity .heat 5 (fun _ => 1) 0).heat.claims.map Claim.units = [2, 3] := by decide +kernel
theorem test_shared_sound : shared.sound where
  heat :=
    { within := by decide, grants := by decide, claims := by decide, ranks := by decide
      passed := List.forall_mem_nil _ }
  cool :=
    { within := by decide, grants := by decide, claims := by decide, ranks := by decide
      passed := List.forall_mem_nil _ }
  apart := fun _ h => by simp [Pool.concerns, shared, Arbiter.reset] at h
/-- A HEAT pool with four free units and three claims. -/
def queued (passed : Nat) : Arbiter :=
  { Arbiter.reset with
    heat := ⟨10, [⟨0, 6, 1⟩], [⟨1, 5, 2, 2, passed, 0, false⟩, ⟨2, 3, 1, 3, 0, 0, false⟩, ⟨3, 2, 0, 4, 0, 0, false⟩]⟩
    counter := 4 }
theorem test_grant_pass :
    (queued 0).counter + (queued 0).heat.claims.length ≤ 4294967295 ∧
    ((queued 0).pass .heat).heat.grants = [⟨0, 6, 1⟩, ⟨2, 3, 5⟩] ∧
    ((queued 0).pass .heat).heat.claims = [⟨1, 5, 2, 2, 1, 0, false⟩, ⟨3, 2, 0, 4, 0, 0, false⟩] ∧
    (queued 3).pass .heat = queued 3 ∧
    ((queued 2).pass .heat).heat.claims.map Claim.passed = [3, 0] := by decide +kernel
theorem test_settlement :
    (shared.settle 0 .heat 2 1 9).heat.grants = [⟨0, 2, 1⟩, ⟨1, 4, 2⟩, ⟨2, 2, 3⟩] ∧
    shared.settle 0 .heat 4 1 9 = shared ∧
    (shared.settle 0 .heat 6 1 9).heat.claims = [⟨0, 2, 1, 4, 0, 9, false⟩] ∧
    (shared.settle 0 .none 0 1 9).heat.grants = [⟨1, 4, 2⟩, ⟨2, 2, 3⟩] ∧
    (shared.settle 0 .cool 3 1 9).cool.claims = [⟨0, 3, 1, 4, 0, 9, false⟩] ∧
    ((queued 0).settle 1 .heat 4 2 9).heat.unitsOf 1 = 4 ∧
    ((queued 0).settle 1 .heat 5 0 9).heat.claims = [⟨3, 2, 0, 4, 0, 0, false⟩, ⟨1, 5, 0, 5, 0, 0, false⟩] := by decide +kernel
/-- The counter at its last value, zone 2 waiting beside its grant. -/
def lastNumber : Arbiter :=
  { Arbiter.reset with
    heat := ⟨6, [⟨0, 2, 4294967294⟩, ⟨1, 4, 4294967293⟩], [⟨1, 3, 1, 4294967295, 2, 0, true⟩]⟩, counter := 4294967295 }
theorem test_renumber :
    lastNumber.numbers.length = 3 ∧
    (lastNumber.writeCapacity .heat 4 (fun z => z.val) 9).heat =
      ⟨4, [⟨1, 4, 1⟩], [⟨1, 3, 1, 2, 2, 0, true⟩, ⟨0, 2, 0, 3, 0, 9, false⟩]⟩ ∧
    ((lastNumber.refile .heat 1 2 5 9).heat.claimOf 1) = some ⟨1, 5, 5, 4, 0, 9, false⟩ := by decide +kernel
/-- Zone 2's claim is met by a rise of HEAT capacity, and the HEAT queue empties: its valve node 7 is told. -/
theorem test_notices :
    nextHolds (.next (State.writeCapacity
      ((warm.setNode 6 (readyOf .valve)).setZone 1 { warm.zone 0 with valve := some 6, blower := none } |>.setArb
        { warm.arb with heat := ⟨0, [], [⟨1, 4, 1, 1, 0, 0, false⟩]⟩ }) .heat 8)) (fun t =>
      decide (t.arb.heat.unitsOf 1 = 4) && t.moveUnderWay 6 50 && decide (t.plant.viewHeat = ⟨false, 4⟩)) = true ∧
    nextHolds (.next (State.writeCapacity
      (plantRun.setArb { plantRun.arb with cool := ⟨4, [⟨1, 4, 1⟩], []⟩ }) .cool 0)) (fun t =>
      decide (t.plant.viewCool = ⟨true, 0⟩) && decide (t.plant.seq.state = .engaging) && t.moveUnderWay 3 1) = true ∧
    nextHolds (.next (State.writeCapacity
      ((plantRun.setArb { plantRun.arb with heat := ⟨4, [⟨1, 4, 1⟩], []⟩ }).setHeater
        { plantRun.plant.heater with permit := true }) .heat 0)) (fun t =>
      decide (t.plant.heater.state = .igniting) && t.moveUnderWay 4 1) = true := by decide +kernel
theorem test_invariants_at_reset :
    State.reset.cond.stopped = false ∧ State.reset.op.state ≠ .stopped ∧ State.reset.nodes.queue = [] ∧
    (step State.reset matches .next _) = true := by decide +kernel

end Sys2Proof.Tests
end

section
/-! SUPPORT. How an event reaches its meaning: the hold, the zone and node of a timer, the timer itself, the end of a
reply's closing quiet and of an attempt, and what frees the line (log 2, R118). -/
namespace Sys2Proof.Machine

/-! ## Events -/

theorem State.answer_free {s : State} (f : State → State) (h : s.held = false) : s.answer f = .next (f s) := by
  simp [State.answer, h]

theorem State.zoneEvent_free {s : State} (z : Zone) (f : Zone → State → State) (h : s.held = false) :
    s.zoneEvent z.number f = .next (f z s) := by
  simp [State.zoneEvent, zoneOfNat_number, State.answer_free _ h]

theorem State.nodeEvent_free {s : State} (n : NodeId) (f : NodeId → State → State) (h : s.held = false) :
    s.nodeEvent n.address f = .next (f n s) := by
  simp [State.nodeEvent, nodeOfNat_address, State.answer_free _ h]

/-! ## Writing a record twice -/

@[simp] theorem State.setZone_setZone (s : State) (z : Zone) (r r' : ZoneRec) :
    (s.setZone z r).setZone z r' = s.setZone z r' := by
  simp [State.setZone]

@[simp] theorem State.setNode_setNode (s : State) (n : NodeId) (r r' : NodeRec) :
    (s.setNode n r).setNode n r' = s.setNode n r' := by
  simp [State.setNode]

@[simp] theorem State.setZone_self (s : State) (z : Zone) : s.setZone z (s.zone z) = s := by
  simp [State.setZone, State.zone]

@[simp] theorem State.setNode_self (s : State) (n : NodeId) : s.setNode n (s.node n) = s := by
  simp [State.setNode, State.node]

/-! ## The hand-over (R133) -/

theorem State.firstFree_none (s : State) (l : List Entry) (h : ∀ e ∈ l, s.holdsBack e = true) :
    s.firstFree l = none := by
  induction l with
  | nil => rfl
  | cons e l ih =>
    simp [State.firstFree, h e (by simp), ih (fun x hx => h x (List.mem_cons_of_mem _ hx))]

theorem State.firstFree_append (s : State) (a b : List Entry) (e : Entry) (ha : ∀ x ∈ a, s.holdsBack x = true)
    (he : s.holdsBack e = false) : s.firstFree (a ++ e :: b) = some (e, a ++ b) := by
  induction a with
  | nil => simp [State.firstFree, he]
  | cons x a ih =>
    simp [State.firstFree, ha x (by simp), ih (fun y hy => ha y (List.mem_cons_of_mem _ hy))]

/-- The entry handed over stands in the queue, and the others are left in their order. -/
theorem State.firstFree_split (s : State) (l q : List Entry) (e : Entry) (h : s.firstFree l = some (e, q)) :
    ∃ a b, l = a ++ e :: b ∧ q = a ++ b := by
  induction l generalizing q with
  | nil => simp [State.firstFree] at h
  | cons x l ih =>
    unfold State.firstFree at h
    split at h
    · split at h
      · simp at h
      · rename_i y r hr
        simp only [Option.some.injEq, Prod.mk.injEq] at h
        obtain ⟨rfl, rfl⟩ := h
        obtain ⟨a, b, rfl, rfl⟩ := ih r hr
        exact ⟨x :: a, b, rfl, rfl⟩
    · simp only [Option.some.injEq, Prod.mk.injEq] at h
      obtain ⟨rfl, rfl⟩ := h
      exact ⟨[], l, rfl, rfl⟩

theorem State.handOver_busy (s : State) (h : s.line.phase ≠ .idle) : s.handOver = s := by
  simp [State.handOver, h]

theorem handedOver_handOver (s : State) (h : s.line.phase = .idle) : handedOver s s.handOver := by
  refine ⟨fun hs => ?_, fun a e b hq ha he hs => ?_⟩
  · rcases hs with hs | hs
    · simp [State.handOver, State.firstFree_none s _ hs]
    · simp [State.handOver, hs]
  · simp only [State.handOver, h, hs, hq, State.firstFree_append s a b e ha he, true_and, if_true]
    rfl

theorem queueBecomes_handOver (s : State) (q : List Entry) : queueBecomes s q (s.setQueue q).handOver :=
  ⟨fun h => handedOver_handOver (s.setQueue q) h, fun h => State.handOver_busy (s.setQueue q) h⟩

theorem State.freeLine_freed (s : State) : lineFreed s s.freeLine := handedOver_handOver _ rfl

/-- R118: what the line's record held does not matter to the state in which the line is freed. -/
theorem lineFreed_of_eq {a b : State} (h : a.setLine Line.reset = b.setLine Line.reset) : lineFreed a b.freeLine := by
  have e : lineFreed a = lineFreed b := by
    funext t
    exact congrArg (handedOver · t) h
  rw [e]
  exact b.freeLine_freed

/-! ## The end of a reply and of an attempt (R116 to R118) -/

theorem State.phaseEnd_due {s : State} {p : LinePhase} {d : Time} (f : State → State) (hp : s.line.phase = p)
    (ht : s.line.timer = some d) : s.phaseEnd p f = f (s.reach d) := by
  simp [State.phaseEnd, hp, ht]

theorem State.replyComplete_good {s : State} {x : Txn} {st c : Byte} {data : List Byte} (hx : s.line.txn = some x)
    (hc : s.line.chars = st :: (data ++ [c])) (hs : stCheckError st = false) :
    s.replyComplete = s.deliver x (.ok st data) := by
  simp [State.replyComplete, hx, hc, hs]

theorem State.replyComplete_bad {s : State} {x : Txn} {st : Byte} {rest : List Byte} (hx : s.line.txn = some x)
    (hc : s.line.chars = st :: rest) (hs : stCheckError st = true) :
    s.replyComplete = s.attemptFailed .checkError := by
  simp [State.replyComplete, hx, hc, hs]

theorem State.deliver_addressed (s : State) {x : Txn} {n : NodeId} (res : TxnResult) (hn : x.node = some n) :
    s.deliver x res = ((s.setLine { s.line with timer := none }).takeOutcome x n res).freeLine := by
  simp [State.deliver, hn]

/-- A reply that has come to its end is taken, and then the line is free. -/
theorem exec_closingQuietEnd {s : State} {d : Time} {n : NodeId} {x : Txn} {st : Byte} {data : List Byte}
    (h : s.replied d n x st data) :
    exec .closingQuietEnd s = .next ((s.reporting d).takeOutcome x n (.ok st data)).freeLine := by
  obtain ⟨hh, hp, ht, hx, hn, ⟨c, hc⟩, hs⟩ := h
  simp only [exec, execClosingQuietEnd, State.answer_free _ hh]
  rw [State.phaseEnd_due _ hp ht, State.replyComplete_good (s := s.reach d) hx hc hs, State.deliver_addressed _ _ hn]
  rfl

/-- The end of an attempt in failure, at its time. -/
theorem exec_attemptFails {s : State} {c : Instr} {p : LinePhase} {k : FailKind} {d : Time} {x : Txn}
    (hh : s.held = false) (hx : s.line.txn = some x) (h : s.attemptFails c p k) (hp : s.line.phase = p)
    (hd : s.endsAt d) : exec c s = .next (State.attemptFailed { s with now := max s.now d } k) := by
  obtain ⟨e, he, hd⟩ := hd
  rcases h with ⟨rfl, rfl, rfl⟩ | ⟨rfl, rfl, rfl⟩ | ⟨rfl, rfl, hc, rfl⟩ | ⟨rfl, rfl, rfl, st, rest, hch, hst⟩
  · simp only [hp] at hd
    subst hd
    simp only [exec, execReplyWindowExpiry, State.answer_free _ hh, State.phaseEnd_due _ hp he]
    rfl
  · simp only [hp] at hd
    subst hd
    simp only [exec, execReplyGapTimeout, State.answer_free _ hh, State.phaseEnd_due _ hp he]
    rfl
  · have hdue : s.line.drainDue e = d := by
      rw [hd, hp, Line.drainDue]
      cases s.line.replyStart <;> rfl
    have hc' : (s.reach d).line.cut = false := hc
    simp only [exec, execDrainEnd, State.answer_free _ hh, State.drainEnd, he, hp, if_true, hdue, State.drained, hc',
      Bool.false_eq_true, if_false]
    rfl
  · simp only [hp] at hd
    subst hd
    simp only [exec, execClosingQuietEnd, State.answer_free _ hh, State.phaseEnd_due _ hp he]
    rw [State.replyComplete_bad (s := s.reach d) hx hch hst]
    rfl

theorem State.attemptFailed_first {s : State} {x : Txn} (k : FailKind) (hx : s.line.txn = some x)
    (ha : x.attempt < 2) :
    s.attemptFailed k = { s with
      line :=
        { phase := .gap, txn := some { x with attempt := 2, firstFail := some k }
          timer := some (s.now + 2 * Config.charTime), replyStart := none, chars := [], cut := false } } := by
  simp only [State.attemptFailed, hx, ha, if_true]
  rfl

theorem State.attemptFailed_second {s : State} {x : Txn} (k : FailKind) (hx : s.line.txn = some x)
    (ha : 2 ≤ x.attempt) : s.attemptFailed k = s.deliver x (.failed x.firstFail k) := by
  simp [State.attemptFailed, hx, Nat.not_lt.2 ha]

/-- The second failure is reported, and then the line is free. -/
theorem exec_secondFails {s : State} {c : Instr} {d : Time} {n : NodeId} {x : Txn} (h : s.secondFails c d n x) :
    ∃ k, exec c s = .next ((s.reporting d).takeOutcome x n (.failed x.firstFail k)).freeLine := by
  obtain ⟨hh, ⟨p, k, hf, hp⟩, hx, hn, ha, hd⟩ := h
  refine ⟨k, ?_⟩
  rw [exec_attemptFails hh hx hf hp hd, State.attemptFailed_second (s := { s with now := max s.now d }) k hx ha,
    State.deliver_addressed _ _ hn]
  rfl

end Sys2Proof.Machine
end

section
/-! The timers of a zone: the loop (O32), the hold, the defog, the curtain and the saturation of a claim (O33). -/
namespace Sys2Proof.Machine

/-! ## Reads (R15 to R18) -/

/-- R18: a failed read, by the sensor's status and the count. -/
theorem State.failedRead_of {s : State} {z : Zone} (h1 : s.op.state = .run) (h2 : (s.zone z).active = true) :
    failedReadOf s z (s.failedRead z) := by
  refine ⟨fun h => ?_, fun h hm => ?_, fun h hm => ?_⟩
  · simp [State.failedRead, h]
  · have hm' : (s.zone z).missed + 1 < 3 := by omega
    simp [State.failedRead, h, hm']
  · have hm' : ¬ (s.zone z).missed + 1 < 3 := by omega
    simp only [State.failedRead, h, hm', if_false]
    exact State.evaluate_evaluated _ z h1 (by rw [← h2]; simp [State.zone, State.setZone])

theorem State.readFailed_run {s : State} {z : Zone} (h1 : s.op.state = .run) (h2 : (s.zone z).active = true) :
    s.readFailed z = s.failedRead z := by
  simp [State.readFailed, h1, h2]

end Sys2Proof.Machine
end

section
/-! SUPPORT. Where a request stands: in the queue or in flight. What a request adds, and what the hand-over and later
requests leave standing (R133, R136, R138). -/
namespace Sys2Proof.Machine

/-- What is looked for in the queue and in flight: a node, a command, an argument, an origin, and all who asked. -/
abbrev Mark := Option NodeId → Command → Nat → Origin → List Origin → Prop

/-- An entry of the queue, or the transaction in flight, is such a one. -/
def State.stands (s : State) (P : Mark) : Prop :=
  (∃ e ∈ s.nodes.queue, P e.node e.cmd e.argument e.origin (e.origin :: e.absorbed)) ∨
  (∃ x, s.line.inFlight = some x ∧ P x.node x.cmd x.argument x.origin x.origins)

/-- The mark of an entry that has been asked: a MOVE has its argument and origin, and its originator is among all who
asked. -/
def Entry.mark (e : Entry) : Mark := fun n c a o os =>
  n = e.node ∧ c = e.cmd ∧ (e.cmd = .move → a = e.argument ∧ o = e.origin) ∧ e.origin ∈ os

/-- A mark that this request does not take away: one of its own node and command is NORMAL, no MOVE, and holds with one
more who asks. -/
def Mark.survives (P : Mark) (e : Entry) : Prop :=
  ∀ a o os, P e.node e.cmd a o os → e.urgent = false ∧ e.cmd ≠ .move ∧ P e.node e.cmd a o (os ++ [e.origin])

theorem State.stands.mono {s : State} {P Q : Mark} (h : s.stands P) (i : ∀ n c a o os, P n c a o os → Q n c a o os) :
    s.stands Q := by
  rcases h with ⟨e, he, hp⟩ | ⟨x, hx, hp⟩
  · exact .inl ⟨e, he, i _ _ _ _ _ hp⟩
  · exact .inr ⟨x, hx, i _ _ _ _ _ hp⟩

theorem Line.inFlight_idle (l : Line) (h : l.phase = .idle) : l.inFlight = none := by simp [Line.inFlight, h]

theorem Line.inFlight_withTxn {l : Line} {x : Txn} (h : l.inFlight = some x) (y : Txn) :
    ({ l with txn := some y } : Line).inFlight = some y := by
  unfold Line.inFlight at h
  split at h
  · rename_i hc; exact if_pos hc
  · simp at h

theorem Line.inFlight_txn {l : Line} {x : Txn} (h : l.inFlight = some x) : l.txn = some x := by
  unfold Line.inFlight at h
  split at h
  · exact h
  · simp at h

theorem State.queued_iff (s : State) (n : NodeId) (c : Command) :
    s.queued n c = true ↔ ∃ e ∈ s.nodes.queue, e.node = some n ∧ e.cmd = c := by
  simp [State.queued]

theorem State.inFlight_iff (s : State) (n : NodeId) (c : Command) :
    s.inFlight n c = true ↔ ∃ x, s.line.inFlight = some x ∧ x.node = some n ∧ x.cmd = c := by
  unfold State.inFlight
  cases s.line.inFlight <;> simp

theorem State.asked_iff_stands (s : State) (n : NodeId) (c : Command) :
    s.asked n c ↔ s.stands (fun m d _ _ _ => m = some n ∧ d = c) := by
  rw [State.asked, State.queued_iff, State.inFlight_iff]
  rfl

theorem State.stands.askedMove {s : State} {n : NodeId} {a : Nat}
    (h : s.stands (fun m c b _ _ => m = some n ∧ c = .move ∧ b = a)) : s.askedMove n a := by
  rcases h with h | ⟨x, hx, hp⟩
  · exact .inl h
  · exact .inr ⟨x, Line.inFlight_txn hx, hp⟩

theorem State.stands.askedMoveBy {s : State} {n : NodeId} {a : Nat} {o : Origin}
    (h : s.stands (fun m c b p _ => m = some n ∧ c = .move ∧ b = a ∧ p = o)) : s.askedMoveBy n a o := by
  rcases h with h | ⟨x, hx, hp⟩
  · exact .inl h
  · exact .inr ⟨x, Line.inFlight_txn hx, hp⟩

theorem State.stands.askedBy {s : State} {n : NodeId} {c : Command} {o : Origin}
    (h : s.stands (fun m d _ _ os => m = some n ∧ d = c ∧ o ∈ os)) : s.askedBy n c o := by
  rcases h with h | ⟨x, hx, hp⟩
  · exact .inl h
  · exact .inr ⟨x, Line.inFlight_txn hx, hp⟩

/-! ## The hand-over keeps what stands -/

/-- A hand-over, by its two ends. -/
theorem State.handOver_cases (s : State) :
    s.handOver = s ∨ (s.line.phase = .idle ∧ ∃ a e b, s.nodes.queue = a ++ e :: b ∧
      s.handOver = (s.setQueue (a ++ b)).startTxn e) := by
  unfold State.handOver
  split
  · rename_i h
    split
    · exact .inl rfl
    · rename_i e q hq
      obtain ⟨a, b, hl, rfl⟩ := s.firstFree_split _ _ _ hq
      exact .inr ⟨h.1, a, e, b, hl, rfl⟩
  · exact .inl rfl

theorem State.stands.handOver {s : State} {P : Mark} (h : s.stands P) : s.handOver.stands P := by
  rcases s.handOver_cases with e | ⟨hi, a, e, b, hq, ht⟩
  · rwa [e]
  · rw [ht]
    rcases h with ⟨x, hx, hp⟩ | ⟨x, hx, _⟩
    · rw [hq] at hx
      rcases List.mem_append.1 hx with hx | hx
      · exact .inl ⟨x, List.mem_append_left _ hx, hp⟩
      · rcases List.mem_cons.1 hx with rfl | hx
        · exact .inr ⟨_, rfl, hp⟩
        · exact .inl ⟨x, List.mem_append_right _ hx, hp⟩
    · rw [Line.inFlight_idle _ hi] at hx
      simp at hx

theorem State.handOver_length (s : State) : s.handOver.nodes.queue.length ≤ s.nodes.queue.length := by
  rcases s.handOver_cases with e | ⟨_, a, e, b, hq, ht⟩
  · rw [e]
  · rw [ht, hq]
    simp [State.startTxn, State.setLine, State.setQueue]

/-! ## Joining the queue -/

theorem mem_insertEntry (e x : Entry) (q : List Entry) : x ∈ insertEntry e q ↔ x = e ∨ x ∈ q := by
  unfold insertEntry
  split
  · have h : x ∈ q ↔ x ∈ q.takeWhile (·.urgent) ∨ x ∈ q.dropWhile (·.urgent) := by
      rw [← List.mem_append, List.takeWhile_append_dropWhile]
    rw [h, List.mem_append, List.mem_cons]
    tauto
  · rw [List.mem_append, List.mem_singleton]
    tauto

theorem length_insertEntry (e : Entry) (q : List Entry) : (insertEntry e q).length = q.length + 1 := by
  unfold insertEntry
  split
  · have h := congrArg List.length (List.takeWhile_append_dropWhile (p := (·.urgent)) (l := q))
    simp only [List.length_append, List.length_cons] at h ⊢
    omega
  · simp

theorem Entry.same_iff (a b : Entry) : a.same b = true ↔ a.node = b.node ∧ a.cmd = b.cmd := by simp [Entry.same]

theorem Entry.absorb_node (old e : Entry) : (old.absorb e).node = old.node := by unfold Entry.absorb; split <;> rfl
theorem Entry.absorb_cmd (old e : Entry) : (old.absorb e).cmd = old.cmd := by unfold Entry.absorb; split <;> rfl
theorem Entry.absorb_urgent (old e : Entry) : (old.absorb e).urgent = old.urgent := by
  unfold Entry.absorb; split <;> rfl

/-- An entry that has taken an equal request in is marked by it. -/
theorem Entry.absorb_mark {old e : Entry} (h : e.same old = true) (u : Bool) :
    e.mark (old.absorb e).node (old.absorb e).cmd { old.absorb e with urgent := u }.argument (old.absorb e).origin
      ((old.absorb e).origin :: (old.absorb e).absorbed) := by
  obtain ⟨hn, hc⟩ := (Entry.same_iff e old).1 h
  refine ⟨by rw [Entry.absorb_node, hn], by rw [Entry.absorb_cmd, hc], fun hm => ?_, ?_⟩
  · simp [Entry.absorb, hm]
  · by_cases hm : e.cmd = .move <;> simp [Entry.absorb, hm]

/-- What a request does to the queue and the line. -/
inductive Joins (s : State) (e : Entry) : State → Prop
  | entry (old : Entry) (q : List Entry) (mem : old ∈ s.nodes.queue) (same : e.same old = true)
      (eq : coalesce e s.nodes.queue = some q) : Joins s e (s.setQueue q)
  | flight (x : Txn) (fl : s.line.inFlight = some x) (node : x.node = e.node) (cmd : x.cmd = e.cmd)
      (kind : e.cmd = .read ∨ e.cmd = .status ∨ e.cmd = .wake ∨ e.cmd = .ident)
      (none : ∀ y ∈ s.nodes.queue, e.same y = false) :
      Joins s e (s.setLine { s.line with txn := some { x with origins := x.origins ++ [e.origin] } })
  | place (room : s.nodes.queue.length < Config.queueMax) (none : ∀ y ∈ s.nodes.queue, e.same y = false) :
      Joins s e (s.setQueue (insertEntry e s.nodes.queue))
  | displaces (v : Entry) (q : List Entry) (full : Config.queueMax ≤ s.nodes.queue.length) (urgent : e.urgent = true)
      (eq : removeLastNormal s.nodes.queue = some (v, q)) (none : ∀ y ∈ s.nodes.queue, e.same y = false) :
      Joins s e ((s.refuseEntry v).setQueue (insertEntry e q))
  | refused (full : Config.queueMax ≤ s.nodes.queue.length)
      (all : e.urgent = true → removeLastNormal s.nodes.queue = none)
      (none : ∀ y ∈ s.nodes.queue, e.same y = false)
      (flight : ∀ x, s.line.inFlight = some x → ¬ (x.node = e.node ∧ x.cmd = e.cmd ∧
        (e.cmd = .read ∨ e.cmd = .status ∨ e.cmd = .wake ∨ e.cmd = .ident))) : Joins s e (s.refuseEntry e)

theorem coalesce_none (e : Entry) (q : List Entry) : coalesce e q = none ↔ ∀ y ∈ q, e.same y = false := by
  unfold coalesce
  cases h : q.find? (e.same ·)
  · simpa using h
  · rename_i old
    simp only [iff_false_intro (fun hh => by
      have := hh old (List.mem_of_find?_eq_some h)
      rw [List.find?_some h] at this
      exact absurd this (by simp) : ¬ ∀ y ∈ q, e.same y = false), iff_false]
    split <;> simp

theorem State.joinQueue_joins (s : State) (e : Entry) : Joins s e (s.joinQueue e) := by
  unfold State.joinQueue
  cases hc : coalesce e s.nodes.queue with
  | some q =>
    cases hf : s.nodes.queue.find? (e.same ·) with
    | none => simp [coalesce, hf] at hc
    | some old => exact .entry old q (List.mem_of_find?_eq_some hf) (List.find?_some hf) hc
  | none =>
    have hn := (coalesce_none e _).1 hc
    dsimp only
    cases ha : s.absorbedInFlight e with
    | some s' =>
      unfold State.absorbedInFlight at ha
      cases hl : s.line.inFlight with
      | none => simp [hl] at ha
      | some x =>
        simp only [hl] at ha
        split at ha
        · rename_i h
          simp only [Option.some.injEq] at ha
          subst ha
          exact .flight x hl h.1 h.2.1 h.2.2 hn
        · simp at ha
    | none =>
      dsimp only
      split
      · exact .place ‹_› hn
      · rename_i hlen
        have hfl : ∀ x, s.line.inFlight = some x → ¬ (x.node = e.node ∧ x.cmd = e.cmd ∧
            (e.cmd = .read ∨ e.cmd = .status ∨ e.cmd = .wake ∨ e.cmd = .ident)) := by
          intro x hx h
          simp [State.absorbedInFlight, hx, h] at ha
        split
        · cases hr : removeLastNormal s.nodes.queue with
          | none => exact .refused (Nat.not_lt.1 hlen) (fun _ => hr) hn hfl
          | some v => exact .displaces v.1 v.2 (Nat.not_lt.1 hlen) ‹_› hr hn
        · rename_i hu
          exact .refused (Nat.not_lt.1 hlen) (fun h => absurd h hu) hn hfl

/-- R136: an equal entry of the queue has taken the request in, and every other entry stands on. -/
theorem mem_coalesce {e : Entry} {q r : List Entry} (h : coalesce e q = some r) :
    (∀ y ∈ q, e.same y = false → y ∈ r) ∧
    (e.urgent = false → ∀ y ∈ q, e.same y = true → y.absorb e ∈ r) ∧
    (∃ old ∈ q, e.same old = true ∧ ∃ u, { old.absorb e with urgent := u } ∈ r) := by
  unfold coalesce at h
  cases hf : q.find? (e.same ·) with
  | none => simp [hf] at h
  | some old =>
    have ho := List.mem_of_find?_eq_some hf
    have hs := List.find?_some hf
    simp only [hf] at h
    split at h
    · simp only [Option.some.injEq] at h
      subst h
      have key : { old.absorb e with urgent := true } ∈
          insertEntry { old.absorb e with urgent := true } (q.filter (fun x => !e.same x)) :=
        (mem_insertEntry _ _ _).2 (.inl rfl)
      have hu : e.urgent = true := by simp_all
      exact ⟨fun y hy hn => (mem_insertEntry _ _ _).2 (.inr (by simp [hy, hn])), fun h => by simp [hu] at h,
        old, ho, hs, true, key⟩
    · simp only [Option.some.injEq] at h
      subst h
      have key : ∀ o ∈ q, e.same o = true → o.absorb e ∈ q.map (fun x => if e.same x then x.absorb e else x) :=
        fun o hom hos => List.mem_map.2 ⟨o, hom, by simp [hos]⟩
      exact ⟨fun y hy hn => List.mem_map.2 ⟨y, hy, by simp [hn]⟩, fun _ => key, old, ho, hs, (old.absorb e).urgent,
        key old ho hs⟩

theorem State.joinQueue_stands {s : State} {e : Entry} {n : NodeId} (hn : e.node = some n) (h : s.takesIn n e.cmd) :
    (s.joinQueue e).stands e.mark := by
  have j := s.joinQueue_joins e
  generalize s.joinQueue e = t at j
  cases j with
  | entry old q _ _ heq =>
    obtain ⟨o, _, hs, u, hm⟩ := (mem_coalesce heq).2.2
    exact .inl ⟨_, hm, Entry.absorb_mark hs u⟩
  | flight x fl node cmd kind _ =>
    refine .inr ⟨_, Line.inFlight_withTxn fl _, node, cmd, fun hm => ?_, by simp⟩
    rw [hm] at kind
    simp at kind
  | place _ _ =>
    exact .inl ⟨e, (mem_insertEntry _ _ _).2 (.inl rfl), rfl, rfl, fun _ => ⟨rfl, rfl⟩, by simp⟩
  | displaces v q full urgent heq none =>
    exact .inl ⟨e, (mem_insertEntry _ _ _).2 (.inl rfl), rfl, rfl, fun _ => ⟨rfl, rfl⟩, by simp⟩
  | refused full all none flight =>
    exfalso
    rcases h with h | ⟨h, hk⟩ | h
    · obtain ⟨y, hy, h1, h2⟩ := (s.queued_iff n e.cmd).1 h
      have := none y hy
      rw [(Entry.same_iff e y).2 ⟨by rw [hn, h1], h2.symm⟩] at this
      simp at this
    · obtain ⟨x, hx, h1, h2⟩ := (s.inFlight_iff n e.cmd).1 h
      exact flight x hx ⟨by rw [hn, h1], h2, by simpa using hk⟩
    · omega

/-- A request leaves standing what it neither takes in otherwise nor displaces. -/
theorem State.stands.joinQueue {s : State} {P : Mark} {e : Entry} (h : s.stands P) (k : P.survives e)
    (room : s.nodes.queue.length < Config.queueMax) : (s.joinQueue e).stands P := by
  have j := s.joinQueue_joins e
  generalize s.joinQueue e = t at j
  cases j with
  | entry old q _ _ heq =>
    rcases h with ⟨y, hy, hp⟩ | h
    · cases hs : e.same y
      · exact .inl ⟨y, (mem_coalesce heq).1 y hy hs, hp⟩
      · obtain ⟨hn, hc⟩ := (Entry.same_iff e y).1 hs
        rw [← hn, ← hc] at hp
        obtain ⟨hu, hm, hp⟩ := k _ _ _ hp
        refine .inl ⟨_, (mem_coalesce heq).2.1 hu y hy hs, ?_⟩
        simpa [Entry.absorb, hm, ← hn, ← hc] using hp
    · exact .inr h
  | flight x fl node cmd kind _ =>
    rcases h with h | ⟨y, hy, hp⟩
    · exact .inl h
    · obtain rfl : x = y := by rw [fl] at hy; simpa using hy
      rw [node, cmd] at hp
      refine .inr ⟨_, Line.inFlight_withTxn fl _, ?_⟩
      simpa [node, cmd] using (k _ _ _ hp).2.2
  | place _ _ =>
    rcases h with ⟨y, hy, hp⟩ | h
    · exact .inl ⟨y, (mem_insertEntry _ _ _).2 (.inr hy), hp⟩
    · exact .inr h
  | displaces _ _ full _ _ _ => exact absurd room (Nat.not_lt.2 full)
  | refused full _ _ _ => exact absurd room (Nat.not_lt.2 full)

theorem State.stands.request {s : State} {P : Mark} {e : Entry} (h : s.stands P) (k : P.survives e)
    (room : s.nodes.queue.length < Config.queueMax) : (s.request e).stands P :=
  (h.joinQueue k room).handOver

theorem length_coalesce {e : Entry} {q r : List Entry} (h : coalesce e q = some r) : r.length ≤ q.length := by
  unfold coalesce at h
  cases hf : q.find? (e.same ·) with
  | none => simp [hf] at h
  | some old =>
    simp only [hf] at h
    split at h
    · simp only [Option.some.injEq] at h
      rw [← h, length_insertEntry]
      refine List.length_filter_lt_length_iff_exists.2 ⟨old, List.mem_of_find?_eq_some hf, ?_⟩
      simp [List.find?_some hf]
    · simp only [Option.some.injEq] at h
      simp [← h]

/-- A request that finds room lengthens the queue by one at most. -/
theorem State.request_length (s : State) (e : Entry) (room : s.nodes.queue.length < Config.queueMax) :
    (s.request e).nodes.queue.length ≤ s.nodes.queue.length + 1 := by
  refine (State.handOver_length _).trans ?_
  have j := s.joinQueue_joins e
  generalize s.joinQueue e = t at j
  cases j with
  | entry old q _ _ heq => exact (length_coalesce heq).trans (Nat.le_succ _)
  | flight x fl node cmd kind _ => exact Nat.le_succ _
  | place _ _ => exact (length_insertEntry e _).le
  | displaces _ _ full _ _ _ => exact absurd room (Nat.not_lt.2 full)
  | refused full _ _ _ => exact absurd room (Nat.not_lt.2 full)

/-- R133, R136: a request that is taken in stands in the queue or in flight. -/
theorem State.request_stands {s : State} {e : Entry} {n : NodeId} (hn : e.node = some n) (h : s.takesIn n e.cmd) :
    (s.request e).stands e.mark :=
  (State.joinQueue_stands hn h).handOver

end Sys2Proof.Machine
end

section
/-! The timers of a zone: the loop (O32), the hold, the defog, the curtain and the saturation of a claim (O33). -/
namespace Sys2Proof.Machine

/-- R128: a READ asked of a READY node with room in the queue. -/
theorem State.askRead_asked {s : State} {n : NodeId} (o : Origin) (h : (s.node n).state = .ready)
    (room : s.nodes.queue.length < 16) : (s.askRead n o).asked n .read := by
  simp only [State.askRead, h]
  exact ((State.asked_iff_stands _ _ _).2
    ((State.request_stands rfl (.inr (.inr room))).mono (fun _ _ _ _ _ p => ⟨p.1, p.2.1⟩)))

/-- R15: the zone's record with its loop timer restarted. -/
def State.loopRestarted (s : State) (z : Zone) : State :=
  s.modZone z (fun r => { r with loopTimer := some (s.now + r.loopPeriod * Config.second) })

theorem State.loopExpiry_ready {s : State} {z : Zone} {n : NodeId} (hn : (s.zone z).sensor = some n)
    (hr : (s.node n).state = .ready) :
    s.loopExpiry z =
      if s.queued n .read = true ∨ s.inFlight n .read = true then s.loopRestarted z
      else (s.loopRestarted z).askRead n (.zone z) := by
  have hs : ((s.loopRestarted z).zone z).sensor = some n := by simp [State.loopRestarted, hn]
  change (match ((s.loopRestarted z).zone z).sensor with | none => _ | some m => _) = _
  rw [hs]
  exact if_pos hr

theorem State.loopExpiry_failed {s : State} {z : Zone}
    (h : ∀ n, (s.zone z).sensor = some n → (s.node n).state ≠ .ready) :
    s.loopExpiry z = (s.loopRestarted z).failedRead z := by
  have hs : ((s.loopRestarted z).zone z).sensor = (s.zone z).sensor := by simp [State.loopRestarted]
  change (match ((s.loopRestarted z).zone z).sensor with | none => _ | some m => _) = _
  rw [hs]
  split
  · rfl
  · rename_i n hn
    exact if_neg (h n hn)

/-- Settles O32: the timer restarts, and then the sensor node's state decides. -/
theorem loopExpiry : Obligations.LoopExpiry := by
  intro s z hh
  have hx : exec (.loopTimerExpiry z.number) s = .next (s.expire (s.zone z).loopTimer (·.loopExpiry z)) :=
    State.zoneEvent_free z _ hh
  refine ⟨fun h => by rw [hx, h]; rfl, fun d u hd hu => ⟨(s.reach d).loopExpiry z, by rw [hx, hd]; rfl, ?_, ?_⟩⟩
  · intro n hn hr
    have e := State.loopExpiry_ready (s := s.reach d) hn hr
    rw [e]
    refine ⟨fun h => (if_pos h).trans hu.symm, fun h1 h2 => ?_⟩
    rw [if_neg (by rw [not_or]; exact ⟨ne_true_of_eq_false h1, ne_true_of_eq_false h2⟩), hu]
    exact ⟨NodeSide.askRead _ n _, fun room => State.askRead_asked _ hr room⟩
  · intro h1 h2 h3
    rw [State.loopExpiry_failed (s := s.reach d) h3, hu]
    exact State.failedRead_of h1 (by simpa using h2)

/-! ## The other timers of a zone -/

/-- R7: an active zone's record becomes r in RUN, and the zone is evaluated where S changes. -/
theorem State.changeSetpoint_rewritten {s : State} {z : Zone} (f : ZoneRec → ZoneRec) (h1 : s.op.state = .run)
    (h2 : (f (s.zone z)).active = true) :
    Rewritten s z (f (s.zone z)) ((s.zone z).setpoint ≠ (f (s.zone z)).setpoint) (s.changeSetpoint z f) := by
  constructor
  · intro h
    exact if_pos (not_not.1 h)
  · intro h
    have e : s.changeSetpoint z f = (s.setZone z (f (s.zone z))).evaluate z := if_neg h
    rw [e]
    exact State.evaluate_evaluated _ z h1 (by simpa using h2)

/-- R28: the end of an override of an active zone in RUN, where its entry stands. -/
theorem State.endOverride_changed {s : State} {z : Zone} {k : EntryKind} (h1 : s.op.state = .run)
    (h2 : (s.zone z).active = true) (h3 : (s.zone z).hasEntry k = true) :
    ModeChanged s z ((s.zone z).dropEntry k) (s.endOverride z k) := by
  have e : s.endOverride z k = s.changeMode z (fun r => r.dropEntry k) := if_pos h3
  rw [e]
  exact State.changeMode_changed s z (fun r => r.dropEntry k) h1 h2

theorem ZoneRec.dropEntry_defog (r : ZoneRec) :
    r.dropEntry .defog = { r with stack := r.stack.filter (fun e => e.kind ≠ .defog), defogTimer := none } := by
  simp [ZoneRec.dropEntry]

theorem ZoneRec.dropEntry_curtain (r : ZoneRec) :
    r.dropEntry .curtain = { r with stack := r.stack.filter (fun e => e.kind ≠ .curtain), curtainTimer := none } := by
  simp [ZoneRec.dropEntry]

/-- R29: what a change of a zone's stack can change beside the record. -/
theorem DemandSide.changeMode (s : State) (z : Zone) (f : ZoneRec → ZoneRec) :
    DemandSide (s.modZone z f) (s.changeMode z f) := by
  have h : DemandSide (s.modZone z f) (s.changeStack z f) := DemandSide.ofPlant (PlantSide.modeNotice _ _ _)
  unfold State.changeMode
  split
  · exact h
  · exact h.trans (DemandSide.evaluate _ z)

theorem State.endOverride_curtainExpired (s : State) (z : Zone) (k : EntryKind) :
    (s.endOverride z k).cond.curtainExpired = s.cond.curtainExpired := by
  unfold State.endOverride
  split
  · rw [(DemandSide.changeMode s z _).cond]; rfl
  · rfl

/-- Settles O33, timer by timer. -/
theorem zoneTimersExpire : Obligations.ZoneTimersExpire := by
  intro s z hh
  have hold : exec (.holdTimerExpiry z.number) s = .next (s.expire (s.zone z).holdTimer (·.holdExpiry z)) :=
    State.zoneEvent_free z _ hh
  have defog : exec (.defogTimerExpiry z.number) s =
      .next (s.expire (s.zone z).defogTimer (·.endOverride z .defog)) := State.zoneEvent_free z _ hh
  have curtain : exec (.curtainTimerExpiry z.number) s =
      .next (s.expire (s.zone z).curtainTimer (·.curtainExpiry z)) := State.zoneEvent_free z _ hh
  have claim : exec (.claimSaturation z.number) s = .next (s.claimAges z) := State.zoneEvent_free z _ hh
  refine ⟨fun h => by rw [hold, h]; rfl, fun h => by rw [defog, h]; rfl, fun h => by rw [curtain, h]; rfl,
    fun h1 h2 => ⟨fun d hd => ?_, fun d hd he => ?_, fun d hd he => ?_⟩, fun h => ?_, fun i c hc => ⟨fun h => ?_, fun h => ?_⟩⟩
  · rw [hold, hd]
    exact ⟨_, rfl, State.changeSetpoint_rewritten (s := s.reach d)
      (fun r => { r with tempSetpoint := none, holdTimer := none }) h1 h2⟩
  · rw [defog, hd, ← ZoneRec.dropEntry_defog]
    exact ⟨_, rfl, State.endOverride_changed (s := s.reach d) h1 h2 he⟩
  · have m := State.endOverride_changed (s := s.reach d) (k := .curtain) h1 h2 he
    rw [curtain, hd, ← ZoneRec.dropEntry_curtain]
    refine ⟨_, _, rfl, m, ?_⟩
    rw [show s.cond.curtainExpired = (s.reach d).cond.curtainExpired from rfl,
      ← State.endOverride_curtainExpired (s.reach d) z .curtain]
    rfl
  · rw [claim, State.claimAges, h]
  · rw [claim, State.claimAges, hc]; simp [h]
  · rw [claim, State.claimAges, hc]
    simp only [h, Bool.false_eq_true, if_false]
    rfl

end Sys2Proof.Machine
end

section
/-! The demand of a zone (O50). -/
namespace Sys2Proof.Machine

theorem ZoneRec.setpoint_some {r : ZoneRec} {v : Int} (h : r.tempSetpoint = some v) : r.setpoint = v := by
  simp [ZoneRec.setpoint, h]

theorem ZoneRec.setpoint_none {r : ZoneRec} (h : r.tempSetpoint = none) : r.setpoint = r.planSetpoint := by
  simp [ZoneRec.setpoint, h]

/-- R29: the effective mode is that of the top entry. -/
theorem ZoneRec.effMode_cons {r : ZoneRec} {e : ModeEntry} {q : List ModeEntry} (h : r.stack = e :: q) :
    r.effMode = match e.kind with
      | .base => r.baseMode.eff
      | .curtain => .curtain
      | .purge => .purge
      | .defog => .defog := by
  simp only [ZoneRec.effMode, h] <;> rfl

/-- R13: one more than the whole 0.5 steps of an error beyond the deadband. -/
theorem stepsBeyond {x : Int} (h : 0 < x) : x.toNat / 5 + 1 = (x / 5 + 1).toNat := by omega

theorem ZoneRec.fromError_measured {r : ZoneRec} {temp : Int} (h : r.sensorStatus ≠ .lost)
    (ht : r.temperature = some temp) :
    r.fromError =
      if (r.deadband : Int) < r.setpoint - temp then
        (.heat, min r.wmax ((r.setpoint - temp - r.deadband).toNat / 5 + 1))
      else if r.setpoint - temp < -(r.deadband : Int) then
        (.cool, min r.wmax ((-(r.setpoint - temp) - r.deadband).toNat / 5 + 1))
      else (.none, 0) := by
  simp [ZoneRec.fromError, h, ht]

theorem ZoneRec.fromError_absent {r : ZoneRec} (h : r.sensorStatus = .lost ∨ r.temperature = none) :
    r.fromError = (.none, 0) := by
  rcases h with h | h <;> simp [ZoneRec.fromError, h]

/-- R13: NONE goes with a want of 0 and no other, for a wmax of 1 or more. -/
theorem ZoneRec.fromError_zero (r : ZoneRec) (h : 1 ≤ r.wmax) : r.fromError.1 = .none ↔ r.fromError.2 = 0 := by
  by_cases hl : r.sensorStatus = .lost
  · simp [ZoneRec.fromError_absent (.inl hl)]
  · cases ht : r.temperature with
    | none => simp [ZoneRec.fromError_absent (.inr ht)]
    | some temp =>
      rw [ZoneRec.fromError_measured hl ht]
      split
      · simp; omega
      · split
        · simp; omega
        · simp

/-- R13: NONE has a want of 0. -/
theorem ZoneRec.fromError_none {r : ZoneRec} (h : r.fromError.1 = .none) : r.fromError = (.none, 0) := by
  by_cases hl : r.sensorStatus = .lost
  · exact ZoneRec.fromError_absent (.inl hl)
  · cases ht : r.temperature with
    | none => exact ZoneRec.fromError_absent (.inr ht)
    | some temp =>
      rw [ZoneRec.fromError_measured hl ht] at h ⊢
      split at h
      · simp at h
      · split at h
        · simp at h
        · rename_i h1 h2
          rw [if_neg h1, if_neg h2]

/-- R12: HEAT alone is the demand less its COOL. -/
theorem ZoneRec.heatPart_fromError (r : ZoneRec) :
    heatPart r.fromError = if r.fromError.1 = .cool then (.none, 0) else r.fromError := by
  have h := r.fromError_none
  rcases hf : r.fromError with ⟨d, w⟩
  rw [hf] at h
  cases d <;> simp_all [heatPart]

/-- R12: COOL alone is the demand less its HEAT. -/
theorem ZoneRec.coolPart_fromError (r : ZoneRec) :
    coolPart r.fromError = if r.fromError.1 = .heat then (.none, 0) else r.fromError := by
  have h := r.fromError_none
  rcases hf : r.fromError with ⟨d, w⟩
  rw [hf] at h
  cases d <;> simp_all [coolPart]

/-- R12: the rows of the effective modes, in the words of the rule. -/
theorem ZoneRec.rawDemand_rule {r : ZoneRec} {g : Direction × Nat} (hc : r.effMode ≠ .curtain)
    (h : ruleGives r r.fromError g) : r.rawDemand = g := by
  obtain ⟨idle, auto, heat, cool, purge, defog⟩ := h
  unfold ZoneRec.rawDemand
  cases he : r.effMode with
  | off => exact (idle (by simp [he])).symm
  | vent => exact (idle (by simp [he])).symm
  | auto => exact (auto he).symm
  | heatOnly => exact r.heatPart_fromError.trans (heat he).symm
  | coolOnly => exact r.coolPart_fromError.trans (cool he).symm
  | defog => exact (defog he).symm
  | curtain => exact absurd he hc
  | purge =>
    obtain ⟨idle, auto, heat, cool⟩ := purge he
    cases hb : r.baseMode with
    | off => exact (idle (by simp [hb])).symm
    | vent => exact (idle (by simp [hb])).symm
    | auto => exact (auto hb).symm
    | heatOnly => exact r.heatPart_fromError.trans (heat hb).symm
    | coolOnly => exact r.coolPart_fromError.trans (cool hb).symm

/-- R12: each row gives NONE, the demand from error or HEAT with wmax. -/
theorem ZoneRec.rawDemand_cases {r : ZoneRec} (hc : r.effMode ≠ .curtain) :
    r.rawDemand = (.none, 0) ∨ r.rawDemand = r.fromError ∨ r.rawDemand = (.heat, r.wmax) := by
  have base (m : BaseMode) : r.baseDemand m = (.none, 0) ∨ r.baseDemand m = r.fromError := by
    cases m with
    | off => exact .inl rfl
    | vent => exact .inl rfl
    | auto => exact .inr rfl
    | heatOnly => rw [ZoneRec.baseDemand, r.heatPart_fromError]; exact ite_eq_or_eq _ _ _
    | coolOnly => rw [ZoneRec.baseDemand, r.coolPart_fromError]; exact ite_eq_or_eq _ _ _
  unfold ZoneRec.rawDemand
  cases he : r.effMode with
  | off => exact .inl rfl
  | vent => exact .inl rfl
  | auto => exact (base _).imp id .inl
  | heatOnly => exact (base _).imp id .inl
  | coolOnly => exact (base _).imp id .inl
  | purge => exact (base _).imp id .inl
  | defog => exact .inr (.inr rfl)
  | curtain => exact absurd he hc

theorem ZoneRec.rawDemand_none {r : ZoneRec} (hc : r.effMode ≠ .curtain) (h : r.rawDemand.1 = .none) :
    r.rawDemand = (.none, 0) := by
  rcases ZoneRec.rawDemand_cases hc with e | e | e
  · exact e
  · rw [e] at h ⊢
    exact ZoneRec.fromError_none h
  · simp [e] at h

theorem ZoneRec.rawDemand_zero {r : ZoneRec} (hc : r.effMode ≠ .curtain) (h : 1 ≤ r.wmax) :
    r.rawDemand.1 = .none ↔ r.rawDemand.2 = 0 := by
  rcases ZoneRec.rawDemand_cases hc with e | e | e
  · simp [e]
  · rw [e]
    exact r.fromError_zero h
  · simp [e]; omega

theorem State.cannotServe_iff (s : State) (n : Option NodeId) : s.cannotServe n = true ↔ ¬ s.serves n := by
  cases n with
  | none => simp [State.cannotServe, State.serves]
  | some n => simp [State.cannotServe, State.serves, imp_iff_not_or]

/-- R14: the restrictions on valve and damper. -/
theorem State.demand_eq {s : State} {z : Zone} (hc : (s.zone z).effMode ≠ .curtain) :
    s.demand z =
      if ((s.zone z).rawDemand.1 = .heat ∧ s.cannotServe (s.zone z).valve = true) ∨
        ((s.zone z).rawDemand.1 = .cool ∧ s.cannotServe (s.zone z).damper = true) then (.none, 0)
      else (s.zone z).rawDemand := by
  have hn := ZoneRec.rawDemand_none hc
  unfold State.demand
  rcases hf : (s.zone z).rawDemand with ⟨d, w⟩
  rw [hf] at hn
  cases d <;> simp_all

theorem State.demand_zero {s : State} {z : Zone} (hc : (s.zone z).effMode ≠ .curtain) (h : 1 ≤ (s.zone z).wmax) :
    (s.demand z).1 = .none ↔ (s.demand z).2 = 0 := by
  rw [State.demand_eq hc]
  split
  · simp
  · exact ZoneRec.rawDemand_zero hc h

/-- Settles O50, from the rows of the effective modes (R12), the error (R13) and the restrictions (R14). -/
theorem demandFromError : Obligations.DemandFromError := by
  refine ⟨fun r => ⟨fun v => ZoneRec.setpoint_some, ZoneRec.setpoint_none, fun e q hq => ?_, fun h => if_pos h,
    fun h => if_neg h⟩, fun r temp e db hl ht he hd => ?_, fun r => ZoneRec.fromError_absent,
    fun s z r f g hr hf hc hg => ?_, fun s z hc => ?_⟩
  · rw [ZoneRec.effMode_cons hq]
    refine ⟨fun h => ?_, fun h => by rw [h], fun h => by rw [h], fun h => by rw [h]⟩
    rw [h]
    cases r.baseMode <;> rfl
  · subst he hd
    rw [ZoneRec.fromError_measured hl ht]
    refine ⟨fun h => ?_, fun h => ?_, fun h1 h2 => ?_⟩
    · rw [if_pos h, stepsBeyond (by omega)]
    · rw [if_neg (by omega), if_pos h, stepsBeyond (by omega)]
    · rw [if_neg (by omega), if_neg (by omega)]
  · subst hr hf
    have e := ZoneRec.rawDemand_rule hc hg
    have d := State.demand_eq hc
    rw [e] at d
    refine ⟨fun h1 h2 => ?_, fun h1 h2 => ?_, fun h1 h2 => ?_, State.demand_zero hc⟩
    · rw [d, if_pos (.inl ⟨h1, (s.cannotServe_iff _).2 h2⟩)]
    · rw [d, if_pos (.inr ⟨h1, (s.cannotServe_iff _).2 h2⟩)]
    · rw [d, if_neg]
      rintro (⟨h, k⟩ | ⟨h, k⟩)
      · exact (s.cannotServe_iff _).1 k (h1 h)
      · exact (s.cannotServe_iff _).1 k (h2 h)
  · have e : s.evaluate z = s.zoneTargets z := by
      by_cases h : s.op.state = .run ∧ (s.zone z).active = true
      · simp [State.evaluate, h, hc]
      · simp only [State.evaluate, State.zoneTargets, if_neg h]
    exact ⟨e, by rw [e]; exact State.zone_congr (NodeSide.zoneTargets s z).zones z⟩

end Sys2Proof.Machine
end

section
/-! The zone requests: their checks in order (O18), and SETPOINT and PLAN where they are taken (O19). -/
namespace Sys2Proof.Machine

/-! ## The checks, one lemma each (R172 to R174) -/

theorem sourceField_bad {b : Byte} (h : ¬ byteIn 1 3 b) : sourceField b = none := by
  have h1 : b ≠ 1#8 := by rintro rfl; simp at h
  have h2 : b ≠ 2#8 := by rintro rfl; simp at h
  have h3 : b ≠ 3#8 := by rintro rfl; simp at h
  simp [sourceField, h1, h2, h3]

theorem zoneOfNat_bad {k : Nat} (h : k = 0 ∨ 24 < k) : zoneOfNat k = none := by
  unfold zoneOfNat
  rw [dif_neg (by omega)]

theorem nodeOfNat_bad {k : Nat} (h : k = 0 ∨ 31 < k) : nodeOfNat k = none := by
  unfold nodeOfNat
  rw [dif_neg (by omega)]

theorem baseModeOfNat_code (m : BaseMode) : baseModeOfNat m.code = some m := by cases m <;> rfl

theorem baseModeOfNat_bad {k : Nat} (h : 4 < k) : baseModeOfNat k = none := by
  unfold baseModeOfNat
  rw [if_neg (by omega), if_neg (by omega), if_neg (by omega), if_neg (by omega), if_neg (by omega)]

/-- R174: what protects a zone against a source. -/
theorem Protection.bars_iff (p : Protection) (zone : Nat) (src : Source) : p.bars zone src = true ↔
    (∃ first last, p.range = some (first, last) ∧ first ≤ zone ∧ zone ≤ last) ∧
    ((p.level = .panelOnly ∧ src = .panel) ∨ (p.level = .panelAndDriver ∧ (src = .panel ∨ src = .driver))) := by
  have cover : p.level.covers src = true ↔
      (p.level = .panelOnly ∧ src = .panel) ∨ (p.level = .panelAndDriver ∧ (src = .panel ∨ src = .driver)) := by
    cases p.level <;> cases src <;> simp [ProtectLevel.covers]
  have range : p.inRange zone = true ↔ ∃ first last, p.range = some (first, last) ∧ first ≤ zone ∧ zone ≤ last := by
    unfold Protection.inRange
    cases p.range with
    | none => simp
    | some r =>
      simp only [Bool.and_eq_true, decide_eq_true_eq, Option.some.injEq]
      exact ⟨fun h => ⟨r.1, r.2, rfl, h⟩, fun ⟨a, b, e, h⟩ => by rw [e]; exact h⟩
  rw [Protection.bars, Bool.and_eq_true, range, cover]

theorem State.withSource_bad {s : State} {source : Byte} (zone : Byte) (f : Source → Taken) (h : ¬ byteIn 1 3 source) :
    s.withSource zone source f = badArgument s := by
  simp [State.withSource, withField, sourceField_bad h]

theorem State.withSource_barred {s : State} {zone source : Byte} {src : Source} (f : Source → Taken)
    (hs : source = src.code) (h : s.port.protection.bars zone.toNat src = true) :
    s.withSource zone source f = (s, refuseProtected) := by
  simp [State.withSource, withField, hs, sourceField_code, h]

theorem State.withSource_open {s : State} {zone source : Byte} {src : Source} (f : Source → Taken)
    (hs : source = src.code) (h : s.port.protection.bars zone.toNat src = false) :
    s.withSource zone source f = f src := by
  simp [State.withSource, withField, hs, sourceField_code, h]

theorem State.withZone_bad {s : State} {zone : Byte} (f : Zone → Taken) (h : ¬ byteIn 1 24 zone) :
    s.withZone zone f = badArgument s := by
  simp [State.withZone, withField, zoneOfNat_bad (k := zone.toNat) (by unfold byteIn at h; omega)]

theorem State.withZone_inactive {s : State} {zone : Byte} {z : Zone} (f : Zone → Taken) (hz : zone.toNat = z.number)
    (h : (s.zone z).active = false) : s.withZone zone f = (s, refuseNotActive) := by
  simp [State.withZone, withField, hz, zoneOfNat_number, h]

theorem State.withZone_active {s : State} {zone : Byte} {z : Zone} (f : Zone → Taken) (hz : zone.toNat = z.number)
    (h : (s.zone z).active = true) : s.withZone zone f = f z := by
  simp [State.withZone, withField, hz, zoneOfNat_number, h]

/-- R8: the panel band. -/
theorem State.setpointAllowed_iff (s : State) (z : Zone) (src : Source) (v : Int) :
    s.setpointAllowed z src v = true ↔
      (src = .panel → (s.zone z).planSetpoint - s.zones.tuning.panelBand ≤ v ∧
        v ≤ (s.zone z).planSetpoint + s.zones.tuning.panelBand) := by
  cases src <;> simp [State.setpointAllowed]

/-- The requests to a zone that are taken in RUN, which clear the range tag (R172, R176). -/
structure Kind.forZone (k : Kind) : Prop where
  clears : k.tagEffect = .clears
  run : k.takenIn = .runOnly

theorem Kind.forZone.includes {k : Kind} (h : k.forZone) {p : PartState} (hp : p = .run) :
    k.takenIn.includes p = true := by
  simp [h.run, TakenIn.includes, hp]

/-- R172 to R174, R5: how a request to a zone is turned away by its source, by protection, by the zone's number and by
the zone not being active, in this order, whatever its own fields say. -/
theorem State.zoneRequest_refusals {s : State} (k : Kind) (tag zone source : Byte) (p : List Byte)
    (g : Source → Zone → Taken) (hf : s.portFree) (hr : s.op.state = .run) (hk : k.forZone) (hl : p.length = k.length)
    (ho : s.untagged.ownerTakes k s.port.tag p =
      s.untagged.withSource zone source (fun src => s.untagged.withZone zone (g src))) :
    (¬ byteIn 1 3 source → ∃ t, s.answer (·.hostRequest k tag p) = .next t ∧
      t.repliesBadArgument (k.code + 0x80#8) tag ∧ OnlyAnswered s t) ∧
    (∀ src : Source, source = src.code →
      (s.port.protection.bars zone.toNat src = true → ∃ t, s.answer (·.hostRequest k tag p) = .next t ∧
        t.repliesRefused (k.code + 0x80#8) tag [2#8] ∧ OnlyAnswered s t) ∧
      (s.port.protection.bars zone.toNat src = false → ¬ byteIn 1 24 zone →
        ∃ t, s.answer (·.hostRequest k tag p) = .next t ∧ t.repliesBadArgument (k.code + 0x80#8) tag ∧
          OnlyAnswered s t) ∧
      (∀ z : Zone, zone.toNat = z.number → s.port.protection.bars zone.toNat src = false →
        (s.zone z).active = false → ∃ t, s.answer (·.hostRequest k tag p) = .next t ∧
          t.repliesRefused (k.code + 0x80#8) tag [5#8] ∧ OnlyAnswered s t)) := by
  have hs := hk.includes hr
  refine ⟨fun h => ?_, fun src hsrc => ⟨fun h => ?_, fun h hz => ?_, fun z hz h ha => ?_⟩⟩
  · exact State.clears_badArgument s k tag p hf hk.clears hs hl (ho.trans (State.withSource_bad zone _ h))
  · exact State.clears_refused s k tag p _ hf hk.clears hs hl (ho.trans (State.withSource_barred _ hsrc h))
  · exact State.clears_badArgument s k tag p hf hk.clears hs hl
      (ho.trans ((State.withSource_open (s := s.untagged) _ hsrc h).trans (State.withZone_bad _ hz)))
  · exact State.clears_refused s k tag p _ hf hk.clears hs hl
      (ho.trans ((State.withSource_open (s := s.untagged) _ hsrc h).trans
        (State.withZone_inactive (s := s.untagged) _ hz ha)))

/-- R172: a request to a zone that passes its first four checks goes on to its own fields. -/
theorem State.zoneRequest_open {s : State} {k : Kind} {zone source : Byte} {p : List Byte} {src : Source} {z : Zone}
    {g : Source → Zone → Taken}
    (ho : s.untagged.ownerTakes k s.port.tag p =
      s.untagged.withSource zone source (fun src => s.untagged.withZone zone (g src)))
    (hs : source = src.code) (hz : zone.toNat = z.number) (h : s.zoneOpen z src) :
    s.untagged.ownerTakes k s.port.tag p = g src z := by
  obtain ⟨_, _, ha, hb⟩ := h
  rw [ho, State.withSource_open (s := s.untagged) _ hs (hz ▸ hb), State.withZone_active (s := s.untagged) _ hz ha]

/-! ## The owners' part of each request -/

/-- R8. -/
def State.setpointAt (s : State) (v : Word) (src : Source) (z : Zone) : Taken :=
  withField s (setpointField v) fun v =>
  if s.setpointAllowed z src v then accept (s.changeSetpointBy z src v) else badArgument s

/-- R9. -/
def State.planAt (s : State) (mode : Byte) (v : Word) (src : Source) (z : Zone) : Taken :=
  withField s (baseModeOfNat mode.toNat) fun m =>
  withField s (setpointField v) fun v =>
  if s.setpointAllowed z src v then accept (s.changePlan z m (s.setpointChange src v)) else badArgument s

/-- R43. -/
def State.defogAt (s : State) (d : Byte) (_ : Source) (z : Zone) : Taken :=
  withField s (rangeByte 0 30 d) fun d => accept (if d = 0 then s.endOverride z .defog else s.defogFor z d)

/-- R39. -/
def State.purgeAt (s : State) (action : Byte) (_ : Source) (z : Zone) : Taken :=
  if action = 1#8 then accept (s.startOverride z .purge (some .host))
  else if action = 2#8 then accept (s.endOverride z .purge)
  else badArgument s

theorem State.setpoint_owner (s : State) (found : RangeTag) (zone source : Byte) (v : Word) :
    s.ownerTakes .setpoint found ([zone, source] ++ wordBytes v) =
      s.withSource zone source (fun src => s.withZone zone (s.setpointAt v src)) := by
  simp only [wordBytes, List.cons_append, List.nil_append, State.ownerTakes, joinBytes_split]
  rfl

theorem State.plan_owner (s : State) (found : RangeTag) (zone source mode : Byte) (v : Word) :
    s.ownerTakes .plan found ([zone, source, mode] ++ wordBytes v) =
      s.withSource zone source (fun src => s.withZone zone (s.planAt mode v src)) := by
  simp only [wordBytes, List.cons_append, List.nil_append, State.ownerTakes, joinBytes_split]
  rfl

theorem State.defog_owner (s : State) (found : RangeTag) (zone source d : Byte) :
    s.ownerTakes .defog found [zone, source, d] =
      s.withSource zone source (fun src => s.withZone zone (s.defogAt d src)) := rfl

theorem State.purge_owner (s : State) (found : RangeTag) (zone source action : Byte) :
    s.ownerTakes .purge found [zone, source, action] =
      s.withSource zone source (fun src => s.withZone zone (s.purgeAt action src)) := rfl

theorem State.setpointAt_bad {s : State} {z : Zone} {src : Source} {v : Word} (h : ¬ s.setpointTaken z src v) :
    s.setpointAt v src z = badArgument s := by
  unfold State.setpointAt
  by_cases hv : setpointIn v
  · have hn : s.setpointAllowed z src v.toInt = false := by
      rw [Bool.eq_false_iff, Ne, State.setpointAllowed_iff]
      exact fun ha => h ⟨hv, ha⟩
    simp [setpointField_ok hv, withField, hn]
  · simp [setpointField_bad hv, withField]

theorem State.setpointAt_taken {s : State} {z : Zone} {src : Source} {v : Word} (h : s.setpointTaken z src v) :
    s.setpointAt v src z = accept (s.changeSetpointBy z src v.toInt) := by
  simp [State.setpointAt, setpointField_ok h.1, withField, (s.setpointAllowed_iff z src v.toInt).2 h.2]

theorem State.planAt_bad {s : State} {z : Zone} {src : Source} {mode : Byte} {v : Word}
    (h : ¬ byteIn 0 4 mode ∨ ¬ s.setpointTaken z src v) : s.planAt mode v src z = badArgument s := by
  unfold State.planAt
  cases hm : baseModeOfNat mode.toNat with
  | none => rfl
  | some m =>
    have hv : ¬ s.setpointTaken z src v := h.resolve_left fun hb => by
      rw [baseModeOfNat_bad (by unfold byteIn at hb; omega)] at hm
      simp at hm
    have e := State.setpointAt_bad hv
    unfold State.setpointAt at e
    cases hf : setpointField v with
    | none => rfl
    | some x =>
      have hn : s.setpointAllowed z src x = false := by
        rw [Bool.eq_false_iff]
        intro ha
        unfold setpointField at hf
        split at hf
        · simp only [Option.some.injEq] at hf
          subst hf
          exact hv ⟨‹_›, (s.setpointAllowed_iff z src _).1 ha⟩
        · simp at hf
      simp [withField, hn]

theorem State.planAt_taken {s : State} {z : Zone} {src : Source} {mode : Byte} {v : Word} {m : BaseMode}
    (hm : mode.toNat = m.code) (h : s.setpointTaken z src v) :
    s.planAt mode v src z = accept (s.changePlan z m (s.setpointChange src v.toInt)) := by
  simp [State.planAt, hm, baseModeOfNat_code, setpointField_ok h.1, withField,
    (s.setpointAllowed_iff z src v.toInt).2 h.2]

theorem State.defogAt_bad {s : State} {z : Zone} {src : Source} {d : Byte} (h : ¬ byteIn 0 30 d) :
    s.defogAt d src z = badArgument s := by
  simp [State.defogAt, rangeByte_bad h, withField]

theorem Kind.forZone_setpoint : Kind.setpoint.forZone := ⟨rfl, rfl⟩
theorem Kind.forZone_plan : Kind.plan.forZone := ⟨rfl, rfl⟩
theorem Kind.forZone_defog : Kind.defog.forZone := ⟨rfl, rfl⟩
theorem Kind.forZone_purge : Kind.purge.forZone := ⟨rfl, rfl⟩

/-- Settles O18: the four checks that the zone requests share, then the fields of SETPOINT, PLAN and DEFOG. -/
theorem zoneRequestRefusals : Obligations.ZoneRequestRefusals := by
  refine ⟨Protection.bars_iff, fun s tag zone source mode d v hf hr => ⟨fun p hp => ?_, fun src z hs hz ho => ?_⟩⟩
  · simp only [List.mem_cons, List.not_mem_nil, or_false] at hp
    rcases hp with rfl | rfl | rfl | rfl | rfl
    · exact State.zoneRequest_refusals .plan tag zone source _ _ hf hr Kind.forZone_plan rfl
        (State.plan_owner _ _ _ _ _ _)
    · exact State.zoneRequest_refusals .setpoint tag zone source _ _ hf hr Kind.forZone_setpoint rfl
        (State.setpoint_owner _ _ _ _ _)
    · exact State.zoneRequest_refusals .defog tag zone source _ _ hf hr Kind.forZone_defog rfl
        (State.defog_owner _ _ _ _ _)
    · exact State.zoneRequest_refusals .purge tag zone source _ _ hf hr Kind.forZone_purge rfl
        (State.purge_owner _ _ _ _ _)
    · exact State.zoneRequest_refusals .purge tag zone source _ _ hf hr Kind.forZone_purge rfl
        (State.purge_owner _ _ _ _ _)
  · refine ⟨fun h => ?_, fun h => ?_, fun h => ?_⟩
    · exact State.clears_badArgument s .setpoint tag _ hf rfl (Kind.forZone_setpoint.includes hr) rfl
        ((State.zoneRequest_open (State.setpoint_owner _ _ _ _ _) hs hz ho).trans
          (State.setpointAt_bad (s := s.untagged) h))
    · exact State.clears_badArgument s .plan tag _ hf rfl (Kind.forZone_plan.includes hr) rfl
        ((State.zoneRequest_open (State.plan_owner _ _ _ _ _ _) hs hz ho).trans
          (State.planAt_bad (s := s.untagged) h))
    · exact State.clears_badArgument s .defog tag _ hf rfl (Kind.forZone_defog.includes hr) rfl
        ((State.zoneRequest_open (State.defog_owner _ _ _ _ _) hs hz ho).trans (State.defogAt_bad h))

/-! ## SETPOINT and PLAN where they are taken (R7 to R9) -/

/-- R8: a source's setpoint change, by the source. -/
theorem State.setpointChange_eq (s : State) (src : Source) (v : Int) (r : ZoneRec) :
    s.setpointChange src v r =
      if src = .panel then
        { r with tempSetpoint := some v, holdTimer := some (s.now + s.zones.tuning.holdTime * Config.minute) }
      else { r with planSetpoint := v, tempSetpoint := none, holdTimer := none } := by
  cases src <;> rfl

theorem State.setpointChange_setpoint (s : State) (src : Source) (v : Int) (r : ZoneRec) :
    (s.setpointChange src v r).setpoint = v := by
  cases src <;> rfl

theorem State.setpointChange_active (s : State) (src : Source) (v : Int) (r : ZoneRec) :
    (s.setpointChange src v r).active = r.active := by
  cases src <;> rfl

theorem State.setpointChange_baseMode (s : State) (src : Source) (v : Int) (r : ZoneRec) :
    (s.setpointChange src v r).baseMode = r.baseMode := by
  cases src <;> rfl

theorem State.changeSetpointBy_rewritten {s : State} {z : Zone} (src : Source) (v : Int) (h1 : s.op.state = .run)
    (h2 : (s.zone z).active = true) :
    Rewritten s z (s.setpointChange src v (s.zone z)) ((s.zone z).setpoint ≠ v) (s.changeSetpointBy z src v) := by
  have h := State.changeSetpoint_rewritten (z := z) (s.setpointChange src v) h1 (by rw [State.setpointChange_active, h2])
  rwa [State.setpointChange_setpoint] at h

/-- R9: an active zone's record takes base mode and setpoints in RUN, and the zone is evaluated where S changes, or the
base mode outside CURTAIN. -/
theorem State.changePlan_rewritten {s : State} {z : Zone} (m : BaseMode) (f : ZoneRec → ZoneRec) (h1 : s.op.state = .run)
    (h2 : (f (s.zone z)).active = true) :
    Rewritten s z { f (s.zone z) with baseMode := m }
      ((s.zone z).setpoint ≠ (f (s.zone z)).setpoint ∨ ((s.zone z).baseMode ≠ m ∧ (s.zone z).effMode ≠ .curtain))
      (s.changePlan z m f) := by
  constructor
  · intro h
    exact if_neg h
  · intro h
    have e : s.changePlan z m f = (s.setZone z { f (s.zone z) with baseMode := m }).evaluate z := if_pos h
    rw [e]
    exact State.evaluate_evaluated _ z h1 (by simpa using h2)

theorem Rewritten.port {s u : State} {z : Zone} {r : ZoneRec} {p : Prop} (h : Rewritten s z r p u) : u.port = s.port := by
  by_cases hp : p
  · exact (h.2 hp).side.port
  · rw [h.1 hp]; rfl

/-- A request to a zone whose owner accepts it with the state u. -/
theorem State.zoneRequest_accepted {s u : State} {k : Kind} (tag : Byte) {p : List Byte} (hf : s.portFree)
    (hr : s.op.state = .run) (hk : k.forZone) (hl : p.length = k.length)
    (ho : s.untagged.ownerTakes k s.port.tag p = accept u) (hu : u.port = s.untagged.port) :
    ∃ t, s.answer (·.hostRequest k tag p) = .next t ∧ t.repliesOk (k.code + 0x80#8) tag [] ∧ Replied s u t := by
  obtain ⟨t, he, hok, ht, hp⟩ := State.clears_accepted s u k tag p hf hk.clears (hk.includes hr) hl ho hu
  refine ⟨t, he, hok, ?_⟩
  rw [hp] at ht
  exact ht

/-- Settles O19: the record by the source, and the evaluation that S or the base mode brings. -/
theorem setpointAndPlan : Obligations.SetpointAndPlan := by
  refine ⟨fun s tag zone source v src z hs hz ho hv => ?_, fun s tag zone source mode v src z m hs hz ho hm hv => ?_⟩
  · have hw := State.changeSetpointBy_rewritten (s := s.untagged) (z := z) src v.toInt ho.2.1 ho.2.2.1
    obtain ⟨t, he, hok, hrep⟩ := State.zoneRequest_accepted tag ho.1 ho.2.1 Kind.forZone_setpoint rfl
      ((State.zoneRequest_open (State.setpoint_owner _ _ zone source v) hs hz ho).trans
        (State.setpointAt_taken (s := s.untagged) hv)) hw.port
    refine ⟨t, _, he, hok, hrep, ?_⟩
    rw [State.setpointChange_eq] at hw
    exact hw
  · have hw := State.changePlan_rewritten (s := s.untagged) (z := z) m (s.untagged.setpointChange src v.toInt) ho.2.1
      (by rw [State.setpointChange_active]; exact ho.2.2.1)
    obtain ⟨t, he, hok, hrep⟩ := State.zoneRequest_accepted tag ho.1 ho.2.1 Kind.forZone_plan rfl
      ((State.zoneRequest_open (State.plan_owner _ _ zone source mode v) hs hz ho).trans
        (State.planAt_taken (s := s.untagged) hm hv)) hw.port
    refine ⟨t, _, he, hok, hrep, ?_⟩
    rw [State.setpointChange_setpoint] at hw
    cases src <;> exact hw

end Sys2Proof.Machine
end

section
/-! A record written for each zone or node in turn; COND_CLEAR and COND_MASK (O30); ZONE_DEF (O11). -/
namespace Sys2Proof.Machine

/-! ## Each zone, each node -/

theorem allZones_nodup : allZones.Nodup := List.nodup_finRange 24
theorem mem_allZones (z : Zone) : z ∈ allZones := List.mem_finRange z
theorem allNodes_nodup : allNodes.Nodup := List.nodup_finRange 31
theorem mem_allNodes (n : NodeId) : n ∈ allNodes := List.mem_finRange n

/-- Only the zone table differs. -/
def OnlyZones (s t : State) : Prop := t = { s with zones := { s.zones with table := t.zones.table } }
/-- Only the node table differs. -/
def OnlyNodes (s t : State) : Prop := t = { s with nodes := { s.nodes with table := t.nodes.table } }

theorem OnlyZones.setZone {s t : State} (h : OnlyZones s t) (z : Zone) (r : ZoneRec) : OnlyZones s (t.setZone z r) := by
  unfold OnlyZones at h ⊢
  rw [h]
  rfl

theorem OnlyNodes.setNode {s t : State} (h : OnlyNodes s t) (n : NodeId) (r : NodeRec) :
    OnlyNodes s (t.setNode n r) := by
  unfold OnlyNodes at h ⊢
  rw [h]
  rfl

/-- A walk over different zones that writes each record from the state before the walk. -/
theorem foldl_zones {s : State} {f : State → Zone → State} {F : Zone → ZoneRec}
    (h : ∀ t z, OnlyZones s t → t.zone z = s.zone z → f t z = t.setZone z (F z)) (l : List Zone) (hl : l.Nodup) :
    ∀ t, OnlyZones s t → (∀ z ∈ l, t.zone z = s.zone z) →
      OnlyZones s (l.foldl f t) ∧ ∀ z, (l.foldl f t).zone z = if z ∈ l then F z else t.zone z := by
  induction l with
  | nil => exact fun t ht _ => ⟨ht, fun z => by simp⟩
  | cons y l ih =>
    intro t ht hz
    obtain ⟨hy, hl⟩ := List.nodup_cons.1 hl
    have e := h t y ht (hz y (by simp))
    have hz' : ∀ z ∈ l, (f t y).zone z = s.zone z := fun z hm => by
      have hne : z ≠ y := fun x => hy (x ▸ hm)
      rw [e, State.zone_setZone, if_neg hne]
      exact hz z (List.mem_cons_of_mem _ hm)
    obtain ⟨h1, h2⟩ := ih hl (f t y) (e ▸ ht.setZone y _) hz'
    refine ⟨h1, fun z => ?_⟩
    rw [List.foldl_cons, h2 z, e, State.zone_setZone]
    by_cases hm : z ∈ l
    · simp [hm]
    · by_cases hzy : z = y <;> simp [hm, hzy]

/-- A walk over different nodes that writes each record from the state before the walk. -/
theorem foldl_nodes {s : State} {f : State → NodeId → State} {F : NodeId → NodeRec}
    (h : ∀ t n, OnlyNodes s t → t.node n = s.node n → f t n = t.setNode n (F n)) (l : List NodeId) (hl : l.Nodup) :
    ∀ t, OnlyNodes s t → (∀ n ∈ l, t.node n = s.node n) →
      OnlyNodes s (l.foldl f t) ∧ ∀ n, (l.foldl f t).node n = if n ∈ l then F n else t.node n := by
  induction l with
  | nil => exact fun t ht _ => ⟨ht, fun z => by simp⟩
  | cons y l ih =>
    intro t ht hz
    obtain ⟨hy, hl⟩ := List.nodup_cons.1 hl
    have e := h t y ht (hz y (by simp))
    have hz' : ∀ z ∈ l, (f t y).node z = s.node z := fun z hm => by
      have hne : z ≠ y := fun x => hy (x ▸ hm)
      rw [e, State.node_setNode, if_neg hne]
      exact hz z (List.mem_cons_of_mem _ hm)
    obtain ⟨h1, h2⟩ := ih hl (f t y) (e ▸ ht.setNode y _) hz'
    refine ⟨h1, fun z => ?_⟩
    rw [List.foldl_cons, h2 z, e, State.node_setNode]
    by_cases hm : z ∈ l
    · simp [hm]
    · by_cases hzy : z = y <;> simp [hm, hzy]

theorem State.eachZone_written {s : State} {f : State → Zone → State} {F : Zone → ZoneRec}
    (h : ∀ t z, OnlyZones s t → t.zone z = s.zone z → f t z = t.setZone z (F z)) :
    OnlyZones s (s.eachZone f) ∧ ∀ z, (s.eachZone f).zone z = F z := by
  obtain ⟨h1, h2⟩ := foldl_zones h allZones allZones_nodup s rfl (fun _ _ => rfl)
  exact ⟨h1, fun z => (h2 z).trans (if_pos (mem_allZones z))⟩

theorem State.eachNode_written {s : State} {f : State → NodeId → State} {F : NodeId → NodeRec}
    (h : ∀ t n, OnlyNodes s t → t.node n = s.node n → f t n = t.setNode n (F n)) :
    OnlyNodes s (s.eachNode f) ∧ ∀ n, (s.eachNode f).node n = F n := by
  obtain ⟨h1, h2⟩ := foldl_nodes h allNodes allNodes_nodup s rfl (fun _ _ => rfl)
  exact ⟨h1, fun n => (h2 n).trans (if_pos (mem_allNodes n))⟩

/-! ## COND_CLEAR and COND_MASK (R181, R182) -/

theorem condSetField_ok {w : Word} (h : w.toNat < 4096) : condSetField w = some (w.truncate 12) := by
  have e : w.extractLsb' 12 4 = 0#4 := by
    apply BitVec.eq_of_toNat_eq
    rw [BitVec.extractLsb'_toNat, Nat.shiftRight_eq_div_pow, Nat.div_eq_of_lt h]
    rfl
  rw [condSetField, if_pos e]
  congr 1

theorem condSetField_bad {w : Word} (h : 4096 ≤ w.toNat) : condSetField w = none := by
  rw [condSetField, if_neg]
  intro e
  have e := congrArg BitVec.toNat e
  rw [BitVec.extractLsb'_toNat, Nat.shiftRight_eq_div_pow] at e
  have := w.isLt
  simp at e
  omega

theorem flagField_ok {e : Byte} (h : byteIn 0 1 e) : flagField e = some (decide (e = 1#8)) := by
  have : e = 0#8 ∨ e = 1#8 := by
    obtain ⟨_, h⟩ := h
    rcases Nat.le_one_iff_eq_zero_or_eq_one.1 h with h | h
    · exact .inl (BitVec.eq_of_toNat_eq h)
    · exact .inr (BitVec.eq_of_toNat_eq h)
  rcases this with rfl | rfl <;> rfl

theorem flagField_bad {e : Byte} (h : ¬ byteIn 0 1 e) : flagField e = none := by
  have h0 : e ≠ 0#8 := by rintro rfl; simp at h
  have h1 : e ≠ 1#8 := by rintro rfl; simp at h
  simp [flagField, h0, h1]

theorem State.condMask_owner (s : State) (found : RangeTag) (set : Word) (e : Byte) :
    s.ownerTakes .condMask found (wordBytes set ++ [e]) = s.takeCondMask set e := by
  simp only [wordBytes, List.cons_append, List.nil_append, State.ownerTakes, joinBytes_split]

theorem State.condClear_owner (s : State) (found : RangeTag) (set : Word) :
    s.ownerTakes .condClear found (wordBytes set) = s.takeCondClear set := by
  simp only [wordBytes, State.ownerTakes, joinBytes_split]

theorem CondBlock.sticky_setSticky (c : CondBlock) (i j : StickyCond) (r : Sticky) :
    (c.setSticky i r).sticky j = if j = i then r else c.sticky j := by
  cases i <;> cases j <;> rfl

/-- What clears of sticky conditions leave as it was. -/
structure StickyOnly (c d : CondBlock) : Prop where
  auxLockout : d.auxLockout = c.auxLockout
  shedActive : d.shedActive = c.shedActive
  stopped : d.stopped = c.stopped
  mask : d.mask = c.mask
  enable : d.enable = c.enable

theorem StickyOnly.setSticky {c d : CondBlock} (h : StickyOnly c d) (i : StickyCond) (r : Sticky) :
    StickyOnly c (d.setSticky i r) := by
  cases i <;> exact ⟨h.auxLockout, h.shedActive, h.stopped, h.mask, h.enable⟩

/-- R181: a walk over different sticky conditions clears those named. -/
theorem foldl_clears (set : BitVec 12) (l : List (Nat × StickyCond)) (hl : (l.map Prod.snd).Nodup) :
    ∀ c : CondBlock,
      StickyOnly c (l.foldl (fun c p => if set.getLsbD p.1 then c.setSticky p.2 .clear else c) c) ∧
      (∀ p ∈ l, (l.foldl (fun c p => if set.getLsbD p.1 then c.setSticky p.2 .clear else c) c).sticky p.2 =
        if set.getLsbD p.1 then ⟨false, 0, none⟩ else c.sticky p.2) ∧
      (∀ i, i ∉ l.map Prod.snd →
        (l.foldl (fun c p => if set.getLsbD p.1 then c.setSticky p.2 .clear else c) c).sticky i = c.sticky i) := by
  induction l with
  | nil => exact fun c => ⟨⟨rfl, rfl, rfl, rfl, rfl⟩, by simp, by simp⟩
  | cons p l ih =>
    intro c
    obtain ⟨hp, hl⟩ := List.nodup_cons.1 hl
    obtain ⟨h1, h2, h3⟩ := ih hl (if set.getLsbD p.1 then c.setSticky p.2 .clear else c)
    have other : ∀ i, i ≠ p.2 → (if set.getLsbD p.1 then c.setSticky p.2 .clear else c).sticky i = c.sticky i := by
      intro i hi
      split
      · rw [CondBlock.sticky_setSticky, if_neg hi]
      · rfl
    refine ⟨?_, fun q hq => ?_, fun i hi => ?_⟩
    · have h0 : StickyOnly c (if set.getLsbD p.1 then c.setSticky p.2 .clear else c) := by
        split
        · exact StickyOnly.setSticky ⟨rfl, rfl, rfl, rfl, rfl⟩ _ _
        · exact ⟨rfl, rfl, rfl, rfl, rfl⟩
      exact ⟨h1.auxLockout.trans h0.auxLockout, h1.shedActive.trans h0.shedActive, h1.stopped.trans h0.stopped,
        h1.mask.trans h0.mask, h1.enable.trans h0.enable⟩
    · rcases List.mem_cons.1 hq with rfl | hq
      · rw [List.foldl_cons, h3 _ hp]
        split
        · rw [CondBlock.sticky_setSticky, if_pos rfl]; rfl
        · rfl
      · have hne : q.2 ≠ p.2 := fun e => hp (e ▸ List.mem_map_of_mem hq)
        rw [List.foldl_cons, h2 q hq, other _ hne]
    · simp only [List.map_cons, List.mem_cons, not_or] at hi
      rw [List.foldl_cons, h3 i hi.2, other i hi.1]

theorem CondBlock.clearNamed_spec (c : CondBlock) (set : BitVec 12) :
    StickyOnly c (c.clearNamed set) ∧
    ∀ p ∈ stickyPlaces, (c.clearNamed set).sticky p.2 =
      if set.getLsbD p.1 then ⟨false, 0, none⟩ else c.sticky p.2 := by
  obtain ⟨h1, h2, _⟩ := foldl_clears set stickyPlaces (by decide) c
  exact ⟨h1, h2⟩

/-- R181: the flags of every zone after a clear; nothing else of the zones changes. -/
theorem State.clearZoneFlags_written (s : State) (set : BitVec 12) :
    OnlyZones s (s.clearZoneFlags set) ∧
    ∀ z, (s.clearZoneFlags set).zone z =
      { s.zone z with flags := (s.zone z).flags.clearNamed set (s.actuatorsSound z) } := by
  refine State.eachZone_written fun t z ht hz => ?_
  have hn : ∀ n, t.node n = s.node n := fun n => by rw [ht]; rfl
  have e : t.actuatorsSound z = s.actuatorsSound z := by
    simp only [State.actuatorsSound, hz, hn]
  rw [State.modZone, hz, e]

/-- ATTENTION of the STATUS byte (R171). -/
theorem statusByte_attention (a b c : Bool) (ans : Answer) : (statusByte a b c ans).getLsbD 7 = c := by
  cases ans <;> cases a <;> cases b <;> cases c <;> simp [statusByte]

theorem State.reply_attention (s : State) (kind tag : Byte) (c : Bool) (a : Answer) :
    (s.reply kind tag c a).replyFlag 7 = s.attnDriven := statusByte_attention _ _ _ a

/-- The places of the sticky conditions lie within the set. -/
theorem getLsbD_truncate (w : Word) {i : Nat} (h : i < 12) : (w.truncate 12).getLsbD i = w.getLsbD i := by
  simp [h]

/-- Settles O30: the field checks, COND_MASK's write, and COND_CLEAR condition by condition and zone by zone. -/
theorem conditionRequests : Obligations.ConditionRequests := by
  intro s tag set hf
  refine ⟨fun e he => ?_, fun e hs he => ?_, fun hs => ?_, fun hs => ?_⟩
  · refine State.clears_badArgument s .condMask tag _ hf rfl rfl rfl ((State.condMask_owner _ _ set e).trans ?_)
    by_cases h : set.toNat < 4096
    · simp [State.takeCondMask, condSetField_ok h, withField, flagField_bad (fun x => he ⟨h, x⟩)]
    · simp [State.takeCondMask, condSetField_bad (Nat.not_lt.1 h), withField]
  · have ho : (s.setTag .none).ownerTakes .condMask s.port.tag (wordBytes set ++ [e]) =
        accept (s.untagged.setCond { s.cond with mask := set.truncate 12, enable := decide (e = 1#8) }) := by
      rw [State.condMask_owner, State.takeCondMask, condSetField_ok hs, flagField_ok he]
      rfl
    have hx := State.answer_clears s .condMask tag (wordBytes set ++ [e]) hf rfl rfl rfl
    rw [ho] at hx
    exact ⟨_, hx, State.reply_repliesOk _ _ _ _ _, State.reply_attention _ _ _ _ _, rfl⟩
  · refine State.clears_badArgument s .condClear tag _ hf rfl rfl rfl ((State.condClear_owner _ _ set).trans ?_)
    simp [State.takeCondClear, condSetField_bad hs, withField]
  · obtain ⟨hc, hst⟩ := CondBlock.clearNamed_spec s.cond (set.truncate 12)
    obtain ⟨hz, hzz⟩ := State.clearZoneFlags_written (s.untagged.setCond (s.cond.clearNamed (set.truncate 12)))
      (set.truncate 12)
    have ho : (s.setTag .none).ownerTakes .condClear s.port.tag (wordBytes set) =
        ((s.untagged.setCond (s.cond.clearNamed (set.truncate 12))).clearZoneFlags (set.truncate 12),
          .ok (condSetBytes ((s.untagged.setCond (s.cond.clearNamed (set.truncate 12))).clearZoneFlags
            (set.truncate 12)).cond.pendingSet)) := by
      rw [State.condClear_owner, State.takeCondClear, condSetField_ok hs]
      rfl
    generalize hv : (s.untagged.setCond (s.cond.clearNamed (set.truncate 12))).clearZoneFlags (set.truncate 12) = v
      at hz hzz ho
    have hx := State.answer_clears s .condClear tag (wordBytes set) hf rfl rfl rfl
    rw [ho] at hx
    have hvc : v.cond = s.cond.clearNamed (set.truncate 12) := by rw [hz]; rfl
    refine ⟨_, hx, State.reply_repliesOk _ _ _ _ _, fun p hp => ?_, ?_, ?_, ?_, ?_, ?_, fun z => ?_, ?_⟩
    · have hlt : p.1 < 12 := by revert p; decide
      have h := hst p hp
      rw [getLsbD_truncate set hlt] at h
      exact (congrArg (fun c => CondBlock.sticky c p.2) hvc).trans h
    · exact (congrArg CondBlock.auxLockout hvc).trans hc.auxLockout
    · exact (congrArg CondBlock.shedActive hvc).trans hc.shedActive
    · exact (congrArg CondBlock.stopped hvc).trans hc.stopped
    · exact (congrArg CondBlock.mask hvc).trans hc.mask
    · exact (congrArg CondBlock.enable hvc).trans hc.enable
    · refine (hzz z).trans ?_
      simp only [ZoneFlags.clearNamed, getLsbD_truncate set (by decide : 1 < 12), getLsbD_truncate set (by decide : 2 < 12),
        getLsbD_truncate set (by decide : 4 < 12), getLsbD_truncate set (by decide : 6 < 12),
        getLsbD_truncate set (by decide : 7 < 12)]
      rfl
    · have hv' : v = { s.untagged with zones := { s.zones with table := v.zones.table }, cond := v.cond } := by
        rw [hvc]; exact hz
      have hp := State.reply_answered s v (Kind.condClear.code + 0x80#8) tag (decide (s.port.tag ≠ .none))
        (.ok (condSetBytes v.cond.pendingSet)) (congrArg State.port hv')
      refine (State.reply_eq v _ _ _ _).trans ?_
      rw [hp]
      exact congrArg (fun x => State.setPort x _) hv'

end Sys2Proof.Machine
end

section
/-! ZONE_DEF (O11). -/
namespace Sys2Proof.Machine

/-- R127: a node's record without a binding to the zone. -/
def NodeRec.unboundFrom (r : NodeRec) (z : Zone) : NodeRec :=
  match r.binding with
  | some (.zone y _) => if y = z then { r with binding := none } else r
  | some (.plant _) => r
  | none => r

theorem State.unbindZone_written (s : State) (z : Zone) :
    OnlyNodes s (s.unbindZone z) ∧ ∀ n, (s.unbindZone z).node n = (s.node n).unboundFrom z := by
  refine State.eachNode_written fun t n _ hn => ?_
  have self : t.setNode n (s.node n) = t := by rw [← hn, State.setNode_self]
  rw [hn]
  unfold NodeRec.unboundFrom
  cases hb : (s.node n).binding with
  | none => exact self.symm
  | some b =>
    cases b with
    | plant role => exact self.symm
    | zone y role =>
      dsimp only
      split
      · rw [State.modNode, hn]
      · exact self.symm

theorem NodeRec.unboundFrom_eq (r : NodeRec) (z : Zone) :
    r.unboundFrom z = { r with binding := (r.unboundFrom z).binding } := by
  unfold NodeRec.unboundFrom
  split
  · split <;> rfl
  · rfl
  · rfl

theorem NodeRec.unboundFrom_bound {r : NodeRec} {z : Zone} {role : ZoneRole} (h : r.binding = some (.zone z role)) :
    (r.unboundFrom z).binding = none := by
  simp [NodeRec.unboundFrom, h]

theorem NodeRec.unboundFrom_other {r : NodeRec} {z : Zone} (h : ∀ role, r.binding ≠ some (.zone z role)) :
    (r.unboundFrom z).binding = r.binding := by
  unfold NodeRec.unboundFrom
  split
  · rename_i y role hb
    rw [if_neg (fun e => h role (by rw [hb, e]))]
  · rfl
  · rfl

/-- R4, R5, R127, R154: what an accepted ZONE_DEF leaves. -/
def State.zoneRedefined (s : State) (z : Zone) (r : ZoneRec) : State := ((s.setZone z r).unbindZone z).configChange

theorem State.zoneRedefined_eq (s : State) (z : Zone) (r : ZoneRec) :
    s.zoneRedefined z r =
      { s with
        zones := { s.zones with table := (s.zoneRedefined z r).zones.table }
        nodes := { s.nodes with table := (s.zoneRedefined z r).nodes.table }
        op := { s.op with configChanged := true } } := by
  have h := (State.unbindZone_written (s.setZone z r) z).1
  unfold State.zoneRedefined
  generalize (s.setZone z r).unbindZone z = v at h ⊢
  have hz : v.configChange.zones.table = (s.setZone z r).zones.table := by rw [h]; rfl
  rw [hz]
  exact congrArg State.configChange h

@[simp] theorem State.configChange_zone (s : State) (z : Zone) : s.configChange.zone z = s.zone z := rfl
@[simp] theorem State.configChange_node (s : State) (n : NodeId) : s.configChange.node n = s.node n := rfl
@[simp] theorem State.setPort_zone (s : State) (p : Port) (z : Zone) : (s.setPort p).zone z = s.zone z := rfl
@[simp] theorem State.setPort_node (s : State) (p : Port) (n : NodeId) : (s.setPort p).node n = s.node n := rfl

theorem OnlyNodes.zone {s t : State} (h : OnlyNodes s t) (z : Zone) : t.zone z = s.zone z := by rw [h]; rfl

theorem State.zoneRedefined_zone (s : State) (z y : Zone) (r : ZoneRec) :
    (s.zoneRedefined z r).zone y = if y = z then r else s.zone y := by
  rw [State.zoneRedefined, State.configChange_zone, (State.unbindZone_written (s.setZone z r) z).1.zone,
    State.zone_setZone]

theorem State.zoneRedefined_node (s : State) (z : Zone) (n : NodeId) (r : ZoneRec) :
    (s.zoneRedefined z r).node n = (s.node n).unboundFrom z := by
  rw [State.zoneRedefined, State.configChange_node, (State.unbindZone_written (s.setZone z r) z).2]
  rfl

/-- The answer to an accepted ZONE_DEF. -/
theorem State.zoneDef_accepted {s : State} (tag : Byte) {p : List Byte} {z : Zone} {r : ZoneRec} (hf : s.portFree)
    (hc : s.takesConfiguration) (hl : p.length = 13)
    (ho : s.untagged.ownerTakes .zoneDef s.port.tag p = accept (s.untagged.zoneRedefined z r)) :
    ∃ t, s.answer (·.hostRequest .zoneDef tag p) = .next t ∧ t.repliesOk 0x81#8 tag [] ∧ t.zone z = r ∧
      redefined s t z := by
  have e := State.zoneRedefined_eq s.untagged z r
  obtain ⟨t, he, hok, ht, hp⟩ := State.clears_accepted s (s.untagged.zoneRedefined z r) .zoneDef tag p hf rfl
    (State.takesConfiguration_includes .zoneDef hc rfl) hl ho (by rw [e]; rfl)
  have hz : ∀ y, t.zone y = if y = z then r else s.zone y := fun y => by
    rw [ht, State.setPort_zone]; exact State.zoneRedefined_zone s.untagged z y r
  have hn : ∀ n, t.node n = (s.node n).unboundFrom z := fun n => by
    rw [ht, State.setPort_node, State.zoneRedefined_node]; rfl
  refine ⟨t, he, hok, by rw [hz, if_pos rfl], fun y hy => by rw [hz, if_neg hy], fun n => ?_, fun n role h => ?_,
    fun n h => ?_, ?_⟩
  · rw [hn]; exact NodeRec.unboundFrom_eq _ z
  · rw [hn]; exact NodeRec.unboundFrom_bound h
  · rw [hn]; exact NodeRec.unboundFrom_other h
  · generalize s.untagged.zoneRedefined z r = v at e ht
    have hzt : t.zones.table = v.zones.table := congrArg (fun x => x.zones.table) ht
    have hnt : t.nodes.table = v.nodes.table := congrArg (fun x => x.nodes.table) ht
    rw [hzt, hnt, ← hp]
    exact ht.trans (congrArg (State.setPort · t.port) e)

/-! ## The fields of ZONE_DEF (R4) -/

theorem baseModeOfNat_ok {k : Nat} (h : k ≤ 4) : ∃ m, baseModeOfNat k = some m ∧ m.code = k := by
  obtain ⟨m, rfl⟩ : ∃ m : BaseMode, m.code = k := by
    match k, h with
    | 0, _ => exact ⟨.off, rfl⟩
    | 1, _ => exact ⟨.auto, rfl⟩
    | 2, _ => exact ⟨.heatOnly, rfl⟩
    | 3, _ => exact ⟨.coolOnly, rfl⟩
    | 4, _ => exact ⟨.vent, rfl⟩
  exact ⟨m, baseModeOfNat_code m, rfl⟩

theorem nodeOfNat_ok {b : Byte} (h : byteIn 1 31 b) : ∃ n, nodeOfNat b.toNat = some n ∧ namesNode b (some n) := by
  refine ⟨⟨b.toNat - 1, by have := h.2; omega⟩, by simp [nodeOfNat, h.1, h.2], ?_⟩
  have := h.1
  simp [namesNode, NodeId.address]; omega

theorem withField_none {α : Type} {s : State} {v : Option α} (f : α → Taken) (h : v = none) :
    withField s v f = badArgument s := by
  rw [h]; rfl

/-- A field that is in range or whose request is answered BAD_ARGUMENT further on gives BAD_ARGUMENT. -/
theorem withField_bad {α : Type} {s : State} {v : Option α} {f : α → Taken} (h : ∀ a, v = some a → f a = badArgument s) :
    withField s v f = badArgument s := by
  cases v with
  | none => rfl
  | some a => exact h a rfl

theorem State.defineZone_inRange (s : State) (a : ZoneDefArgs) {z : Zone} (hz : a.zone.toNat = z.number)
    (h : zoneDefInRange a) : ∃ sensor blower valve damper mode,
      s.defineZone a = accept (s.zoneRedefined z (ZoneRec.define a.rank.toNat a.wmax.toNat a.deadband.toNat
        a.loopPeriod.toNat sensor blower valve damper a.planSetpoint.toInt mode s.now)) ∧
      namesNode a.sensor (some sensor) ∧ namesNode a.blower blower ∧ namesNode a.valve valve ∧
      namesNode a.damper damper ∧ mode.code = a.baseMode.toNat := by
  obtain ⟨_, hrank, hwmax, hdb, hlp, hse, hbl, hva, hda, hsp, hbm⟩ := h
  obtain ⟨sensor, hsensor, nsensor⟩ := nodeOfNat_ok hse
  obtain ⟨blower, hblower, nblower⟩ := nodeField_ok _ hbl
  obtain ⟨valve, hvalve, nvalve⟩ := nodeField_ok _ hva
  obtain ⟨damper, hdamper, ndamper⟩ := nodeField_ok _ hda
  obtain ⟨mode, hmode, cmode⟩ := baseModeOfNat_ok hbm.2
  refine ⟨sensor, blower, valve, damper, mode, ?_, nsensor, nblower, nvalve, ndamper, cmode⟩
  simp only [State.defineZone, withField, hz, zoneOfNat_number, rangeByte_ok hrank, rangeByte_ok hwmax, rangeByte_ok hdb,
    rangeByte_ok hlp, hsensor, hblower, hvalve, hdamper, setpointField_ok hsp, hmode]
  rfl

theorem State.defineZone_outOfRange (s : State) (a : ZoneDefArgs) (h : ¬ zoneDefInRange a) :
    s.defineZone a = badArgument s := by
  unfold State.defineZone
  refine withField_bad fun z hz => withField_bad fun rank hrank => withField_bad fun wmax hwmax =>
    withField_bad fun db hdb => withField_bad fun lp hlp => withField_bad fun se hse => withField_bad fun bl hbl =>
    withField_bad fun va hva => withField_bad fun da hda => withField_bad fun sp hsp => withField_bad fun bm hbm => ?_
  have byteField {lo hi v : Nat} {b : Byte} (e : rangeByte lo hi b = some v) : byteIn lo hi b :=
    by_contra fun n => by simp [rangeByte_bad n] at e
  have node {b : Byte} {v : Option NodeId} (e : nodeField b = some v) : byteIn 0 31 b :=
    by_contra fun n => by simp [nodeField_bad b n] at e
  refine absurd ⟨?_, byteField hrank, byteField hwmax, byteField hdb, byteField hlp, ?_, node hbl, node hva, node hda,
    ?_, ?_⟩ h
  · by_contra n
    simp [zoneOfNat_bad (k := a.zone.toNat) (by unfold byteIn at n; omega)] at hz
  · by_contra n
    simp [nodeOfNat_bad (k := a.sensor.toNat) (by unfold byteIn at n; omega)] at hse
  · by_contra n
    simp [setpointField_bad n] at hsp
  · by_contra n
    simp [baseModeOfNat_bad (k := a.baseMode.toNat) (by unfold byteIn at n; omega)] at hbm

theorem State.zoneDef_owner (s : State) (found : RangeTag) (active : Byte) (a : ZoneDefArgs) :
    s.ownerTakes .zoneDef found (zoneDefPayload active a) = s.takeZoneDef active a := by
  simp only [zoneDefPayload, wordBytes, List.cons_append, List.nil_append, State.ownerTakes, joinBytes_split]

/-- Settles O11, from the fields' checks and the bindings that end. -/
theorem zoneDefinition : Obligations.ZoneDefinition := by
  intro s tag a hf hc
  have inc := State.takesConfiguration_includes .zoneDef hc rfl
  refine ⟨fun z hz => ⟨fun hr => ?_, ?_⟩, fun hr => ?_, fun hz => ?_⟩
  · obtain ⟨sensor, blower, valve, damper, mode, hd, nsensor, nblower, nvalve, ndamper, cmode⟩ :=
      State.defineZone_inRange s.untagged a hz hr
    obtain ⟨t, he, hok, hzone, hre⟩ := State.zoneDef_accepted (r := ZoneRec.define a.rank.toNat a.wmax.toNat
      a.deadband.toNat a.loopPeriod.toNat sensor blower valve damper a.planSetpoint.toInt mode s.now) tag hf hc rfl
      ((State.zoneDef_owner _ _ 1#8 a).trans (by
        simp only [State.takeZoneDef, withField, hz, zoneOfNat_number, flagField]
        exact hd))
    refine ⟨t, he, hok, ?_⟩
    rw [hzone]
    exact ⟨rfl, nsensor, nblower, nvalve, ndamper, cmode, hre⟩
  · exact State.zoneDef_accepted (r := ZoneRec.reset s.now) tag hf hc rfl
      ((State.zoneDef_owner _ _ 0#8 a).trans (by
        simp only [State.takeZoneDef, State.undefineZone, withField, hz, zoneOfNat_number, flagField]
        rfl))
  · refine State.clears_badArgument s .zoneDef tag _ hf rfl inc rfl ((State.zoneDef_owner _ _ 1#8 a).trans ?_)
    refine withField_bad fun _ _ => ?_
    exact State.defineZone_outOfRange _ a hr
  · refine State.clears_badArgument s .zoneDef tag _ hf rfl inc rfl ((State.zoneDef_owner _ _ 0#8 a).trans ?_)
    exact withField_none _ (zoneOfNat_bad hz)

end Sys2Proof.Machine
end

section
/-! The queries (O10): how each is answered, the lengths of the payloads, and the sorted list of grants. -/
namespace Sys2Proof.Machine

/-! ## Answering a query -/

/-- A query whose owner answers a, in the state as it was. -/
theorem State.query_answered {s : State} {k : Kind} (tag : Byte) {p : List Byte} {a : Answer} (hf : s.portFree)
    (hk : k.tagEffect = .keeps) (hs : k.takenIn = .anyState) (hl : p.length = k.length)
    (ho : s.ownerTakes k s.port.tag p = (s, a)) :
    s.answer (·.hostRequest k tag p) = .next (s.reply (k.code + 0x80#8) tag false a) := by
  have o := State.takeRequest_owner s k p (by simp [hs, TakenIn.includes]) (by simp [hk, TagEffect.outOfSequence]) hl
  have e : s.setTag (TagEffect.keeps.after s.port.tag) = s := rfl
  rw [hk, e, ho] at o
  rw [State.answer_free _ hf.1, State.hostRequest_free s k tag p hf, State.takeGood_code, o, hk]
  rfl

theorem OnlyPort.reply (s : State) (kind tag : Byte) (c : Bool) (a : Answer) : OnlyPort s (s.reply kind tag c a) :=
  ⟨rfl, rfl, rfl, rfl, rfl, rfl, rfl, rfl, rfl, rfl, rfl, rfl⟩

theorem State.query_ok {s : State} {k : Kind} (tag : Byte) {p q : List Byte} (hf : s.portFree)
    (hk : k.tagEffect = .keeps) (hs : k.takenIn = .anyState) (hl : p.length = k.length)
    (ho : s.ownerTakes k s.port.tag p = (s, .ok q)) :
    ∃ t, s.answer (·.hostRequest k tag p) = .next t ∧ t.repliesOk (k.code + 0x80#8) tag q ∧ OnlyPort s t ∧
      t.port = { s.port with sending := t.port.sending } :=
  ⟨_, State.query_answered tag hf hk hs hl ho, State.reply_repliesOk _ _ _ _ _, OnlyPort.reply _ _ _ _ _, rfl⟩

theorem State.query_badArgument {s : State} {k : Kind} (tag : Byte) {p : List Byte} (hf : s.portFree)
    (hk : k.tagEffect = .keeps) (hs : k.takenIn = .anyState) (hl : p.length = k.length)
    (ho : s.ownerTakes k s.port.tag p = badArgument s) :
    ∃ t, s.answer (·.hostRequest k tag p) = .next t ∧ t.repliesBadArgument (k.code + 0x80#8) tag ∧ OnlyPort s t ∧
      t.port = { s.port with sending := t.port.sending } :=
  ⟨_, State.query_answered tag hf hk hs hl ho, State.reply_repliesBadArgument _ _ _ _, OnlyPort.reply _ _ _ _ _, rfl⟩

/-! ## The lengths of the payloads -/

@[simp] theorem Layout.num2_length (n : Nat) : (Layout.num2 n).length = 2 := rfl
@[simp] theorem Layout.num4_length (n : Nat) : (Layout.num4 n).length = 4 := rfl
@[simp] theorem Layout.age_length (a b : Time) : (Layout.age a b).length = 2 := rfl
@[simp] theorem Layout.zoneSet_length (b : BitVec 24) : (Layout.zoneSet b).length = 3 := rfl
@[simp] theorem Layout.condSet_length (b : BitVec 12) : (Layout.condSet b).length = 2 := rfl
@[simp] theorem Layout.temp_length (t : Option Int) : (Layout.temp t).length = 2 := by cases t <;> rfl
@[simp] theorem Layout.co2_length (t : Option Nat) : (Layout.co2 t).length = 2 := by cases t <;> rfl

theorem Layout.state_length (s : State) : (Layout.state s).length = 36 := by
  cases hr : s.op.lastRefusal <;> cases hp : s.port.protection.range <;> simp [Layout.state, hr, hp]

theorem Layout.zone_length (s : State) (z : Zone) : (Layout.zone s z).length = 56 := by
  cases hg : s.arb.grantOf z <;> cases hc : s.arb.claimOf z <;> simp [Layout.zone, hg, hc]

theorem Layout.plant_length (s : State) : (Layout.plant s).length = 35 := by simp [Layout.plant]

theorem Layout.cond_length (s : State) (p : Nat) : (Layout.cond s p).length = 25 := by simp [Layout.cond]

@[simp] theorem natBytes2_length (n : Nat) : (natBytes2 n).length = 2 := rfl

@[simp] theorem valueBytes_length (k : Option NodeKind) (v : Option Value) : (valueBytes k v).length = 4 := by
  cases v with
  | none => by_cases h : k = some .sensor <;> simp [valueBytes, h, tempBytes, co2Bytes, wordBytes]
  | some v => cases v <;> rfl

theorem Layout.nodeRec_length (s : State) (n : NodeId) : (Layout.nodeRec s n).length =
    34 + 2 * (s.nodes.queue.filter (fun e => decide (e.node = some n))).length := by
  have pairs (q : List Entry) : ((q.map queuedBytes).flatten).length = 2 * q.length := by
    simp [List.length_flatten, Function.comp_def, queuedBytes]; omega
  rw [← nodeReply_layout]
  simp only [nodeReply, nodeRecordBytes, nodeTimerBytes, List.length_append, pairs, entriesFor, List.length_cons,
    List.length_nil, natBytes2_length, valueBytes_length]

/-! ## POOL_QUERY (R71) -/

theorem insertGrant_perm (g : Grant) (q : List Grant) : (insertGrant g q).Perm (g :: q) := by
  induction q with
  | nil => exact List.Perm.refl _
  | cons x q ih =>
    unfold insertGrant
    split
    · exact List.Perm.refl _
    · exact (ih.cons x).trans (List.Perm.swap g x q)

theorem sortGrants_perm (q : List Grant) : (sortGrants q).Perm q := by
  induction q with
  | nil => exact List.Perm.refl _
  | cons g q ih => exact (insertGrant_perm g _).trans (ih.cons g)

theorem insertGrant_sorted (g : Grant) (q : List Grant) (h : q.Pairwise (fun a b => a.number ≤ b.number)) :
    (insertGrant g q).Pairwise (fun a b => a.number ≤ b.number) := by
  induction q with
  | nil => simp [insertGrant]
  | cons x q ih =>
    obtain ⟨hx, hq⟩ := List.pairwise_cons.1 h
    unfold insertGrant
    split
    · rename_i hg
      refine List.pairwise_cons.2 ⟨fun y hy => ?_, h⟩
      rcases List.mem_cons.1 hy with rfl | hy
      · exact hg
      · exact hg.trans (hx y hy)
    · rename_i hg
      refine List.pairwise_cons.2 ⟨fun y hy => ?_, ih hq⟩
      rcases List.mem_cons.1 ((insertGrant_perm g q).mem_iff.1 hy) with rfl | hy
      · omega
      · exact hx y hy

theorem sortGrants_sorted (q : List Grant) : (sortGrants q).Pairwise (fun a b => a.number ≤ b.number) := by
  induction q with
  | nil => exact List.Pairwise.nil
  | cons g q ih => exact insertGrant_sorted g _ ih

theorem byteOf_toNat (b : Byte) : byteOf b.toNat = b := by simp [byteOf]

theorem toNat_byteOf {n : Nat} (h : n < 256) : (byteOf n).toNat = n := by simp [byteOf, h]

theorem poolReply_grants (s : State) (i : PoolId) (first : Byte) :
    poolReply s i .grants first.toNat =
      Layout.poolHead s i 1#8 first (((sortGrants (s.arb.pool i).grants).drop first.toNat).take 7).length ++
        (((sortGrants (s.arb.pool i).grants).drop first.toNat).take 7).flatMap (Layout.grant s) := by
  simp only [poolReply, poolEntries, Layout.poolHead, byteOf_toNat, List.length_map, List.flatMap_def]
  rfl

theorem poolReply_claims (s : State) (i : PoolId) (first : Byte) :
    poolReply s i .claims first.toNat =
      Layout.poolHead s i 2#8 first (((s.arb.pool i).claims.drop first.toNat).take 4).length ++
        (((s.arb.pool i).claims.drop first.toNat).take 4).flatMap (Layout.claim s) := by
  have e : claimBytes s.now = Layout.claim s := by
    funext c
    simp only [claimBytes, Layout.claim, ageBytes_layout]
    rfl
  simp only [poolReply, poolEntries, Layout.poolHead, byteOf_toNat, List.length_map, List.flatMap_def, e]

theorem poolField_code (i : PoolId) : poolField (byteOf i.code) = some i := by cases i <;> rfl

theorem poolField_bad {b : Byte} (h : b.toNat = 0 ∨ 2 < b.toNat) : poolField b = none := by
  have h1 : b ≠ 1#8 := by rintro rfl; simp at h
  have h2 : b ≠ 2#8 := by rintro rfl; simp at h
  simp [poolField, h1, h2]

theorem listField_bad {b : Byte} (h : b.toNat = 0 ∨ 2 < b.toNat) : listField b = none := by
  have h1 : b ≠ 1#8 := by rintro rfl; simp at h
  have h2 : b ≠ 2#8 := by rintro rfl; simp at h
  simp [listField, h1, h2]

theorem State.poolQuery_owner {s : State} (found : RangeTag) (i : PoolId) {b first : Byte} {l : PoolList}
    (hb : listField b = some l) (h : first.toNat ≤ 23) :
    s.ownerTakes .poolQuery found [byteOf i.code, b, first] = (s, .ok (poolReply s i l first.toNat)) := by
  simp [State.ownerTakes, State.takePoolQuery, poolField_code, hb, rangeByte_ok (lo := 0) ⟨Nat.zero_le _, h⟩, withField]

theorem State.poolQuery_bad {s : State} (found : RangeTag) {i l f : Byte}
    (h : i.toNat = 0 ∨ 2 < i.toNat ∨ l.toNat = 0 ∨ 2 < l.toNat ∨ 23 < f.toNat) :
    s.ownerTakes .poolQuery found [i, l, f] = badArgument s := by
  refine withField_bad fun a ha => withField_bad fun b hb => withField_bad fun c hc => ?_
  exfalso
  rcases h with h | h | h | h | h
  · simp [poolField_bad (.inl h)] at ha
  · simp [poolField_bad (.inr h)] at ha
  · simp [listField_bad (.inl h)] at hb
  · simp [listField_bad (.inr h)] at hb
  · simp [rangeByte_bad (lo := 0) (hi := 23) (b := f) (by unfold byteIn; omega)] at hc

/-! ## The statement -/

theorem codes_listed : codesAsListed := by
  refine ⟨?_, ?_, ?_, ?_, ?_, ?_, ?_, ?_, ?_, ?_, ?_, ?_, fun z => ⟨?_, fun r => ?_⟩, ?_, fun r => ?_, ?_, ?_, ?_, ?_, ?_,
    ?_, fun z => ?_, ?_, fun k => ?_, ?_, ?_, ?_, ?_⟩ <;> rfl

/-- Settles O10, query by query from its layout; a field out of range is answered BAD_ARGUMENT. -/
theorem queriesChangeNoState : Obligations.QueriesChangeNoState := by
  refine ⟨codes_listed, fun s tag hf => ⟨?_, fun z => ?_, fun i first h => ⟨?_, ?_⟩, fun n => ?_, ?_, ?_, fun b h => ?_,
    fun b h => ?_, fun i l f h => ?_⟩⟩
  · obtain ⟨t, he, hok, ho, hp⟩ := State.query_ok (k := .stateQuery) (p := []) tag hf rfl rfl rfl rfl
    exact ⟨t, he, stateReply_layout s ▸ hok, ho, hp, Layout.state_length s⟩
  · obtain ⟨t, he, hok, ho, hp⟩ := State.query_ok (k := .zoneQuery) (p := [byteOf z.number]) (q := zoneReply s z) tag hf rfl
      rfl rfl (by
        have hz : z.number < 256 := by have := z.isLt; unfold Zone.number; omega
        simp [State.ownerTakes, State.takeZoneQuery, toNat_byteOf hz, zoneOfNat_number, withField])
    exact ⟨t, he, zoneReply_layout s z ▸ hok, ho, hp, Layout.zone_length s z⟩
  · obtain ⟨t, he, hok, ho, hp⟩ := State.query_ok (k := .poolQuery) tag hf rfl rfl rfl
      (State.poolQuery_owner s.port.tag i (b := 1#8) (l := .grants) rfl h)
    exact ⟨t, sortGrants (s.arb.pool i).grants, _, he, sortGrants_perm _, sortGrants_sorted _, rfl,
      poolReply_grants s i first ▸ hok, ho, hp⟩
  · obtain ⟨t, he, hok, ho, hp⟩ := State.query_ok (k := .poolQuery) tag hf rfl rfl rfl
      (State.poolQuery_owner s.port.tag i (b := 2#8) (l := .claims) rfl h)
    exact ⟨t, _, he, rfl, poolReply_claims s i first ▸ hok, ho, hp⟩
  · obtain ⟨t, he, hok, ho, hp⟩ := State.query_ok (k := .nodeQuery) (p := [byteOf n.address]) (q := nodeReply s n) tag hf rfl
      rfl rfl (by
        have hn : n.address < 256 := by have := n.isLt; unfold NodeId.address; omega
        simp [State.ownerTakes, State.takeNodeQuery, toNat_byteOf hn, nodeOfNat_address, withField])
    exact ⟨t, he, nodeReply_layout s n ▸ hok, ho, hp, Layout.nodeRec_length s n⟩
  · obtain ⟨t, he, hok, ho, hp⟩ := State.query_ok (k := .plantQuery) (p := []) tag hf rfl rfl rfl rfl
    exact ⟨t, he, plantReply_layout s ▸ hok, ho, hp, Layout.plant_length s⟩
  · obtain ⟨t, he, hok, ho, hp⟩ := State.query_ok (k := .condQuery) (p := []) tag hf rfl rfl rfl rfl
    exact ⟨t, _, he, firstBit_first s, condReply_layout s ▸ hok, ho, hp, Layout.cond_length s _⟩
  · exact State.query_badArgument (k := .zoneQuery) tag hf rfl rfl rfl (withField_none _ (zoneOfNat_bad h))
  · exact State.query_badArgument (k := .nodeQuery) tag hf rfl rfl rfl (withField_none _ (nodeOfNat_bad h))
  · exact State.query_badArgument (k := .poolQuery) tag hf rfl rfl rfl (State.poolQuery_bad _ h)

end Sys2Proof.Machine
end

section
/-! SUPPORT. What the node manager makes of an outcome outside COMMISSIONING: how it is taken, how a failed READ is told,
and the entries of a node to FAULT, OFFLINE and BUSY (R130, R132, R137, R144, R146, R151). -/
namespace Sys2Proof.Machine

/-! ## What the zone controller's operations leave as it was -/

/-- What the zone controller can change outside its own block: pools, plant, conditions, and what a request put to the node
manager can change. -/
structure ZoneSide (s t : State) : Prop where
  now : t.now = s.now
  held : t.held = s.held
  shedLine : t.shedLine = s.shedLine
  key : t.key = s.key
  port : t.port = s.port
  pending : t.pending = s.pending
  op : t.op = { s.op with work := t.op.work }
  tuning : t.nodes.tuning = s.nodes.tuning
  pollTick : t.nodes.pollTick = s.nodes.pollTick
  recs : ∀ n, t.node n =
    { s.node n with
      pending := (t.node n).pending, retryOwed := (t.node n).retryOwed, retryStep := (t.node n).retryStep
      haltOwed := (t.node n).haltOwed }
  still : ∀ n, (s.node n).state ≠ .busy → (t.node n).pending = (s.node n).pending

theorem ZoneSide.ofDemand {s t : State} (h : DemandSide s t) : ZoneSide s t :=
  ⟨h.now, h.held, h.shedLine, h.key, h.port, h.pending, h.op, h.tuning, h.pollTick, h.recs, h.still⟩

theorem ZoneSide.ofNode {s t : State} (h : NodeSide s t) : ZoneSide s t := ZoneSide.ofDemand (DemandSide.ofNode h)

theorem ZoneSide.refl (s : State) : ZoneSide s s := ZoneSide.ofDemand (DemandSide.refl s)

theorem ZoneSide.trans {s t u : State} (a : ZoneSide s t) (b : ZoneSide t u) : ZoneSide s u where
  now := b.now.trans a.now
  held := b.held.trans a.held
  shedLine := b.shedLine.trans a.shedLine
  key := b.key.trans a.key
  port := b.port.trans a.port
  pending := b.pending.trans a.pending
  op := by rw [b.op, a.op]
  tuning := b.tuning.trans a.tuning
  pollTick := b.pollTick.trans a.pollTick
  recs := fun n => by
    have h := b.recs n
    rw [a.recs n] at h
    exact h
  still := fun n h => by
    have hs : (t.node n).state = (s.node n).state := by rw [a.recs n]
    rw [b.still n (by rw [hs]; exact h), a.still n h]

theorem ZoneSide.setZone (s : State) (z : Zone) (r : ZoneRec) : ZoneSide s (s.setZone z r) :=
  ⟨rfl, rfl, rfl, rfl, rfl, rfl, rfl, rfl, rfl, fun _ => rfl, fun _ _ => rfl⟩

theorem ZoneSide.raise (s : State) (c : StickyCond) (i : Option Nat) : ZoneSide s (s.raise c i) :=
  ⟨rfl, rfl, rfl, rfl, rfl, rfl, rfl, rfl, rfl, fun _ => rfl, fun _ _ => rfl⟩

theorem ZoneSide.evaluate (s : State) (z : Zone) : ZoneSide s (s.evaluate z) := ZoneSide.ofDemand (DemandSide.evaluate s z)

theorem ZoneSide.failedRead (s : State) (z : Zone) : ZoneSide s (s.failedRead z) := by
  unfold State.failedRead
  dsimp only
  split
  · exact ZoneSide.refl s
  · split
    · exact ZoneSide.setZone s z _
    · exact ((ZoneSide.setZone s z _).trans (ZoneSide.raise _ _ _)).trans (ZoneSide.evaluate _ z)

theorem ZoneSide.opState {s t : State} (h : ZoneSide s t) : t.op.state = s.op.state := by rw [h.op]
theorem ZoneSide.binding {s t : State} (h : ZoneSide s t) (n : NodeId) : (t.node n).binding = (s.node n).binding := by
  rw [h.recs n]

/-! ## Outside COMMISSIONING an outcome is followed by nothing -/

theorem State.commissions_outside {s : State} (h : s.op.state ≠ .commissioning) : s.commissions = false := by
  simp [State.commissions, h]

theorem State.opNodeCheck_outside {s : State} (n : NodeId) (h : s.op.state ≠ .commissioning) : s.opNodeCheck n = s := by
  simp [State.opNodeCheck, State.commissions_outside h]

theorem State.opNodeDown_outside {s : State} (n : NodeId) (h : s.op.state ≠ .commissioning) : s.opNodeDown n = s := by
  simp [State.opNodeDown, State.commissions_outside h]

theorem State.opMoved_outside {s : State} (n : NodeId) (res : MoveResult) (h : s.op.state ≠ .commissioning) :
    s.opMoved n res = s := by
  simp [State.opMoved, State.commissions_outside h]

/-- A reply whose outcome leaves the state v, outside COMMISSIONING. -/
theorem exec_reply {s v : State} {d : Time} {n : NodeId} {x : Txn} {st : Byte} {data : List Byte}
    (h : s.replied d n x st data) (hv : (s.reporting d).outcomeOk x n st data = v) (hc : v.op.state ≠ .commissioning) :
    exec .closingQuietEnd s = .next v.freeLine := by
  rw [exec_closingQuietEnd h]
  simp only [State.takeOutcome, hv]
  rw [State.opNodeCheck_outside n hc, State.opFollow_outside v hc]

/-- A second failure whose outcome leaves the state v, outside COMMISSIONING. -/
theorem exec_failure {s v : State} {c : Instr} {d : Time} {n : NodeId} {x : Txn} (h : s.secondFails c d n x)
    (hv : (s.reporting d).outcomeFailed x n = v) (hc : v.op.state ≠ .commissioning) : exec c s = .next v.freeLine := by
  obtain ⟨k, e⟩ := exec_secondFails h
  rw [e]
  simp only [State.takeOutcome, hv]
  rw [State.opNodeCheck_outside n hc, State.opFollow_outside v hc]

/-! ## An answer sets the count of failures to 0 (R130) -/

/-- R130 step 2: the count of failed transactions is 0. -/
def State.answeredAt (s : State) (n : NodeId) : State := s.setNode n { s.node n with failCount := 0 }

theorem State.outcomeOk_active {s : State} {n : NodeId} (x : Txn) (st : Byte) (data : List Byte)
    (h : (s.node n).state = .ready ∨ (s.node n).state = .busy) :
    s.outcomeOk x n st data = (s.answeredAt n).replyActive x n st data := by
  rcases h with h | h <;> simp only [State.outcomeOk, h] <;> rfl

theorem State.outcomeOk_starting {s : State} {n : NodeId} (x : Txn) (st : Byte) (data : List Byte)
    (h : (s.node n).state = .starting) : s.outcomeOk x n st data = (s.answeredAt n).replyStarting x n st data := by
  simp only [State.outcomeOk, h] <;> rfl

theorem State.outcomeOk_offline {s : State} {n : NodeId} (x : Txn) (st : Byte) (data : List Byte)
    (h : (s.node n).state = .offline) : s.outcomeOk x n st data = (s.answeredAt n).replyOffline x n st := by
  simp only [State.outcomeOk, h] <;> rfl

theorem State.outcomeOk_fault {s : State} {n : NodeId} {x : Txn} (st : Byte) (data : List Byte)
    (h : (s.node n).state = .fault) (hr : Origin.retry ∈ x.origins) :
    s.outcomeOk x n st data = (s.answeredAt n).replyRetry x n st data := by
  have hc : x.origins.contains .retry = true := by simpa using hr
  simp only [State.outcomeOk, h, hc, if_true] <;> rfl

@[simp] theorem State.answeredAt_node (s : State) (n : NodeId) :
    (s.answeredAt n).node n = { s.node n with failCount := 0 } := by simp [State.answeredAt]

@[simp] theorem State.answeredAt_op (s : State) (n : NodeId) : (s.answeredAt n).op = s.op := rfl
@[simp] theorem State.answeredAt_zone (s : State) (n : NodeId) (z : Zone) : (s.answeredAt n).zone z = s.zone z := rfl
@[simp] theorem State.answeredAt_queue (s : State) (n : NodeId) : (s.answeredAt n).nodes.queue = s.nodes.queue := rfl
@[simp] theorem State.answeredAt_setNode (s : State) (n : NodeId) (r : NodeRec) :
    (s.answeredAt n).setNode n r = s.setNode n r := State.setNode_setNode s n _ r

/-! ## A failed READ is told to its zone (R16) -/

theorem State.reportFailure_noReading {s : State} {x : Txn} (h : x.noReading) : s.reportFailure x = s := by
  unfold State.reportFailure
  split
  · rename_i hc
    have fold : ∀ l : List Origin, (∀ z, Origin.zone z ∉ l) →
        l.foldl (fun s o => match o with
          | .zone z => State.readFailed s z
          | _ => s) s = s := by
      intro l hl
      induction l with
      | nil => rfl
      | cons o l ih =>
        have ih := ih (fun z hz => hl z (List.mem_cons_of_mem _ hz))
        cases o with
        | zone z => exact absurd (by simp) (hl z)
        | _ => exact ih
    exact fold _ (h hc)
  · rfl

theorem State.reportFailure_zone {s : State} {x : Txn} {z : Zone} (hc : x.cmd = .read) (ho : x.origins = [.zone z])
    (h1 : s.op.state = .run) (h2 : (s.zone z).active = true) : s.reportFailure x = s.failedRead z := by
  simp only [State.reportFailure, hc, ho, if_true, List.foldl_cons, List.foldl_nil]
  exact State.readFailed_run h1 h2

/-! ## The owner of a node that goes down (R151) -/

/-- R151: no owner acts when the node goes down: it has none, or is a zone's sensor. -/
abbrev NodeRec.untold (r : NodeRec) : Prop := r.binding = none ∨ ∃ z, r.binding = some (.zone z .sensor)

theorem State.downNotice_untold {s : State} {n : NodeId} (h : (s.node n).untold) : s.downNotice n = s := by
  rcases h with h | ⟨z, h⟩ <;> simp [State.downNotice, h, State.zoneNodeDown]

theorem State.downNotice_zone {s : State} {n : NodeId} {z : Zone} {role : ZoneRole}
    (hb : (s.node n).binding = some (.zone z role)) (hr : role ≠ .sensor) (h1 : s.op.state = .run)
    (h2 : (s.zone z).active = true) : zoneToldDown s z (s.downNotice n) ∧ (s.downNotice n).op.state = .run := by
  have e : s.downNotice n =
      (s.setZone z { s.zone z with flags := { (s.zone z).flags with actuatorFault := true } }).evaluate z := by
    simp only [State.downNotice, hb, State.zoneNodeDown, hr, h1, false_or]
    rfl
  rw [e]
  refine ⟨State.evaluate_evaluated _ z h1 (by simpa using h2), ?_⟩
  rw [(ZoneSide.evaluate _ z).opState]
  exact h1

/-! ## FAULT (R146) -/

theorem State.dropEntries_all (s : State) (n : NodeId) :
    s.dropEntries n (fun _ => true) = s.setQueue (s.nodes.queue.filter (fun e => e.node ≠ some n)) := by
  simp [State.dropEntries]

theorem State.faultRecord_eq (s : State) (n : NodeId) {why : FaultReason} (h : why ≠ .travelTimeout) :
    s.faultRecord n why = s.downAt n (faultedRecord (s.node n) why) := by
  simp only [State.faultRecord, h, if_false, State.dropEntries_all]
  rfl

theorem State.downAt_answeredAt (s : State) (n : NodeId) (r : NodeRec) : (s.answeredAt n).downAt n r = s.downAt n r :=
  State.setNode_setNode { s with nodes := { s.nodes with queue := s.nodes.queue.filter (fun e => e.node ≠ some n) } } n _ r

@[simp] theorem State.downAt_node (s : State) (n : NodeId) (r : NodeRec) : (s.downAt n r).node n = r := by
  simp [State.downAt]
@[simp] theorem State.downAt_op (s : State) (n : NodeId) (r : NodeRec) : (s.downAt n r).op = s.op := rfl
@[simp] theorem State.downAt_zone (s : State) (n : NodeId) (r : NodeRec) (z : Zone) :
    (s.downAt n r).zone z = s.zone z := rfl

theorem State.faultNotices_untold {s : State} {n : NodeId} (hb : (s.node n).untold) (hc : s.op.state ≠ .commissioning) :
    s.faultNotices n = s.faultRaised n := by
  rw [State.faultNotices, State.downNotice_untold hb]
  exact State.opNodeDown_outside n hc

theorem State.faultNotices_zone {s : State} {n : NodeId} {z : Zone} {role : ZoneRole}
    (hb : (s.node n).binding = some (.zone z role)) (hr : role ≠ .sensor) (h1 : s.op.state = .run)
    (h2 : (s.zone z).active = true) :
    ∃ v, zoneToldDown s z v ∧ s.faultNotices n = v.faultRaised n ∧ v.op.state = .run := by
  obtain ⟨hv, ho⟩ := State.downNotice_zone hb hr h1 h2
  refine ⟨_, hv, ?_, ho⟩
  rw [State.faultNotices]
  exact State.opNodeDown_outside (s := (s.downNotice n).raise _ _) n (by rw [State.raise_op, ho]; simp)

/-- R130, R146: a reply that faults a node whose owner does not act, and which no zone hears. -/
theorem State.replyFault_untold {s : State} {n : NodeId} {x : Txn} {why : FaultReason} (hw : why ≠ .travelTimeout)
    (hb : (s.node n).untold) (hc : s.op.state ≠ .commissioning) (hx : x.noReading) :
    s.replyFault x n why = s.faulted n (faultedRecord (s.node n) why) := by
  rw [State.replyFault, State.faultRecord_eq s n hw, State.reportFailure_noReading hx]
  exact State.faultNotices_untold (by rw [State.downAt_node]; exact hb) hc

/-- R130, R146, R16: a reply to a READ that faults such a node is a failed read of the zone that asked. -/
theorem State.replyFault_read {s : State} {n : NodeId} {x : Txn} {why : FaultReason} {z : Zone} (hw : why ≠ .travelTimeout)
    (hb : (s.node n).untold) (hx : x.cmd = .read) (ho : x.origins = [.zone z]) (h1 : s.op.state = .run)
    (h2 : (s.zone z).active = true) :
    ∃ v, failedReadOf (s.downAt n (faultedRecord (s.node n) why)) z v ∧ s.replyFault x n why = v.faultRaised n ∧
      v.op.state = .run := by
  have side := ZoneSide.failedRead (s.downAt n (faultedRecord (s.node n) why)) z
  have hv : (State.failedRead (s.downAt n (faultedRecord (s.node n) why)) z).op.state = .run := side.opState.trans h1
  refine ⟨_, State.failedRead_of h1 h2, ?_, hv⟩
  rw [State.replyFault, State.faultRecord_eq s n hw,
    State.reportFailure_zone (s := s.downAt n (faultedRecord (s.node n) why)) hx ho h1 h2]
  refine State.faultNotices_untold ?_ (by rw [hv]; simp)
  unfold NodeRec.untold
  rw [side.binding, State.downAt_node]
  exact hb

/-- R130, R146, R19: a reply that faults a valve, damper or blower of an active zone in RUN. -/
theorem State.replyFault_zone {s : State} {n : NodeId} {x : Txn} {why : FaultReason} {z : Zone} {role : ZoneRole}
    (hw : why ≠ .travelTimeout) (hb : (s.node n).binding = some (.zone z role)) (hr : role ≠ .sensor)
    (hx : x.noReading) (h1 : s.op.state = .run) (h2 : (s.zone z).active = true) :
    ∃ v, zoneToldDown (s.downAt n (faultedRecord (s.node n) why)) z v ∧ s.replyFault x n why = v.faultRaised n ∧
      v.op.state = .run := by
  rw [State.replyFault, State.faultRecord_eq s n hw, State.reportFailure_noReading hx]
  exact State.faultNotices_zone (by rw [State.downAt_node]; exact hb) hr h1 h2

/-! ## BUSY (R132) -/

theorem State.node_setNode_same (s : State) (n : NodeId) (r : NodeRec) : (s.setNode n r).node n = r := by
  rw [State.node_setNode, if_pos rfl]

theorem find?_marked {p q : List Entry} {e : Entry} {f : Entry → Bool} (he : f e = true) (hp : ∀ x ∈ p, f x = false) :
    (p ++ e :: q).find? f = some e := by
  rw [List.find?_append, List.find?_eq_none.2 (fun x hx => by simp [hp x hx])]
  simp [he]

theorem filter_unmarked {p q : List Entry} {e : Entry} {f : Entry → Bool} (he : f e = false)
    (h : ∀ x ∈ p ++ q, f x = true) : (p ++ e :: q).filter f = p ++ q := by
  rw [List.filter_append, List.filter_cons_of_neg (by simp [he]), ← List.filter_append]
  exact List.filter_eq_self.2 h

theorem State.pendQueued_none {s : State} {n : NodeId} (h : s.queued n .move = false) : s.pendQueued n = s := by
  have hf : s.nodes.queue.find? (fun e => decide (e.node = some n) && decide (e.cmd = .move)) = none := by
    rw [List.find?_eq_none]
    simpa [State.queued] using h
  simp only [State.pendQueued, hf]

theorem State.pendQueued_some {s : State} {n : NodeId} {p q : List Entry} {e : Entry}
    (hq : s.nodes.queue = p ++ e :: q) (hn : e.node = some n) (hc : e.cmd = .move)
    (hu : ∀ x ∈ p ++ q, ¬ (x.node = some n ∧ x.cmd = .move)) :
    s.pendQueued n = (s.setQueue (p ++ q)).setNode n { s.node n with pending := some ⟨e.argument, e.origin⟩ } := by
  have hf : s.nodes.queue.find? (fun e => decide (e.node = some n) && decide (e.cmd = .move)) = some e := by
    rw [hq]
    exact find?_marked (by simp [hn, hc]) (fun x hx => by simpa using hu x (List.mem_append_left _ hx))
  have hr : s.nodes.queue.filter (fun e => !(decide (e.node = some n) && decide (e.cmd = .move))) = p ++ q := by
    rw [hq]
    exact filter_unmarked (by simp [hn, hc]) (fun x hx => by
      have := hu x hx
      grind)
  simp only [State.pendQueued, hf, State.dropEntries, hr]
  rfl

/-- R132: the entry to BUSY, with the record it writes. -/
theorem State.enterBusy_eq (s : State) (n : NodeId) (b : Bool) :
    s.enterBusy n b = (s.setNode n { busyRecord s (s.node n) with busyFromFault := b }).pendQueued n := rfl

theorem State.enterBusy_unqueued {s : State} {n : NodeId} (b : Bool) (h : s.queued n .move = false) :
    s.enterBusy n b = s.setNode n { busyRecord s (s.node n) with busyFromFault := b } := by
  rw [State.enterBusy_eq]
  exact State.pendQueued_none h

theorem State.enterBusy_queued {s : State} {n : NodeId} (b : Bool) {p q : List Entry} {e : Entry}
    (hq : s.nodes.queue = p ++ e :: q) (hn : e.node = some n) (hc : e.cmd = .move)
    (hu : ∀ x ∈ p ++ q, ¬ (x.node = some n ∧ x.cmd = .move)) :
    s.enterBusy n b = (s.setQueue (p ++ q)).setNode n
      { busyRecord s (s.node n) with busyFromFault := b, pending := some ⟨e.argument, e.origin⟩ } := by
  rw [State.enterBusy_eq, State.pendQueued_some (s := s.setNode n _) hq hn hc hu, State.node_setNode_same]
  exact State.setNode_setNode (s.setQueue (p ++ q)) n _ _

/-- R132: a node enters BUSY from the record r, and the line is freed. -/
theorem State.enterBusy_became {u v : State} {n : NodeId} {r : NodeRec}
    (h : v.setLine Line.reset = (u.setNode n r).setLine Line.reset) : becameBusy u n r (v.enterBusy n false).freeLine := by
  obtain ⟨l, rfl⟩ : ∃ l, v = (u.setLine l).setNode n r := ⟨v.line, congrArg (State.setLine · v.line) h⟩
  refine ⟨fun hq => lineFreed_of_eq ?_, fun p e q hq hn hc hu => lineFreed_of_eq ?_⟩
  · rw [State.enterBusy_unqueued (s := (u.setLine l).setNode n r) false hq, State.node_setNode_same,
      State.setNode_setNode]
    rfl
  · rw [State.enterBusy_queued (s := (u.setLine l).setNode n r) false hq hn hc hu, State.node_setNode_same]
    exact (State.setNode_setNode ((u.setLine Line.reset).setQueue (p ++ q)) n r _).symm

end Sys2Proof.Machine
end

section
/-! SUPPORT. A reply that faults a node, and a STATUS, READ or MOVE reply taken in READY or BUSY (R130 to R134, R142). -/
namespace Sys2Proof.Machine

/-! ## The end of an attempt, and the state its outcome leaves -/

/-- A reply is taken: outside COMMISSIONING the line is freed of the state that the outcome leaves. -/
theorem exec_outcomeOk {s : State} {d : Time} {n : NodeId} {x : Txn} {st : Byte} {data : List Byte}
    (h : s.replied d n x st data) :
    ∃ t, exec .closingQuietEnd s = .next t ∧
      ∀ v, (s.reporting d).outcomeOk x n st data = v → v.op.state ≠ .commissioning → t = v.freeLine := by
  refine ⟨_, exec_closingQuietEnd h, fun v hv hc => ?_⟩
  have e := exec_reply h hv hc
  rw [exec_closingQuietEnd h] at e
  exact (by simpa using ·) e

theorem exec_outcomeFailed {s : State} {c : Instr} {d : Time} {n : NodeId} {x : Txn} (h : s.secondFails c d n x) :
    ∃ t, exec c s = .next t ∧
      ∀ v, (s.reporting d).outcomeFailed x n = v → v.op.state ≠ .commissioning → t = v.freeLine := by
  obtain ⟨k, e⟩ := exec_secondFails h
  refine ⟨_, e, fun v hv hc => ?_⟩
  have e' := exec_failure h hv hc
  rw [e] at e'
  exact (by simpa using ·) e'

/-! ## A request made while a transaction is in flight -/

theorem State.tellRefused_line (s : State) (n : NodeId) (c : Command) (o : Origin) :
    (s.tellRefused n c o).line = s.line := by
  unfold State.tellRefused
  repeat' split
  all_goals rfl

theorem State.refuseEntry_line (s : State) (e : Entry) : (s.refuseEntry e).line = s.line := by
  unfold State.refuseEntry
  split
  · rfl
  · rename_i n _
    generalize e.origin :: e.absorbed = l
    induction l generalizing s with
    | nil => rfl
    | cons o l ih => exact (ih _).trans (s.tellRefused_line n e.cmd o)

theorem State.joinQueue_line {s : State} (e : Entry) (h : s.line.inFlight = none) : (s.joinQueue e).line = s.line := by
  have j := s.joinQueue_joins e
  generalize s.joinQueue e = t at j
  cases j with
  | entry => rfl
  | flight x fl => rw [h] at fl; simp at fl
  | place => rfl
  | displaces v q => exact s.refuseEntry_line v
  | refused => exact s.refuseEntry_line e

/-- As an outcome is reported nothing is in flight, and the line is not idle (R118). -/
def State.reports (s : State) : Prop := s.line.phase ≠ .idle ∧ s.line.inFlight = none

theorem State.reporting_reports {s : State} (d : Time) (h : s.line.phase ≠ .idle) : (s.reporting d).reports :=
  ⟨h, by simp [State.reporting, Line.inFlight]⟩

/-- A request made then waits for the line. -/
theorem State.request_reports {s : State} (e : Entry) (h : s.reports) :
    s.request e = s.joinQueue e ∧ (s.request e).line = s.line := by
  have hl := State.joinQueue_line e h.2
  have hr : s.request e = s.joinQueue e := State.handOver_busy _ (by rw [hl]; exact h.1)
  exact ⟨hr, by rw [hr, hl]⟩

/-- What stands then is queued, and stands on as the line is freed. -/
theorem State.stands.freed {s : State} {P : Mark} (h : s.stands P) (hi : s.line.inFlight = none) :
    s.freeLine.stands P := by
  rcases h with h | ⟨x, hx, _⟩
  · exact State.stands.handOver (.inl h)
  · rw [hi] at hx
    simp at hx

/-- A MOVE asked then stands once the line is free. -/
theorem State.request_freed {s : State} {e : Entry} {n : NodeId} (h : s.reports) (hn : e.node = some n)
    (hc : e.cmd = .move) (ht : s.queued n .move = true ∨ s.nodes.queue.length < Config.queueMax) :
    (s.request e).freeLine.askedMoveBy n e.argument e.origin := by
  have ht' : s.takesIn n e.cmd := by
    rw [hc]
    exact ht.elim .inl (fun h => .inr (.inr h))
  have st := State.request_stands hn ht'
  refine ((st.freed (by rw [(State.request_reports e h).2]; exact h.2)).mono ?_).askedMoveBy
  rintro m c a o os ⟨rfl, rfl, hm, _⟩
  exact ⟨hn, hc, hm hc⟩

theorem State.takesIn_move {s : State} {n : NodeId} (h : s.takesIn n .move) :
    s.queued n .move = true ∨ s.nodes.queue.length < Config.queueMax := by
  rcases h with h | ⟨_, h⟩ | h
  · exact .inl h
  · simp at h
  · exact .inr h

theorem State.askedMoveBy.askedMove {s : State} {n : NodeId} {a : Nat} {o : Origin} (h : s.askedMoveBy n a o) :
    s.askedMove n a := by
  rcases h with ⟨e, he, h1, h2, h3, _⟩ | ⟨x, hx, h1, h2, h3, _⟩
  · exact .inl ⟨e, he, h1, h2, h3⟩
  · exact .inr ⟨x, hx, h1, h2, h3⟩

/-! ## A good reply of a READY or BUSY node, by its command (R130, R131, R134) -/

section
variable {s : State} {n : NodeId} {x : Txn} {st : Byte}

theorem State.replyActive_status {v g : Byte} (hi : stInStart st = false) (hl : stIllegal st = false)
    (hr : stRange st = false) (hf : stFault st = false) (hc : x.cmd = .status) :
    s.replyActive x n st [v, g] =
      if valueFits (s.node n).kind v.toNat && valueFits (s.node n).kind g.toNat then
        s.statusReply x n (stBusy st) v.toNat g.toNat
      else s.replyFault x n .illegalReply := by
  unfold State.replyActive
  simp only [hi, hl, hr, hf, hc, Bool.false_eq_true, false_and, if_false, Bool.or_self]

theorem State.replyActive_read {th tl ch cl : Byte} (hi : stInStart st = false) (hl : stIllegal st = false)
    (hr : stRange st = false) (hf : stFault st = false) (hc : x.cmd = .read) :
    s.replyActive x n st [th, tl, ch, cl] =
      s.readReply x n (stBusy st) (joinBytes th tl).toInt (joinBytes ch cl).toNat := by
  unfold State.replyActive
  simp only [hi, hl, hr, hf, hc, Bool.false_eq_true, false_and, if_false, Bool.or_self]
  rfl

theorem State.replyActive_move {a : Byte} (hi : stInStart st = false) (hl : stIllegal st = false)
    (hr : stRange st = false) (hf : stFault st = false) (hc : x.cmd = .move) :
    s.replyActive x n st [a] = s.moveReply x n (stBusy st) (stSequence st) a := by
  unfold State.replyActive
  simp only [hi, hl, hr, hf, hc, Bool.false_eq_true, false_and, if_false, Bool.or_self]

end

/-! ## A reply that faults the node (R130, steps 4 to 6) -/

theorem State.outcomeOk_faulty {s : State} {d : Time} {n : NodeId} {x : Txn} {st : Byte} {data : List Byte}
    {why : FaultReason} (h : s.faultyReply d n x st data why) :
    (s.reporting d).outcomeOk x n st data = ((s.reporting d).answeredAt n).replyFault x n why ∧ why ≠ .travelTimeout := by
  obtain ⟨_, hs, hi, hf⟩ := h
  have hi' : ¬ (stInStart st = true ∧ x.cmd ≠ .wake) := by
    rintro ⟨a, b⟩
    rcases hi with hi | hi
    · rw [hi] at a; simp at a
    · exact b hi
  rw [State.outcomeOk_active (s := s.reporting d) x st data hs]
  rcases hf with ⟨h1, rfl⟩ | ⟨h1, h2, rfl⟩ | ⟨h1, h2, h3, h4, rfl, v, g, rfl, h5⟩
  · simp [State.replyActive, hi', h1]
  · rcases h2 with h2 | h2 <;> simp [State.replyActive, hi', h1, h2]
  · have hi : stInStart st = false := hi.resolve_right (by rw [h4]; simp)
    rw [State.replyActive_status hi h2 h3 h1 h4, State.answeredAt_node, if_neg]
    · exact ⟨rfl, by simp⟩
    · rw [Bool.and_eq_true]
      rintro ⟨a, b⟩
      rcases h5 with h5 | h5
      · exact absurd (h5.symm.trans a) (by simp)
      · exact absurd (h5.symm.trans b) (by simp)

/-- R130, R146: what a reply that faults a node leaves, for a node that is no plant node. -/
theorem exec_replyFault {s : State} {d : Time} {n : NodeId} {x : Txn} {st : Byte} {data : List Byte}
    {why : FaultReason} {r : NodeRec} (h : s.replied d n x st data) (hc : s.op.state ≠ .commissioning)
    (hv : (s.reporting d).outcomeOk x n st data = ((s.reporting d).answeredAt n).replyFault x n why)
    (hw : why ≠ .travelTimeout) (hr : r = faultedRecord { s.node n with failCount := 0 } why) :
    ∃ t, exec .closingQuietEnd s = .next t ∧
      ((s.node n).untold →
        (x.noReading → lineFreed ({ s with now := max s.now d }.faulted n r) t) ∧
        (∀ z, x.cmd = .read → x.origins = [.zone z] → s.op.state = .run → (s.zone z).active = true →
          ∃ v, failedReadOf ((s.reporting d).downAt n r) z v ∧ lineFreed (v.faultRaised n) t)) ∧
      (x.noReading → s.op.state = .run → ∀ z role, (s.node n).binding = some (.zone z role) → role ≠ .sensor →
        (s.zone z).active = true →
        ∃ v, zoneToldDown ((s.reporting d).downAt n r) z v ∧ lineFreed (v.faultRaised n) t) := by
  obtain ⟨t, e, ht⟩ := exec_outcomeOk h
  have hd : ((s.reporting d).answeredAt n).downAt n
      (faultedRecord (((s.reporting d).answeredAt n).node n) why) = (s.reporting d).downAt n r := by
    rw [State.downAt_answeredAt, State.answeredAt_node, hr]
    rfl
  have hb : (((s.reporting d).answeredAt n).node n).binding = (s.node n).binding := by
    rw [State.answeredAt_node]
    rfl
  have finish : ∀ v : State, (s.reporting d).outcomeOk x n st data = v → v.op.state ≠ .commissioning →
      lineFreed v t := fun v e h => by rw [ht v e h]; exact v.freeLine_freed
  refine ⟨t, e, fun hu => ⟨fun hx => ?_, fun z hx ho h1 h2 => ?_⟩, fun hx h1 z role hb' hr' h2 => ?_⟩
  · have hu' : (((s.reporting d).answeredAt n).node n).untold := by
      unfold NodeRec.untold
      rwa [hb]
    have e := State.replyFault_untold hw hu' hc hx
    rw [State.faulted, hd] at e
    rw [ht _ (hv.trans e) hc]
    exact lineFreed_of_eq rfl
  · have hu' : (((s.reporting d).answeredAt n).node n).untold := by
      unfold NodeRec.untold
      rwa [hb]
    obtain ⟨v, hv', e, ho⟩ := State.replyFault_read hw hu' hx ho h1 h2
    rw [hd] at hv'
    exact ⟨v, hv', finish _ (hv.trans e) (by show v.op.state ≠ _; rw [ho]; simp)⟩
  · obtain ⟨v, hv', e, ho⟩ := State.replyFault_zone hw (hb.trans hb') hr' hx h1 h2
    rw [hd] at hv'
    exact ⟨v, hv', finish _ (hv.trans e) (by show v.op.state ≠ _; rw [ho]; simp)⟩

end Sys2Proof.Machine
end

section
/-! SETTLES O41. A STATUS reply of a node that is no plant node, and the replies that fault such a node (R130, R131, R132,
R142). -/
namespace Sys2Proof.Machine

/-! ## A node that is no plant node: nothing of the plant hears of it -/

/-- R127: no plant role holds the node. -/
abbrev NodeRec.unplanted (r : NodeRec) : Prop := ∀ role, r.binding ≠ some (.plant role)

theorem State.reportStatus_unplanted {s : State} {n : NodeId} (x : Txn) (b : Bool) (v : Nat)
    (h : (s.node n).unplanted) : s.reportStatus x n b v = s := by
  unfold State.reportStatus
  split
  · rename_i role hb
    exact absurd hb (h role)
  · rfl
  · rfl

theorem State.reportMove_unplanted {s : State} {n : NodeId} {x : Txn} (res : MoveResult)
    (h : (s.node n).unplanted) (ho : x.origin ≠ .commission) : s.reportMove x n res = s := by
  unfold State.reportMove
  rw [if_neg ho]
  split
  · rename_i role hb
    exact absurd hb (h role)
  · rfl
  · rfl

theorem State.readyNotice_busy {s : State} {n : NodeId} (h : (s.node n).unplanted) : s.readyNotice n .busy none = s := by
  unfold State.readyNotice
  split
  · rfl
  · simp [State.zoneNodeReady, isReturn]
  · rename_i role hb
    exact absurd hb (h role)

theorem State.stillNotice_unplanted {s : State} {n : NodeId} (h : (s.node n).unplanted) : s.stillNotice n false = s := by
  unfold State.stillNotice
  split
  · exact State.readyNotice_busy h
  · rfl

/-! ## BUSY and its end, and what they keep of the record -/

theorem State.enterBusy_binding (s : State) (n : NodeId) (b : Bool) :
    ((s.enterBusy n b).node n).binding = (s.node n).binding := by
  rw [State.enterBusy_eq, State.pendQueued]
  split
  · rw [State.node_setNode_same]
    rfl
  · rw [State.modNode, State.node_setNode_same]
    show ((State.setNode s n _).node n).binding = _
    rw [State.node_setNode_same]
    rfl

theorem State.enterBusy_op (s : State) (n : NodeId) (b : Bool) : (s.enterBusy n b).op = s.op := by
  rw [State.enterBusy_eq, State.pendQueued]
  split <;> rfl

/-- R142 steps 1 and 2: the record as the busy period ends. -/
def NodeRec.ended (r : NodeRec) : NodeRec :=
  { r with
    state := .ready, pending := none, busySince := none, busyFromFault := false, pollTimer := none
    travelTimer := none }

theorem State.endBusy_kept {s : State} {n : NodeId}
    (h : (s.node n).pending = none ∨ ∃ p, (s.node n).pending = some p ∧ (s.node n).value = some (.num p.argument)) :
    s.endBusy n = s.setNode n (s.node n).ended := by
  unfold State.endBusy
  rcases h with h | ⟨p, h, hv⟩
  · simp only [h]
    rfl
  · simp only [h]
    rw [if_pos hv]
    rfl

theorem State.endBusy_asked {s : State} {n : NodeId} {p : PendingMove} (h : (s.node n).pending = some p)
    (hv : (s.node n).value ≠ some (.num p.argument)) :
    s.endBusy n = (s.setNode n (s.node n).ended).request
      ⟨some n, .move, p.argument, (s.setNode n (s.node n).ended).plantBound n, p.origin, []⟩ := by
  unfold State.endBusy
  simp only [h, hv, if_false]
  rfl

theorem State.endBusy_node (s : State) (n : NodeId) :
    NodeSide (s.setNode n (s.node n).ended) (s.endBusy n) := by
  unfold State.endBusy
  dsimp only
  split
  · exact NodeSide.refl _
  · split
    · exact NodeSide.refl _
    · exact NodeSide.request _ _

theorem NodeSide.freeLine (s : State) : NodeSide s s.freeLine :=
  (NodeSide.setLine s _).trans (NodeSide.handOver _)

/-! ## The rows of a STATUS reply -/

section
variable {s : State} {n : NodeId} {x : Txn}

theorem State.statusReply_entersBusy (v g : Nat) (h : (s.node n).state = .ready) (hp : (s.node n).unplanted) :
    s.statusReply x n true v g = (s.setNode n ((s.node n).withStatus v g)).enterBusy n false := by
  simp only [State.statusReply, h, if_true]
  refine State.reportStatus_unplanted x true v ?_
  intro role
  rw [State.enterBusy_binding]
  simpa [State.modNode, NodeRec.withStatus] using hp role

theorem State.statusReply_staysBusy (v g : Nat) (h : (s.node n).state = .busy) (hp : (s.node n).unplanted) :
    s.statusReply x n true v g = s.setNode n ((s.node n).withStatus v g) := by
  simp only [State.statusReply, h, if_true]
  refine State.reportStatus_unplanted x true v ?_
  intro role
  simpa [State.modNode, NodeRec.withStatus] using hp role

theorem State.statusReply_staysReady (v g : Nat) (h : (s.node n).state = .ready) (hp : (s.node n).unplanted) :
    s.statusReply x n false v g = s.setNode n ((s.node n).withStatus v g) := by
  simp only [State.statusReply, h, if_true]
  refine State.reportStatus_unplanted x false v ?_
  intro role
  simpa [State.modNode, NodeRec.withStatus] using hp role

theorem State.statusReply_endsBusy (v g : Nat) (h : (s.node n).state = .busy) (hp : (s.node n).unplanted)
    (hf : (s.node n).busyFromFault = false) :
    s.statusReply x n false v g = (s.setNode n ((s.node n).withStatus v g)).endBusy n := by
  have hu : (((s.setNode n ((s.node n).withStatus v g)).endBusy n).node n).unplanted := by
    intro role
    rw [(State.endBusy_node _ n).recs n]
    simpa [NodeRec.withStatus, NodeRec.ended] using hp role
  simp only [State.statusReply, h, hf, if_true]
  show State.stillNotice (State.reportStatus ((s.setNode n ((s.node n).withStatus v g)).endBusy n) x n false v) n false =
    _
  rw [State.reportStatus_unplanted x false v hu, State.stillNotice_unplanted hu]

end

/-- R131: the record with a STATUS written. -/
theorem NodeRec.withStatus_eq (r : NodeRec) (v g : Nat) : r.withStatus v g =
    { r with nodeTarget := some g, value := if r.kind = some .sensor then r.value else some (.num v) } := rfl

/-- R131: what a good STATUS in form leaves, by the node's state and BUSY, at the end of its closing quiet. -/
theorem State.outcomeOk_status {s : State} {d : Time} {n : NodeId} {x : Txn} {st v g : Byte}
    (h : s.answered d n x st [v, g]) (hc : x.cmd = .status) (hb : (s.node n).state = .ready ∨ (s.node n).state = .busy)
    (hv : valueFits (s.node n).kind v.toNat = true) (hg : valueFits (s.node n).kind g.toNat = true) :
    (s.reporting d).outcomeOk x n st [v, g] =
      ((s.reporting d).answeredAt n).statusReply x n (stBusy st) v.toNat g.toNat := by
  obtain ⟨_, hi, hl, hr, hf⟩ := h
  rw [State.outcomeOk_active (s := s.reporting d) x st _ hb, State.replyActive_status hi hl hr hf hc,
    State.answeredAt_node, if_pos]
  rw [Bool.and_eq_true]
  exact ⟨hv, hg⟩

/-- Settles O41: each reply's outcome is computed, outside COMMISSIONING nothing follows it, and the line is freed. -/
theorem statusReplyIsTaken : Obligations.StatusReplyIsTaken := by
  refine ⟨?_, ?_⟩
  · rintro s u n x st data d why r h hc rfl hr
    obtain ⟨hv, hw⟩ := State.outcomeOk_faulty h
    exact exec_replyFault h.1 hc hv hw hr
  · rintro s u n x st v g d r h hc hx hp hf hv hg rfl hr
    obtain ⟨t, e, ht⟩ := exec_outcomeOk h.1
    have out := State.outcomeOk_status (v := v) (g := g) h hx
    have hk : ((s.reporting d).answeredAt n).node n = { s.node n with failCount := 0 } := State.answeredAt_node _ _
    have hp' : (((s.reporting d).answeredAt n).node n).unplanted := by rw [hk]; exact hp
    have hw : (((s.reporting d).answeredAt n).node n).withStatus v.toNat g.toNat = r := by rw [hk, hr]; rfl
    have finish : ∀ w : State, (s.reporting d).outcomeOk x n st [v, g] = w → w.op = s.op → t = w.freeLine :=
      fun w e ho => ht w e (by rw [ho]; exact hc)
    refine ⟨t, e, fun hs hb => ?_, fun hs hb => ?_, fun hs hb => ?_, fun hs hb hq => ?_, fun q hs hb hq hne htk => ?_⟩
    · have e := (out (.inl hs) hv hg).trans (by rw [hb])
      rw [State.statusReply_staysReady _ _ (by rw [hk]; exact hs) hp', hw, State.answeredAt_setNode] at e
      rw [finish _ e rfl]
      exact lineFreed_of_eq rfl
    · have e := (out (.inr hs) hv hg).trans (by rw [hb])
      rw [State.statusReply_staysBusy _ _ (by rw [hk]; exact hs) hp', hw, State.answeredAt_setNode] at e
      rw [finish _ e rfl]
      exact lineFreed_of_eq rfl
    · have e := (out (.inl hs) hv hg).trans (by rw [hb])
      rw [State.statusReply_entersBusy _ _ (by rw [hk]; exact hs) hp', hw, State.answeredAt_setNode] at e
      rw [finish _ e (State.enterBusy_op _ _ _)]
      exact State.enterBusy_became rfl
    · have e := (out (.inr hs) hv hg).trans (by rw [hb])
      rw [State.statusReply_endsBusy _ _ (by rw [hk]; exact hs) hp' (by rw [hk]; exact hf), hw,
        State.answeredAt_setNode, State.endBusy_kept, State.node_setNode_same, State.setNode_setNode] at e
      · rw [finish _ e rfl]
        exact lineFreed_of_eq rfl
      · rw [State.node_setNode_same, hr]
        rwa [hr] at hq
    · have e := (out (.inr hs) hv hg).trans (by rw [hb])
      rw [State.statusReply_endsBusy _ _ (by rw [hk]; exact hs) hp' (by rw [hk]; exact hf), hw,
        State.answeredAt_setNode, State.endBusy_asked (p := q), State.node_setNode_same, State.setNode_setNode] at e
      · set w := (s.reporting d).setNode n r.ended with hwd
        have htk := State.takesIn_move htk
        have hrep : w.reports := State.reporting_reports d (by rw [h.1.2.1]; simp)
        have side := NodeSide.request w ⟨some n, .move, q.argument, w.plantBound n, q.origin, []⟩
        have ht := ht _ e (by rw [side.op]; exact hc)
        have side := side.trans (NodeSide.freeLine _)
        have hn : w.node n = r.ended := State.node_setNode_same _ _ _
        rw [ht]
        refine ⟨?_, ?_, ?_⟩
        · rw [side.recs n, hn]
          rfl
        · rw [side.still n (by rw [hn]; simp [NodeRec.ended]), hn]
          rfl
        · exact (State.request_freed hrep rfl rfl htk).askedMove
      · rw [State.node_setNode_same, hr]
        exact hq
      · rw [State.node_setNode_same]
        exact hne

end Sys2Proof.Machine
end

section
/-! SETTLES O43. The rows of a MOVE reply, for a node that is no plant node (R134). -/
namespace Sys2Proof.Machine

section
variable {s : State} {n : NodeId} {x : Txn}

/-- R134: the node moves to the target it has taken. -/
theorem State.moveReply_moving {a : Byte} (ha : a = byteOf x.argument) (hp : (s.node n).unplanted)
    (ho : x.origin ≠ .commission) :
    s.moveReply x n true false a = (s.setNode n ((s.node n).movesTo x.argument)).enterBusy n false := by
  have hfit : x.fitsTaken false a = true := by simp [Txn.fitsTaken, ha]
  unfold State.moveReply
  simp only [hfit, if_true]
  refine State.reportMove_unplanted _ (fun role => ?_) ho
  rw [State.enterBusy_binding, State.modNode, State.node_setNode_same]
  exact hp role

/-- R134: the node stands at the target it has taken. -/
theorem State.moveReply_there {a : Byte} (ha : a = byteOf x.argument) (hp : (s.node n).unplanted)
    (ho : x.origin ≠ .commission) :
    s.moveReply x n false false a = s.setNode n ((s.node n).standsAt x.argument) := by
  have hfit : x.fitsTaken false a = true := by simp [Txn.fitsTaken, ha]
  unfold State.moveReply
  simp only [hfit, if_true]
  refine State.reportMove_unplanted _ (fun role => ?_) ho
  rw [State.modNode, State.node_setNode_same]
  exact hp role

/-- R134: the node is busy and has not taken the move, which becomes its pending one. -/
theorem State.moveReply_notTakenBusy {a : Byte} (ha : a = 0xFF#8) (hp : (s.node n).unplanted)
    (ho : x.origin ≠ .commission) :
    s.moveReply x n true true a =
      (s.setNode n { s.node n with pending := some ⟨x.argument, x.origin⟩ }).enterBusy n false := by
  have hfit : x.fitsTaken true a = true := by simp [Txn.fitsTaken, ha]
  unfold State.moveReply
  simp only [hfit, if_true]
  refine State.reportMove_unplanted _ (fun role => ?_) ho
  rw [State.enterBusy_binding, State.modNode, State.node_setNode_same]
  exact hp role

/-- R134: an AUXHEAT node has not taken the move. -/
theorem State.moveReply_notTakenAux {a : Byte} (ha : a = 0xFF#8) (hk : (s.node n).kind = some .auxheat)
    (hp : (s.node n).unplanted) (ho : x.origin ≠ .commission) : s.moveReply x n false true a = s := by
  have hfit : x.fitsTaken true a = true := by simp [Txn.fitsTaken, ha]
  unfold State.moveReply
  simp only [hfit, hk, if_true]
  exact State.reportMove_unplanted _ hp ho

end

/-- R134: the replies to a MOVE that put the node in FAULT, and the reason. -/
def Txn.faultsOn (x : Txn) (k : Option NodeKind) (busy seq : Bool) (a : Byte) (why : FaultReason) : Prop :=
  (seq = true ∧ busy = false ∧ a = 0xFF#8 ∧ k ≠ some .auxheat ∧ why = .refusedMove) ∨
  (seq = true ∧ a ≠ 0xFF#8 ∧ why = .illegalReply) ∨ (seq = false ∧ a ≠ byteOf x.argument ∧ why = .illegalReply)

theorem Txn.faultsOn.why {x : Txn} {k : Option NodeKind} {busy seq : Bool} {a : Byte} {why : FaultReason}
    (h : x.faultsOn k busy seq a why) : why ≠ .travelTimeout := by
  rcases h with ⟨_, _, _, _, rfl⟩ | ⟨_, _, rfl⟩ | ⟨_, _, rfl⟩ <;> simp

/-- Data that do not fit the flags. -/
theorem Txn.fitsTaken_false {x : Txn} {seq : Bool} {a : Byte}
    (h : (seq = true ∧ a ≠ 0xFF#8) ∨ (seq = false ∧ a ≠ byteOf x.argument)) : x.fitsTaken seq a = false := by
  rcases h with ⟨rfl, h⟩ | ⟨rfl, h⟩ <;> simp [Txn.fitsTaken, h]

theorem State.moveReply_fault {s : State} {n : NodeId} {x : Txn} {busy seq : Bool} {a : Byte} {why : FaultReason}
    (h : x.faultsOn (s.node n).kind busy seq a why) : s.moveReply x n busy seq a = s.replyFault x n why := by
  unfold State.moveReply
  rcases h with ⟨rfl, rfl, rfl, hk, rfl⟩ | ⟨rfl, ha, rfl⟩ | ⟨rfl, ha, rfl⟩
  · have hfit : x.fitsTaken true 0xFF#8 = true := by simp [Txn.fitsTaken]
    simp only [hfit, if_true]
    exact if_neg hk
  · simp [Txn.fitsTaken_false (x := x) (.inl ⟨rfl, ha⟩)]
  · simp [Txn.fitsTaken_false (x := x) (.inr ⟨rfl, ha⟩)]

theorem State.outcomeOk_move {s : State} {d : Time} {n : NodeId} {x : Txn} {st a : Byte}
    (h : s.answered d n x st [a]) (hc : x.cmd = .move) (hb : (s.node n).state = .ready ∨ (s.node n).state = .busy) :
    (s.reporting d).outcomeOk x n st [a] =
      ((s.reporting d).answeredAt n).moveReply x n (stBusy st) (stSequence st) a := by
  obtain ⟨_, hi, hl, hr, hf⟩ := h
  rw [State.outcomeOk_active (s := s.reporting d) x st _ hb, State.replyActive_move hi hl hr hf hc]

/-- Settles O43: the reply's row gives the outcome; a row that faults is a reply that faults. -/
theorem moveReplyRows : Obligations.MoveReplyRows := by
  rintro s u n x st a d h hc hx hp hs ho rfl
  obtain ⟨t, e, ht⟩ := exec_outcomeOk h.1
  have out := State.outcomeOk_move h hx hs
  have hk : ((s.reporting d).answeredAt n).node n = { s.node n with failCount := 0 } := State.answeredAt_node _ _
  have hp' : (((s.reporting d).answeredAt n).node n).unplanted := by rw [hk]; exact hp
  have finish : ∀ w : State, (s.reporting d).outcomeOk x n st [a] = w → w.op = s.op → t = w.freeLine :=
    fun w e ho => ht w e (by rw [ho]; exact hc)
  refine ⟨t, e, fun hb hq ha => ?_, fun hb hq ha => ?_, fun hb hq ha => ?_, fun hb hq ha haux => ?_,
    fun why r hr hrow => ?_⟩
  · rw [hb, hq, State.moveReply_moving ha hp' ho, hk, State.answeredAt_setNode] at out
    rw [finish _ out (State.enterBusy_op _ _ _)]
    exact State.enterBusy_became rfl
  · rw [hb, hq, State.moveReply_there ha hp' ho, hk, State.answeredAt_setNode] at out
    rw [finish _ out rfl]
    exact lineFreed_of_eq rfl
  · rw [hb, hq, State.moveReply_notTakenBusy ha hp' ho, hk, State.answeredAt_setNode] at out
    rw [finish _ out (State.enterBusy_op _ _ _)]
    exact State.enterBusy_became rfl
  · rw [hb, hq, State.moveReply_notTakenAux ha (by rw [hk]; exact haux) hp' ho] at out
    rw [finish _ out rfl]
    exact lineFreed_of_eq rfl
  · have hrow' : x.faultsOn (((s.reporting d).answeredAt n).node n).kind (stBusy st) (stSequence st) a why := by
      rw [hk]
      rcases hrow with ⟨h1, h2, h3, h4, h5⟩ | hrow | hrow
      · exact .inl ⟨h1, h2, h3, h4, h5⟩
      · exact .inr (.inl hrow)
      · exact .inr (.inr hrow)
    rw [State.moveReply_fault hrow'] at out
    obtain ⟨t', e', hu, hz⟩ := exec_replyFault h.1 hc out hrow'.why hr
    obtain rfl : t = t' := by simpa using e.symm.trans e'
    have hnr : x.noReading := fun hread => by rw [hx] at hread; simp at hread
    exact ⟨fun hb => (hu (.inl hb)).1 hnr, fun z role hb hr h1 h2 => hz hnr h1 z role hb hr h2⟩

end Sys2Proof.Machine
end

section
/-! SETTLES O42. A good READ reply is a reading of the zone that asked (R16, R17, R18, R40, R41). -/
namespace Sys2Proof.Machine

/-! ## The purge check of a reading (R40, R41) -/

section
variable {s : State} {z : Zone} {co2 : Nat}

/-- R40, R41: a reading that neither begins nor ends a PURGE. -/
theorem State.purgeCheck_same
    (h : ((s.zone z).stack.find? (fun e => decide (e.kind = .purge)) = none ∧ co2 < s.zones.tuning.purgeOn) ∨
      (∃ y, (s.zone z).stack.find? (fun e => decide (e.kind = .purge)) = some y ∧
        (y.cause ≠ some .auto ∨ s.zones.tuning.purgeOff < co2))) : s.purgeCheck z co2 = s := by
  unfold State.purgeCheck
  dsimp only
  rcases h with ⟨h, hlt⟩ | ⟨y, h, hy⟩
  · simp only [h]
    exact if_neg (Nat.not_le.2 hlt)
  · simp only [h]
    refine if_neg (fun hc => ?_)
    rcases hy with hy | hy
    · exact hy hc.1
    · exact absurd hc.2 (Nat.not_le.2 hy)

/-- R40: a reading at purge-on begins a PURGE with cause AUTO. -/
theorem State.purgeCheck_begins (h : (s.zone z).stack.find? (fun e => decide (e.kind = .purge)) = none)
    (hon : s.zones.tuning.purgeOn ≤ co2) :
    s.purgeCheck z co2 = (s.changeStack z (fun r => r.pushEntry .purge (some .auto) s.now)).raise .purgeAuto
      (some z.number) := by
  unfold State.purgeCheck
  dsimp only
  simp only [h]
  exact if_pos hon

/-- R41: a reading at purge-off ends an AUTO one. -/
theorem State.purgeCheck_ends {y : ModeEntry}
    (h : (s.zone z).stack.find? (fun e => decide (e.kind = .purge)) = some y) (hy : y.cause = some .auto)
    (hoff : co2 ≤ s.zones.tuning.purgeOff) :
    s.purgeCheck z co2 = s.changeStack z (fun r => r.dropEntry .purge) := by
  unfold State.purgeCheck
  dsimp only
  simp only [h]
  exact if_pos ⟨hy, hoff⟩

end

/-- R29: a change of a zone's stack from the record r. -/
theorem State.changeStack_setZone (s : State) (z : Zone) (r : ZoneRec) (f : ZoneRec → ZoneRec) :
    (s.setZone z r).changeStack z f = (s.setZone z (f r)).modeNotice r.effMode (f r).effMode := by
  have hz : (s.setZone z r).zone z = r := by simp
  rw [State.changeStack, State.modZone, hz, State.setZone_setZone]

/-- R17: the zone's record with a reading. -/
def ZoneRec.reading (r : ZoneRec) (temp : Int) (co2 : Nat) : ZoneRec :=
  { r with temperature := some temp, co2 := some co2, sensorStatus := .ok, missed := 0 }

/-- R17, R18: a reading in range is stored, checked for a PURGE, and evaluated; one out of range is a failed read. -/
theorem State.takeReading_in {s : State} {z : Zone} {temp : Int} {co2 : Nat} (h : -400 ≤ temp ∧ temp ≤ 800 ∧ co2 ≤ 5000) :
    s.takeReading z temp co2 = ((s.setZone z ((s.zone z).reading temp co2)).purgeCheck z co2).evaluate z := by
  unfold State.takeReading
  rw [if_pos h]
  rfl

theorem State.takeReading_out {s : State} {z : Zone} {temp : Int} {co2 : Nat}
    (h : ¬ (-400 ≤ temp ∧ temp ≤ 800 ∧ co2 ≤ 5000)) : s.takeReading z temp co2 = s.failedRead z := by
  unfold State.takeReading
  rw [if_neg h]

/-! ## The rows of a reading of an active zone in RUN -/

section
variable {b : State} {z : Zone} {temp : Int} {co2 : Nat}

theorem State.takeReading_same (h1 : b.op.state = .run) (h2 : (b.zone z).active = true)
    (h : -400 ≤ temp ∧ temp ≤ 800 ∧ co2 ≤ 5000)
    (hp : ((b.zone z).stack.find? (fun e => decide (e.kind = .purge)) = none ∧ co2 < b.zones.tuning.purgeOn) ∨
      (∃ y, (b.zone z).stack.find? (fun e => decide (e.kind = .purge)) = some y ∧
        (y.cause ≠ some .auto ∨ b.zones.tuning.purgeOff < co2))) :
    Evaluated (b.setZone z ((b.zone z).reading temp co2)) z (b.takeReading z temp co2) := by
  have hz : (b.setZone z ((b.zone z).reading temp co2)).zone z = (b.zone z).reading temp co2 := by simp
  rw [State.takeReading_in h, State.purgeCheck_same (by rw [hz]; exact hp)]
  exact State.evaluate_evaluated _ z h1 (by rw [hz]; exact h2)

/-- R29, R17: an evaluation after the plant controller has been told of a change of mode. -/
theorem State.modeNotice_evaluate {s : State} {q : ZoneRec} (m m' : EffMode) (h1 : s.op.state = .run)
    (h2 : q.active = true) :
    Evaluated ((s.setZone z q).modeNotice m m') z (((s.setZone z q).modeNotice m m').evaluate z) := by
  have side := PlantSide.modeNotice (s.setZone z q) m m'
  refine State.evaluate_evaluated _ z ?_ ?_
  · rw [side.op]
    exact h1
  · rw [State.zone_eq_of_zones side.zones]
    simpa using h2

theorem State.takeReading_begins (h1 : b.op.state = .run) (h2 : (b.zone z).active = true)
    (h : -400 ≤ temp ∧ temp ≤ 800 ∧ co2 ≤ 5000)
    (he : (b.zone z).stack.find? (fun e => decide (e.kind = .purge)) = none) (hon : b.zones.tuning.purgeOn ≤ co2)
    {r q : ZoneRec} (hr : r = (b.zone z).reading temp co2)
    (hq : q = { r with stack := ⟨.purge, some .auto, b.now⟩ :: r.stack }) :
    ∃ u, modeTold (b.setZone z q) r.effMode q.effMode u ∧
      Evaluated { u with cond := { u.cond with
        purgeAuto := ⟨true, min 255 (b.cond.purgeAuto.count + 1), some z.number⟩ } } z (b.takeReading z temp co2) := by
  have hz : (b.setZone z r).zone z = r := by simp
  have side := PlantSide.modeNotice (b.setZone z q) r.effMode q.effMode
  refine ⟨_, State.modeNotice_told _ r.effMode q.effMode h1, ?_⟩
  have hcount : ((b.setZone z q).modeNotice r.effMode q.effMode).cond.purgeAuto = b.cond.purgeAuto := by
    rw [side.cond]
    rfl
  have e : (b.setZone z r).purgeCheck z co2 = ((b.setZone z q).modeNotice r.effMode q.effMode).raise .purgeAuto
      (some z.number) := by
    rw [State.purgeCheck_begins (s := b.setZone z r) (by rw [hz, hr]; exact he) hon, State.changeStack_setZone, hq]
    rfl
  rw [State.takeReading_in h, ← hr, e, ← hcount]
  refine State.evaluate_evaluated _ z ?_ ?_
  · show ((b.setZone z q).modeNotice r.effMode q.effMode).op.state = .run
    rw [side.op]
    exact h1
  · show (((b.setZone z q).modeNotice r.effMode q.effMode).zone z).active = true
    rw [State.zone_eq_of_zones side.zones, hq, hr]
    simpa [ZoneRec.reading] using h2

theorem ZoneRec.dropEntry_purge (r : ZoneRec) :
    r.dropEntry .purge = { r with stack := r.stack.filter (fun e => e.kind ≠ .purge) } := by
  simp [ZoneRec.dropEntry]

theorem State.takeReading_ends (h1 : b.op.state = .run) (h2 : (b.zone z).active = true)
    (h : -400 ≤ temp ∧ temp ≤ 800 ∧ co2 ≤ 5000) {y : ModeEntry}
    (he : (b.zone z).stack.find? (fun e => decide (e.kind = .purge)) = some y) (hy : y.cause = some .auto)
    (hoff : co2 ≤ b.zones.tuning.purgeOff) {r q : ZoneRec} (hr : r = (b.zone z).reading temp co2)
    (hq : q = { r with stack := r.stack.filter (fun e => e.kind ≠ .purge) }) :
    ∃ u, modeTold (b.setZone z q) r.effMode q.effMode u ∧ Evaluated u z (b.takeReading z temp co2) := by
  have hz : (b.setZone z r).zone z = r := by simp
  refine ⟨_, State.modeNotice_told _ r.effMode q.effMode h1, ?_⟩
  have e : (b.setZone z r).purgeCheck z co2 = (b.setZone z q).modeNotice r.effMode q.effMode := by
    rw [State.purgeCheck_ends (s := b.setZone z r) (by rw [hz, hr]; exact he) hy hoff, State.changeStack_setZone, hq,
      ← ZoneRec.dropEntry_purge]
  rw [State.takeReading_in h, ← hr, e]
  exact State.modeNotice_evaluate _ _ h1 (by rw [hq, hr]; exact h2)

end

/-- R16, R17, R18: a reading changes only what a zone's operations can. -/
theorem ZoneSide.modeNotice (s : State) (a b : EffMode) : ZoneSide s (s.modeNotice a b) :=
  ZoneSide.ofDemand (DemandSide.ofPlant (PlantSide.modeNotice s a b))

theorem ZoneSide.purgeCheck (s : State) (z : Zone) (c : Nat) : ZoneSide s (s.purgeCheck z c) := by
  unfold State.purgeCheck
  dsimp only
  split
  · split
    · exact ((ZoneSide.setZone s z _).trans (ZoneSide.modeNotice _ _ _)).trans (ZoneSide.raise _ _ _)
    · exact ZoneSide.refl s
  · split
    · exact (ZoneSide.setZone s z _).trans (ZoneSide.modeNotice _ _ _)
    · exact ZoneSide.refl s

theorem ZoneSide.takeReading (s : State) (z : Zone) (t : Int) (c : Nat) : ZoneSide s (s.takeReading z t c) := by
  by_cases h : -400 ≤ t ∧ t ≤ 800 ∧ c ≤ 5000
  · rw [State.takeReading_in h]
    exact ((ZoneSide.setZone s z _).trans (ZoneSide.purgeCheck _ z c)).trans (ZoneSide.evaluate _ z)
  · rw [State.takeReading_out h]
    exact ZoneSide.failedRead s z

/-- R16, R131: the state in which the zone that asked is told the reading. -/
def State.readAt (s : State) (n : NodeId) (busy : Bool) (m : NodeRec) : State :=
  s.setNode n (if busy then busyRecord s m else m)

theorem State.readReply_zone {s : State} {n : NodeId} {x : Txn} {busy : Bool} {temp : Int} {co2 : Nat} {z : Zone}
    {m : NodeRec} (ho : x.origins = [.zone z]) (hs : (s.node n).state = .ready) (hq : s.queued n .move = false)
    (h1 : s.op.state = .run) (h2 : (s.zone z).active = true)
    (hm : m = { s.node n with value := some (.reading temp co2) }) :
    s.readReply x n busy temp co2 = (s.readAt n busy m).takeReading z temp co2 := by
  have hb : (if busy = true ∧ ((s.setNode n m).node n).state = .ready then (s.setNode n m).enterBusy n false
      else s.setNode n m) = s.readAt n busy m := by
    have hst : ((s.setNode n m).node n).state = .ready := by
      rw [State.node_setNode_same, hm]
      exact hs
    cases busy with
    | false => simp [State.readAt]
    | true =>
      rw [if_pos ⟨rfl, hst⟩, State.enterBusy_unqueued (s := s.setNode n m) false hq, State.node_setNode_same,
        State.setNode_setNode]
      rfl
  have e : s.readReply x n busy temp co2 = (s.readAt n busy m).readGood z temp co2 := by
    rw [← hb, hm]
    simp only [State.readReply, State.reportReading, ho, List.foldl_cons, List.foldl_nil]
    rfl
  rw [e, State.readGood, if_pos]
  exact ⟨h1, h2⟩

/-- Settles O42: the reply is a reading taken by the zone, whose rows the lemmas above give. -/
theorem readingReachesTheZone : Obligations.ReadingReachesTheZone := by
  rintro s b n x st th tl ch cl d z temp co2 m r e h hx ho hs hq h1 h2 ht hc hm hb hr he
  obtain ⟨t, ex, hfr⟩ := exec_outcomeOk h.1
  have hk : ((s.reporting d).answeredAt n).node n = { s.node n with failCount := 0 } := State.answeredAt_node _ _
  have hba : ((s.reporting d).answeredAt n).readAt n (stBusy st) m = b := by
    rw [State.readAt, State.answeredAt_setNode, hb]
    rfl
  have out : (s.reporting d).outcomeOk x n st [th, tl, ch, cl] = b.takeReading z temp co2 := by
    obtain ⟨_, hi, hl, hrg, hf⟩ := h
    rw [State.outcomeOk_active (s := s.reporting d) x st _ (.inl hs), State.replyActive_read hi hl hrg hf hx, ← ht, ← hc,
      State.readReply_zone (s := (s.reporting d).answeredAt n) (m := m) ho (by rw [hk]; exact hs) hq h1 h2
        (by rw [hk]; exact hm), hba]
  have hop : (b.takeReading z temp co2).op.state = .run := by
    rw [(ZoneSide.takeReading b z temp co2).opState, hb]
    exact h1
  have hz : b.zone z = s.zone z := by rw [hb]; rfl
  have hz' : b.zones = s.zones := by rw [hb]; rfl
  have hnow : b.now = max s.now d := by rw [hb]; rfl
  have b1 : b.op.state = .run := by rw [hb]; exact h1
  have b2 : (b.zone z).active = true := by rw [hz]; exact h2
  have hr' : r = (b.zone z).reading temp co2 := by rw [hz, hr]; rfl
  refine ⟨t, b.takeReading z temp co2, ex, ?_, fun ha hb' hc' => ⟨fun hp => ?_, fun hn hon q hq => ?_, fun y hy hcause hoff q hq => ?_⟩,
    fun hout => ?_⟩
  · rw [hfr _ out (by rw [hop]; simp)]
    exact State.freeLine_freed _
  · rw [hr']
    refine State.takeReading_same b1 b2 ⟨ha, hb', hc'⟩ ?_
    rw [hz, hz', ← he]
    exact hp
  · have hcond : b.cond = s.cond := by rw [hb]; rfl
    rw [← hcond]
    refine State.takeReading_begins b1 b2 ⟨ha, hb', hc'⟩ (by rw [hz, ← he]; exact hn) (by rw [hz']; exact hon) hr' ?_
    rw [hnow]
    exact hq
  · exact State.takeReading_ends b1 b2 ⟨ha, hb', hc'⟩ (by rw [hz, ← he]; exact hy) hcause (by rw [hz']; exact hoff) hr' hq
  · rw [State.takeReading_out hout]
    exact State.failedRead_of b1 b2

end Sys2Proof.Machine
end

section
/-! SUPPORT. A start-up begins, and what is asked while an outcome is reported (R133, R145, R148, R149). -/
namespace Sys2Proof.Machine

theorem lineFreed_congr {a b t : State} (h : a.setLine Line.reset = b.setLine Line.reset) (k : lineFreed b t) :
    lineFreed a t := by
  have e : lineFreed a = lineFreed b := by
    funext t
    exact congrArg (handedOver · t) h
  rw [e]
  exact k

/-! ## A NORMAL request without an equal one -/

theorem State.request_appended {s : State} {e : Entry} (h : s.reports) (hu : e.urgent = false)
    (hn : ∀ y ∈ s.nodes.queue, e.same y = false) (room : s.nodes.queue.length < 16) :
    s.request e = s.setQueue (s.nodes.queue ++ [e]) := by
  rw [(State.request_reports e h).1, State.joinQueue, (coalesce_none e _).2 hn]
  have hf : s.absorbedInFlight e = none := by simp [State.absorbedInFlight, h.2]
  have hr : s.nodes.queue.length < Config.queueMax := room
  simp only [hf, hr, if_true, insertEntry, hu, Bool.false_eq_true, if_false]

theorem Entry.same_false {e y : Entry} (h : ¬ (y.node = e.node ∧ y.cmd = e.cmd)) : e.same y = false := by
  rw [Bool.eq_false_iff]
  intro hs
  obtain ⟨hn, hc⟩ := (Entry.same_iff e y).1 hs
  exact h ⟨hn.symm, hc.symm⟩

/-- R135: one of the node manager's own requests, without an equal one in the queue. -/
theorem State.askOwn_appended {s : State} {n : NodeId} {c : Command} (o : Origin) (h : s.reports)
    (hn : ∀ y ∈ s.nodes.queue, ¬ (y.node = some n ∧ y.cmd = c)) (room : s.nodes.queue.length < 16) :
    s.askOwn n c o = s.setQueue (s.nodes.queue ++ [⟨some n, c, 0, false, o, []⟩]) :=
  State.request_appended h rfl (fun y hy => Entry.same_false (hn y hy)) room

theorem State.not_queued {s : State} {n : NodeId} {c : Command} (h : s.queued n c = false) :
    ∀ y ∈ s.nodes.queue, ¬ (y.node = some n ∧ y.cmd = c) := by
  intro y hy hc
  rw [(s.queued_iff n c).2 ⟨y, hy, hc⟩] at h
  simp at h

/-! ## A start-up begins -/

/-- R137: the queue as a start-up begins. -/
def startQueue (n : NodeId) (q : List Entry) : List Entry :=
  q.filter (fun e => !(decide (e.node = some n) && (decide (e.cmd = .read) || decide (e.cmd = .status))))

/-- R148: the record and the queue as a start-up begins. -/
theorem State.startingRecord_eq (s : State) (n : NodeId) (c : StartCause) (w : Nat) (step : StartStep) :
    s.startingRecord n c w step =
      (s.setQueue (startQueue n s.nodes.queue)).setNode n (startRecord s (s.node n) c w step) := rfl

theorem State.startingRecord_node (s : State) (n : NodeId) (c : StartCause) (w : Nat) (step : StartStep) :
    (s.startingRecord n c w step).node n = startRecord s (s.node n) c w step := by
  rw [State.startingRecord_eq, State.node_setNode_same]

theorem State.startingRecord_op (s : State) (n : NodeId) (c : StartCause) (w : Nat) (step : StartStep) :
    (s.startingRecord n c w step).op = s.op := rfl

theorem State.askStart_wake {s : State} {n : NodeId} (h : (s.node n).startStep = .wake) :
    s.askStart n = s.askOwn n .wake (startOrigin (s.node n).cause) := by
  simp only [State.askStart, h]

theorem State.askStart_ident {s : State} {n : NodeId} (h : (s.node n).startStep = .ident) :
    s.askStart n = s.askOwn n .ident (startOrigin (s.node n).cause) := by
  simp only [State.askStart, h]

/-- A start-up that begins while the state u is reported of, the line's record and the node's count aside. -/
theorem startBegun_none {u v : State} {n : NodeId} {r : NodeRec}
    (h : v.setLine Line.reset = ((u.setQueue (startQueue n u.nodes.queue)).setNode n r).setLine Line.reset) :
    startBegun u n r none v.freeLine := by
  rintro q rfl
  refine ⟨fun _ => lineFreed_of_eq h.symm, fun c o hc => ?_⟩
  simp at hc

theorem startBegun_asked {u v : State} {n : NodeId} {r : NodeRec} {c : Command} {o : Origin} (hv : v.reports)
    (h : v.setLine Line.reset = ((u.setQueue (startQueue n u.nodes.queue)).setNode n r).setLine Line.reset) :
    startBegun u n r (some (c, o)) (v.askOwn n c o).freeLine := by
  rintro q rfl
  refine ⟨fun hc => by simp at hc, fun c' o' hc hn hl => ?_⟩
  simp only [Option.some.injEq, Prod.mk.injEq] at hc
  obtain ⟨rfl, rfl⟩ := hc
  have hq : v.nodes.queue = startQueue n u.nodes.queue := congrArg (fun s : State => s.nodes.queue) h
  rw [State.askOwn_appended o hv (by rw [hq]; exact hn) (by rw [hq]; exact hl), hq]
  refine lineFreed_of_eq ?_
  have e := congrArg (fun s : State => s.setQueue (startQueue n u.nodes.queue ++ [⟨some n, c, 0, false, o, []⟩])) h
  exact e.symm

/-- R148: what a start-up that begins leaves, with the count of failures set to 0 before it. -/
theorem State.startingRecord_answered (s : State) (d : Time) (n : NodeId) (c : StartCause) (w : Nat)
    (step : StartStep) :
    (((s.reporting d).answeredAt n).startingRecord n c w step).setLine Line.reset =
      ((State.setQueue { s with now := max s.now d } (startQueue n s.nodes.queue)).setNode n
        (startRecord { s with now := max s.now d } { s.node n with failCount := 0 } c w step)).setLine Line.reset := by
  rw [State.startingRecord_eq, State.answeredAt_node]
  have e := State.setNode_setNode (State.setQueue (s.reporting d) (startQueue n s.nodes.queue)) n
    { s.node n with failCount := 0 }
    (startRecord { s with now := max s.now d } { s.node n with failCount := 0 } c w step)
  have freed := congrArg (State.setLine · Line.reset) e
  exact freed

theorem State.startingRecord_reports {s : State} (d : Time) (n : NodeId) (c : StartCause) (w : Nat)
    (step : StartStep) (h : s.line.phase ≠ .idle) :
    (((s.reporting d).answeredAt n).startingRecord n c w step).reports := State.reporting_reports d h

/-- R148: a start-up whose first request is a WAKE. -/
theorem State.startUp_begun {s : State} (d : Time) (n : NodeId) (c : StartCause) (h : s.line.phase ≠ .idle) :
    startBegun { s with now := max s.now d } n
      (startRecord { s with now := max s.now d } { s.node n with failCount := 0 } c 0 .wake)
      (some (.wake, startOrigin (some c))) (((s.reporting d).answeredAt n).startUp n c).freeLine := by
  rw [State.startUp, State.askStart_wake (by rw [State.startingRecord_node]; rfl), State.startingRecord_node]
  exact startBegun_asked (State.startingRecord_reports d n c 0 .wake h) (State.startingRecord_answered s d n c 0 .wake)

theorem State.startUp_op (s : State) (n : NodeId) (c : StartCause) : (s.startUp n c).op.state = s.op.state := by
  rw [State.startUp, (NodeSide.askStart _ n).op]
  rfl

end Sys2Proof.Machine
end

section
/-! SETTLES O47. Restarts, and the WAKE of a revival (R145, R149). -/
namespace Sys2Proof.Machine

/-! ## A restart (R149) -/

theorem State.outcomeOk_restart {s : State} {d : Time} {n : NodeId} {x : Txn} {st : Byte} {data : List Byte}
    (hb : (s.node n).state = .ready ∨ (s.node n).state = .busy) (hi : stInStart st = true) (hc : x.cmd ≠ .wake) :
    (s.reporting d).outcomeOk x n st data = ((s.reporting d).answeredAt n).replyRestart x n := by
  rw [State.outcomeOk_active (s := s.reporting d) x st _ hb]
  unfold State.replyActive
  rw [if_pos ⟨hi, hc⟩]

/-- R149: a restart of which no zone and no plant role hears. -/
theorem State.replyRestart_untold {s : State} {n : NodeId} {x : Txn} (hr : x.cmd ≠ .read)
    (hm : x.cmd = .move → x.origin ≠ .commission ∧ (s.node n).unplanted) :
    s.replyRestart x n = s.startUp n .restart := by
  have hf : (s.startingRecord n .restart 0 .wake).reportFailure x = s.startingRecord n .restart 0 .wake :=
    State.reportFailure_noReading (fun h => absurd h hr)
  simp only [State.replyRestart, State.startUp, hf]
  split
  · rename_i hc
    obtain ⟨ho, hp⟩ := hm hc
    rw [State.reportMove_unplanted .restarted _ ho]
    rw [State.startingRecord_node]
    exact hp
  · rfl

/-- R149, R16: a restart whose READ is told to its zone as failed, before the WAKE is asked. -/
theorem State.replyRestart_read {s : State} {n : NodeId} {x : Txn} {z : Zone} (hx : x.cmd = .read)
    (ho : x.origins = [.zone z]) (h1 : s.op.state = .run) (h2 : (s.zone z).active = true) :
    s.replyRestart x n = ((s.startingRecord n .restart 0 .wake).failedRead z).askOwn n .wake .wake := by
  have hf := State.reportFailure_zone (s := s.startingRecord n .restart 0 .wake) hx ho h1 h2
  have hm : x.cmd ≠ .move := by rw [hx]; simp
  have hn : ((s.startingRecord n .restart 0 .wake).node n).startStep = .wake ∧
      ((s.startingRecord n .restart 0 .wake).node n).cause = some .restart := by
    rw [State.startingRecord_node]
    exact ⟨rfl, rfl⟩
  have side := (ZoneSide.failedRead (s.startingRecord n .restart 0 .wake) z).recs n
  simp only [State.replyRestart, hf, hm, if_false]
  rw [State.askStart_wake (by rw [side]; exact hn.1), side, hn.2]
  rfl

/-! ## The WAKE of a revival (R145) -/

section
variable {s : State} {n : NodeId} {x : Txn} {st : Byte}

theorem State.replyOffline_fault (hf : stFault st = true) : s.replyOffline x n st = s.replyFault x n .nodeReported := by
  simp [State.replyOffline, hf]

theorem State.replyOffline_illegal (hf : stFault st = false) (hi : stInStart st = false)
    (h : stIllegal st = true ∨ stRange st = true) : s.replyOffline x n st = s.replyFault x n .illegalReply := by
  rcases h with h | h <;> simp [State.replyOffline, hf, hi, h]

theorem State.replyOffline_inStart (hf : stFault st = false) (hi : stInStart st = true) (hx : x.cmd = .wake) :
    s.replyOffline x n st = s.startingRecord n .revival 1 .wake := by
  simp [State.replyOffline, hf, hi, hx, State.revive]

theorem State.replyOffline_revives (hf : stFault st = false) (hi : stInStart st = false) (hl : stIllegal st = false)
    (hr : stRange st = false) (hx : x.cmd = .wake) :
    s.replyOffline x n st = (s.startingRecord n .revival 0 .ident).askStart n := by
  simp [State.replyOffline, hf, hi, hl, hr, hx, State.revive]

end

/-- Settles O47: a restart and a revival are start-ups that begin; a reply that faults is one of its own. -/
theorem restartAndRevival : Obligations.RestartAndRevival := by
  refine ⟨?_, ?_, ?_⟩
  · rintro s u n x st data d r h hi hx hc hb rfl rfl
    obtain ⟨t, e, ht⟩ := exec_outcomeOk h
    have hl : s.line.phase ≠ .idle := by rw [h.2.1]; simp
    have out := State.outcomeOk_restart (d := d) (data := data) hb hi hx
    have hk : ((s.reporting d).answeredAt n).node n = { s.node n with failCount := 0 } := State.answeredAt_node _ _
    refine ⟨t, e, fun hr hm => ?_, fun z hr ho h1 h2 b hbq => ?_⟩
    · rw [State.replyRestart_untold hr (fun hm' => ⟨(hm hm').1, by rw [hk]; exact (hm hm').2⟩)] at out
      rw [ht _ out (by rw [State.startUp_op]; exact hc)]
      exact State.startUp_begun d n .restart hl
    · have hbe : ((s.reporting d).answeredAt n).startingRecord n .restart 0 .wake = b := by
        rw [State.startingRecord_eq, hk, hbq]
        exact State.setNode_setNode (State.setQueue (s.reporting d) (startQueue n s.nodes.queue)) n _ _
      rw [State.replyRestart_read (s := (s.reporting d).answeredAt n) hr ho h1 h2, hbe] at out
      have b1 : b.op.state = .run := by rw [hbq]; exact h1
      have b2 : (b.zone z).active = true := by rw [hbq]; exact h2
      refine ⟨b.failedRead z, State.failedRead_of b1 b2, ?_⟩
      rw [ht _ out (by rw [(NodeSide.askOwn _ n .wake .wake).op, (ZoneSide.failedRead b z).op, hbq]; exact hc)]
      exact State.freeLine_freed _
  · rintro s u n x st data d r h hx hs hc rfl rfl
    obtain ⟨t, e, ht⟩ := exec_outcomeOk h
    have hl : s.line.phase ≠ .idle := by rw [h.2.1]; simp
    have out := State.outcomeOk_offline (s := s.reporting d) x st data hs
    have hnr : x.noReading := fun hread => by rw [hx] at hread; simp at hread
    have faults : ∀ why, why ≠ FaultReason.travelTimeout →
        ((s.reporting d).answeredAt n).replyOffline x n st = ((s.reporting d).answeredAt n).replyFault x n why →
        (s.node n).binding = none →
        lineFreed ({ s with now := max s.now d }.faulted n (faultedRecord { s.node n with failCount := 0 } why)) t := by
      intro why hw ho hb
      obtain ⟨t', e', hu, _⟩ := exec_replyFault h hc (out.trans ho) hw rfl
      obtain rfl : t = t' := by simpa using e.symm.trans e'
      exact (hu (.inl hb)).1 hnr
    refine ⟨t, e, fun hf hi => ?_, fun hf hi hl' hr => ?_, fun hf hb => ?_, fun hf hi hlr hb => ?_⟩
    · rw [State.replyOffline_inStart hf hi hx] at out
      rw [ht _ out hc]
      exact startBegun_none (State.startingRecord_answered s d n .revival 1 .wake)
    · rw [State.replyOffline_revives hf hi hl' hr hx,
        State.askStart_ident (by rw [State.startingRecord_node]; rfl), State.startingRecord_node] at out
      rw [ht _ out (by rw [(NodeSide.askOwn _ n .ident _).op]; exact hc)]
      exact startBegun_asked (State.startingRecord_reports d n .revival 0 .ident hl)
        (State.startingRecord_answered s d n .revival 0 .ident)
    · exact faults _ (by simp) (State.replyOffline_fault hf) hb
    · exact faults _ (by simp) (State.replyOffline_illegal hf hi hlr) hb
  · rintro s c d n x h hs hc
    obtain ⟨t, e, ht⟩ := exec_outcomeFailed h
    have out : (s.reporting d).outcomeFailed x n = s.reporting d := by
      have hs' : ((s.reporting d).node n).state = .offline := hs
      simp only [State.outcomeFailed, hs']
    refine ⟨t, e, ?_⟩
    rw [ht _ out hc]
    exact lineFreed_of_eq rfl

end Sys2Proof.Machine
end

section
/-! SETTLES O48. The outcomes of a retry of a node in FAULT (R147). -/
namespace Sys2Proof.Machine

section
variable {s : State} {n : NodeId} {x : Txn} {st : Byte} {data : List Byte}

theorem State.replyRetry_restarts (h : x.cmd = .nodeReset ∨ (x.cmd = .status ∧ stInStart st = true)) :
    s.replyRetry x n st data = s.startUp n .retry := by
  unfold State.replyRetry
  rcases h with h | ⟨h, hi⟩
  · rw [if_pos h]
  · rw [if_neg (by rw [h]; simp), if_pos hi]

theorem State.replyRetry_fault (hc : x.cmd ∈ [Command.status, .ident]) (hi : stInStart st = false)
    (hf : stFault st = true) : s.replyRetry x n st data = s.retryEnds n .nodeReported := by
  have hn : x.cmd ≠ .nodeReset := by rintro h; rw [h] at hc; simp at hc
  unfold State.replyRetry
  rw [if_neg hn, if_neg (by rw [hi]; simp), if_pos hf]

theorem State.replyRetry_illegal (hc : x.cmd ∈ [Command.status, .ident]) (hi : stInStart st = false)
    (hf : stFault st = false) (h : stIllegal st = true ∨ stRange st = true) :
    s.replyRetry x n st data = s.retryEnds n .illegalReply := by
  have hn : x.cmd ≠ .nodeReset := by rintro h; rw [h] at hc; simp at hc
  have hb : (stIllegal st || stRange st) = true := by rw [Bool.or_eq_true]; exact h
  unfold State.replyRetry
  rw [if_neg hn, if_neg (by rw [hi]; simp), if_neg (by rw [hf]; simp), if_pos hb]

theorem State.replyRetry_status {v g : Byte} (hc : x.cmd = .status) (hi : stInStart st = false)
    (hf : stFault st = false) (hl : stIllegal st = false) (hr : stRange st = false)
    (hv : valueFits (s.node n).kind v.toNat = true) (hg : valueFits (s.node n).kind g.toNat = true) :
    s.replyRetry x n st [v, g] = (s.setNode n
      { (s.node n).withStatus v.toNat g.toNat with retryStep := some (.ident (stBusy st)) }).askOwn n .ident .retry := by
  unfold State.replyRetry
  simp only [hc, hi, hf, hl, hr, hv, hg, Bool.false_eq_true, if_false, Bool.or_self, Bool.and_self, if_true]
  rfl

theorem State.replyRetry_ident {k ver : Byte} (hc : x.cmd = .ident) (hi : stInStart st = false)
    (hf : stFault st = false) (hl : stIllegal st = false) (hr : stRange st = false) :
    s.replyRetry x n st [k, ver] = if kindOfByte k ≠ none ∧ kindOfByte k = (s.node n).kind then s.retrySucceeds n ver
      else s.retryEnds n .kindMismatch := by
  unfold State.replyRetry
  simp only [hc, hi, hf, hl, hr, Bool.false_eq_true, if_false, Bool.or_self]
  rfl

end

/-- R147: the record as the IDENT of a CHECK has found the node's kind. -/
def NodeRec.retried (r : NodeRec) (ver : Byte) : NodeRec :=
  { r with faultReason := none, retryStep := none, version := some ver }

theorem State.retrySucceeds_busy {s : State} {n : NodeId} (ver : Byte)
    (h : (s.node n).retryStep = some (.ident true)) (hq : s.queued n .move = false) :
    s.retrySucceeds n ver =
      s.setNode n { busyRecord s ((s.node n).retried ver) with busyFromFault := true } := by
  have e : s.retrySucceeds n ver = (s.setNode n ((s.node n).retried ver)).enterBusy n true := by
    unfold State.retrySucceeds
    simp only [h, decide_true, if_true]
    rfl
  rw [e, State.enterBusy_unqueued (s := s.setNode n ((s.node n).retried ver)) true hq, State.node_setNode_same,
    State.setNode_setNode]
  rfl

theorem State.retrySucceeds_ready {s : State} {n : NodeId} (ver : Byte)
    (h : (s.node n).retryStep ≠ some (.ident true)) :
    s.retrySucceeds n ver =
      (s.setNode n { (s.node n).retried ver with state := .ready }).readyNotice n .fault none := by
  unfold State.retrySucceeds
  simp only [h, decide_false, Bool.false_eq_true, if_false, State.modNode, State.node_setNode_same,
    State.setNode_setNode]
  rfl

/-! ## A return is told to the owner (R19) -/

theorem State.readyNotice_unowned {s : State} {n : NodeId} (left : NodeState) (c : Option StartCause)
    (h : (s.node n).binding = none) : s.readyNotice n left c = s := by
  simp only [State.readyNotice, h]

/-- R19: the zone of a valve, damper or blower that returns from OFFLINE or FAULT is evaluated. -/
theorem State.readyNotice_return {s : State} {n : NodeId} {z : Zone} {role : ZoneRole} {left : NodeState}
    {c : Option StartCause} (hb : (s.node n).binding = some (.zone z role)) (hr : role ≠ .sensor)
    (hc : s.op.state ≠ .commissioning) (hret : isReturn left c = true) : s.readyNotice n left c = s.evaluate z := by
  simp only [State.readyNotice, hb, State.zoneNodeReady, hr, hc, or_self, if_false, hret, if_true]

/-- Settles O48: each row of the retry's outcomes is computed. -/
theorem retryReplies : Obligations.RetryReplies := by
  refine ⟨?_, ?_⟩
  · rintro s u n x st data d r h hs hr hc rfl hrec
    obtain ⟨t, e, ht⟩ := exec_outcomeOk h
    have hl : s.line.phase ≠ .idle := by rw [h.2.1]; simp
    have out := State.outcomeOk_fault (s := s.reporting d) st data hs hr
    have hk : ((s.reporting d).answeredAt n).node n = r := by
      rw [hrec]
      exact State.answeredAt_node _ _
    have finish : ∀ w : State, (s.reporting d).outcomeOk x n st data = w → w.op = s.op → t = w.freeLine :=
      fun w e ho => ht w e (by rw [ho]; exact hc)
    have ends : ∀ why, (((s.reporting d).answeredAt n).retryEnds n why) =
        (s.reporting d).setNode n { r with faultReason := some why, retryStep := none } := by
      intro why
      rw [State.retryEnds, State.modNode, hk, State.answeredAt_setNode]
    refine ⟨t, e, fun hx => ?_, fun hx hi => ⟨fun hf => ?_, fun hf hlr => ?_⟩, fun hi hf hl' hrg =>
      ⟨fun v g hx hdata hk' hv hg hq room => ?_, fun k ver hx hdata => ?_⟩⟩
    · rw [State.replyRetry_restarts hx] at out
      rw [ht _ out (by rw [State.startUp_op]; exact hc), hrec]
      exact State.startUp_begun d n .retry hl
    · rw [State.replyRetry_fault hx hi hf, ends] at out
      rw [finish _ out rfl]
      exact lineFreed_of_eq rfl
    · rw [State.replyRetry_illegal hx hi hf hlr, ends] at out
      rw [finish _ out rfl]
      exact lineFreed_of_eq rfl
    · have hst : r.withStatus v.toNat g.toNat = { r with value := some (.num v.toNat), nodeTarget := some g.toNat } := by
        rw [NodeRec.withStatus_eq, if_neg hk']
      rw [hdata, State.replyRetry_status hx hi hf hl' hrg (by rw [hk]; exact hv) (by rw [hk]; exact hg), hk,
        State.answeredAt_setNode, hst, State.askOwn_appended (s := (s.reporting d).setNode n _) .retry
          (State.reporting_reports d hl) (State.not_queued hq) room, ← hdata] at out
      rw [finish _ out rfl]
      exact lineFreed_of_eq rfl
    · rw [hdata, State.replyRetry_ident hx hi hf hl' hrg, hk, ← hdata] at out
      refine ⟨fun hkind => ?_, fun f hkind hne hfq => ?_⟩
      · have hno : ¬ (kindOfByte k ≠ none ∧ kindOfByte k = r.kind) := by
          rintro ⟨h1, h2⟩
          rcases hkind with hkind | hkind
          · exact hkind h2
          · exact h1 (h2.trans hkind)
        rw [if_neg hno, ends] at out
        rw [finish _ out rfl]
        exact lineFreed_of_eq rfl
      · rw [if_pos ⟨by rw [hkind]; exact hne, hkind⟩] at out
        have hf' : r.retried ver = f := hfq.symm
        have ready : r.retryStep ≠ some (.ident true) → (s.reporting d).outcomeOk x n st data =
            ((s.reporting d).setNode n { f with state := .ready }).readyNotice n .fault none := by
          intro hstep
          rw [out, State.retrySucceeds_ready ver (by rw [hk]; exact hstep), hk, hf', State.answeredAt_setNode]
        have hb' : (((s.reporting d).setNode n { f with state := .ready }).node n).binding = r.binding := by
          rw [State.node_setNode_same, hfq]
        refine ⟨fun hstep hq => ?_, fun hstep hb => ?_, fun hstep z role hb hrole h1 h2 => ?_⟩
        · rw [State.retrySucceeds_busy (s := (s.reporting d).answeredAt n) ver (by rw [hk]; exact hstep) hq, hk, hf', State.answeredAt_setNode] at out
          rw [finish _ out rfl]
          exact lineFreed_of_eq rfl
        · have out := (ready hstep).trans (State.readyNotice_unowned _ _ (hb'.trans hb))
          rw [finish _ out rfl]
          exact lineFreed_of_eq rfl
        · have out := (ready hstep).trans (State.readyNotice_return (hb'.trans hb) hrole hc rfl)
          refine ⟨_, State.evaluate_evaluated _ z h1 h2, ?_⟩
          rw [ht _ out (by rw [(ZoneSide.evaluate _ z).opState]; exact hc)]
          exact State.freeLine_freed _
  · rintro s c d n x h hs hr hc
    obtain ⟨t, e, ht⟩ := exec_outcomeFailed h
    have out : (s.reporting d).outcomeFailed x n = (s.reporting d).setNode n { s.node n with retryStep := none } := by
      have hs' : ((s.reporting d).node n).state = .fault := hs
      have hr' : x.origins.contains .retry = true := by simpa using hr
      simp only [State.outcomeFailed, hs', hr', if_true]
      rfl
    refine ⟨t, e, ?_⟩
    rw [ht _ out hc]
    exact lineFreed_of_eq rfl

end Sys2Proof.Machine
end

section
/-! SETTLES O40. Attempts that fail, and the third failure in a row (R117, R118, R144, R151, R88, R105). -/
namespace Sys2Proof.Machine

/-! ## The second failure of a READY or BUSY node (R144) -/

/-- R144: the record with one more failure counted. -/
def NodeRec.failedOnce (r : NodeRec) : NodeRec := { r with failCount := r.failCount + 1 }

/-- R144: the state in which the outcome of a failed transaction is reported. -/
def State.failedAt (s : State) (n : NodeId) : State :=
  if (s.node n).failCount < 2 then s.setNode n (s.node n).failedOnce
  else s.downAt n (offlinedRecord s (s.node n).failedOnce)

/-- R16, R134: the report of a failed transaction. -/
def State.failureReported (s : State) (x : Txn) (n : NodeId) : State :=
  if x.cmd = .move then (s.reportFailure x).reportMove x n .failed else s.reportFailure x

theorem State.failedActive_eq (s : State) (x : Txn) (n : NodeId) {w : State}
    (hw : w = s.setNode n (s.node n).failedOnce) :
    s.failedActive x n =
      if Config.failLimit ≤ (w.node n).failCount then ((w.offlineRecord n).failureReported x n).offlineNotices n
      else w.failureReported x n := by
  have e : s.failedActive x n =
      (if decide (Config.failLimit ≤ (w.node n).failCount) = true then
        (State.failureReported
          (if decide (Config.failLimit ≤ (w.node n).failCount) = true then w.offlineRecord n else w) x n).offlineNotices n
      else State.failureReported
          (if decide (Config.failLimit ≤ (w.node n).failCount) = true then w.offlineRecord n else w) x n) := by
    rw [hw]
    rfl
  rw [e]
  by_cases h : Config.failLimit ≤ (w.node n).failCount
  · simp only [h, decide_true, if_true]
  · simp only [h, decide_false, Bool.false_eq_true, if_false]

theorem State.offlineRecord_eq (s : State) (n : NodeId) :
    s.offlineRecord n = s.downAt n (offlinedRecord s (s.node n)) := by
  unfold State.offlineRecord
  dsimp only
  rw [State.dropEntries_all]
  rfl

theorem State.downAt_setNode (s : State) (n : NodeId) (r r' : NodeRec) : (s.setNode n r).downAt n r' = s.downAt n r' :=
  State.setNode_setNode { s with nodes := { s.nodes with queue := s.nodes.queue.filter (fun e => e.node ≠ some n) } } n
    r r'

theorem State.outcomeFailed_active {s : State} {n : NodeId} (x : Txn)
    (h : (s.node n).state = .ready ∨ (s.node n).state = .busy) :
    s.outcomeFailed x n =
      if (s.node n).failCount < 2 then (s.failedAt n).failureReported x n
      else ((s.failedAt n).failureReported x n).offlineNotices n := by
  have e : s.outcomeFailed x n = s.failedActive x n := by
    rcases h with h | h <;> simp only [State.outcomeFailed, h]
  have hdown : (s.setNode n (s.node n).failedOnce).offlineRecord n =
      s.downAt n (offlinedRecord s (s.node n).failedOnce) := by
    rw [State.offlineRecord_eq, State.node_setNode_same, State.downAt_setNode]
    rfl
  rw [e, State.failedActive_eq s x n rfl, State.node_setNode_same, hdown]
  have hlim : Config.failLimit ≤ (s.node n).failedOnce.failCount ↔ ¬ (s.node n).failCount < 2 := by
    show 3 ≤ (s.node n).failCount + 1 ↔ _
    omega
  by_cases hlt : (s.node n).failCount < 2
  · rw [if_neg (by rw [hlim]; exact fun h => h hlt), if_pos hlt, State.failedAt, if_pos hlt]
  · rw [if_pos (hlim.2 hlt), if_neg hlt, State.failedAt, if_neg hlt]

/-! ## What a report of a failure does -/

theorem State.failureReported_untold {s : State} {x : Txn} {n : NodeId} (hr : x.noReading)
    (hm : x.cmd = .move → x.origin ≠ .commission ∧ (s.node n).unplanted) : s.failureReported x n = s := by
  unfold State.failureReported
  rw [State.reportFailure_noReading hr]
  split
  · rename_i hc
    exact State.reportMove_unplanted _ (hm hc).2 (hm hc).1
  · rfl

theorem State.failureReported_read {s : State} {x : Txn} {n : NodeId} {z : Zone} (hc : x.cmd = .read)
    (ho : x.origins = [.zone z]) (h1 : s.op.state = .run) (h2 : (s.zone z).active = true) :
    s.failureReported x n = s.failedRead z := by
  unfold State.failureReported
  rw [State.reportFailure_zone hc ho h1 h2, if_neg (by rw [hc]; simp)]

/-- R79, R98, R104: a report on a plant node that is not READY changes nothing at the plant controller. -/
theorem State.plantMoved_failed {s : State} {n : NodeId} (role : PlantRole) (x : Txn) (h : (s.node n).state = .offline) :
    s.plantMoved n role x .failed = s := by
  have hset : s.settled n = false := by simp [State.settled, h]
  have hseq : s.seqReport n = s := by simp [State.seqReport, hset]
  have hwatch : s.watchReport n = s := by simp [State.watchReport, h]
  have hstop : s.heaterStopReport n .plant = s := by simp [State.heaterStopReport, hset]
  have hign : s.ignitionReport n = s := by simp [State.ignitionReport, hset, h]
  have hheat : s.heaterReport n = s := by
    unfold State.heaterReport
    split
    · exact hign
    · exact hstop
    all_goals rfl
  cases role with
  | compressor => simp [State.plantMoved, hseq, hwatch]
  | auxHeater => simp [State.plantMoved, hheat]
  | intake => rfl

/-- R134, R151: the report of a failed MOVE of a node that has entered OFFLINE. -/
theorem State.failureReported_down {s : State} {x : Txn} {n : NodeId} (hr : x.noReading)
    (h : (s.node n).state = .offline) (hc : s.op.state ≠ .commissioning) : s.failureReported x n = s := by
  unfold State.failureReported
  rw [State.reportFailure_noReading hr]
  split
  · unfold State.reportMove
    split
    all_goals
      simp only [State.plantMoved_failed _ _ h]
      split
      · exact State.opMoved_outside n _ hc
      · rfl
  · rfl

/-! ## The notices of an entry to OFFLINE (R144, R151) -/

theorem State.offlineNotices_untold {s : State} {n : NodeId} (hb : (s.node n).untold) (hc : s.op.state ≠ .commissioning) :
    s.offlineNotices n = s.offlineRaised n := by
  rw [State.offlineNotices, State.downNotice_untold hb]
  exact State.opNodeDown_outside n hc

theorem State.offlineNotices_zone {s : State} {n : NodeId} {z : Zone} {role : ZoneRole}
    (hb : (s.node n).binding = some (.zone z role)) (hr : role ≠ .sensor) (h1 : s.op.state = .run)
    (h2 : (s.zone z).active = true) :
    ∃ v, zoneToldDown s z v ∧ s.offlineNotices n = v.offlineRaised n ∧ v.op.state = .run := by
  obtain ⟨hv, ho⟩ := State.downNotice_zone hb hr h1 h2
  refine ⟨_, hv, ?_, ho⟩
  rw [State.offlineNotices]
  exact State.opNodeDown_outside (s := (s.downNotice n).raise _ _) n (by rw [State.raise_op, ho]; simp)

/-! ## What the notices of an arbiter event leave of the sequencer and the heater (R69) -/

theorem State.plantMove_plant (s : State) (n : Option NodeId) (a : Nat) (o : Origin) :
    (s.plantMove n a o).plant = s.plant := (NodeSide.plantMove s n a o).plant

theorem State.heaterStart_seq (s : State) : s.heaterStart.plant.seq = s.plant.seq := by
  unfold State.heaterStart
  split
  · have e := congrArg Plant.seq (s.plantMove_plant s.plant.defn.auxHeater 1 .plant)
    exact e
  · rfl

theorem State.testStopDelay_seq (s : State) : s.testStopDelay.plant.seq = s.plant.seq := by
  unfold State.testStopDelay
  repeat' split
  all_goals rfl

theorem State.hearHeat_seq (s : State) (b : Arbiter) : (s.hearHeat b).plant.seq = s.plant.seq := by
  unfold State.hearHeat
  dsimp only
  split
  · rfl
  · split
    · rw [State.heaterStart_seq, State.testStopDelay_seq]
      rfl
    · rw [State.testStopDelay_seq]
      rfl

/-- The sequencer is in no state in which it takes a COOL notice into a decision (R80, R81, R83). -/
def Seq.deaf (q : Seq) : Prop := q ≠ .off ∧ ∀ k, q ≠ .running k

theorem State.testHold_deaf {s : State} (h : s.plant.seq.state.deaf) : s.testHold = s := by
  unfold State.testHold
  split
  · rename_i k hk
    exact absurd hk (h.2 k)
  · rfl

theorem State.seqRise_deaf {s : State} (h : s.plant.seq.state.deaf) : s.seqRise = s := by
  unfold State.seqRise
  split
  · rename_i hk
    exact absurd hk h.1
  · rename_i k hk
    exact absurd hk (h.2 k)
  · rfl

/-- R69: with its sequencer in FAULT, LOCKOUT or a step in flight, a COOL notice is the view alone. -/
theorem State.hearCool_deaf {s : State} (b : Arbiter) (h : s.plant.seq.state.deaf) :
    s.hearCool b = if b.cool.view = s.arb.cool.view then s
      else s.setPlant { s.plant with viewCool := s.arb.cool.view } := by
  have hold := State.testHold_deaf (s := s.setPlant { s.plant with viewCool := s.arb.cool.view }) h
  have rise := State.seqRise_deaf (s := s.setPlant { s.plant with viewCool := s.arb.cool.view }) h
  unfold State.hearCool
  dsimp only
  rw [hold, rise, ite_self]

theorem State.seqRise_heater (s : State) : s.seqRise.plant.heater = s.plant.heater := by
  unfold State.seqRise
  split
  · split
    · have e := congrArg Plant.heater (s.plantMove_plant s.plant.defn.compressor 1 .plant)
      exact e
    · rfl
  · rename_i k _
    split
    · have e := congrArg Plant.heater (s.plantMove_plant s.plant.defn.compressor (k + 1) .plant)
      exact e
    · rfl
  · rfl

theorem State.testHold_heater (s : State) : s.testHold.plant.heater = s.plant.heater := by
  unfold State.testHold
  repeat' split
  all_goals rfl

theorem State.hearCool_heater (s : State) (b : Arbiter) : (s.hearCool b).plant.heater = s.plant.heater := by
  unfold State.hearCool
  dsimp only
  split
  · rfl
  · split
    · rw [State.seqRise_heater, State.testHold_heater]
      rfl
    · rw [State.testHold_heater]
      rfl

/-- R96, R102: with its heater OFF and no aux node READY, a HEAT notice is the view alone. -/
theorem State.hearHeat_off {s : State} (b : Arbiter) (h : s.plant.heater.state = .off) (hr : s.auxReady = false) :
    s.hearHeat b = if b.heat.view = s.arb.heat.view then s
      else s.setPlant { s.plant with viewHeat := s.arb.heat.view } := by
  have delay : (s.setPlant { s.plant with viewHeat := s.arb.heat.view }).testStopDelay =
      s.setPlant { s.plant with viewHeat := s.arb.heat.view } := by
    unfold State.testStopDelay
    refine if_neg (fun hc => ?_)
    have hc : s.plant.heater.state = .running := hc
    rw [h] at hc
    simp at hc
  have start : (s.setPlant { s.plant with viewHeat := s.arb.heat.view }).heaterStart =
      s.setPlant { s.plant with viewHeat := s.arb.heat.view } := by
    unfold State.heaterStart
    refine if_neg (fun hc => ?_)
    have hc : s.auxReady = true := hc.2.2.2.1
    rw [hr] at hc
    simp at hc
  unfold State.hearHeat
  dsimp only
  rw [delay, start, ite_self]

/-! ## The notices of a capacity write -/

theorem State.grantNotices_plant (s : State) (b : Arbiter) (z : Option Zone) :
    (s.grantNotices b z).plant = s.plant := (NodeSide.grantNotices s b z).plant

theorem State.notices_seq {s : State} (b : Arbiter) (z : Option Zone) (h : s.plant.seq.state.deaf) :
    (s.notices b z).plant.seq = s.plant.seq := by
  have hs : ((s.grantNotices b z).hearHeat b).plant.seq = s.plant.seq :=
    (State.hearHeat_seq _ b).trans (congrArg Plant.seq (s.grantNotices_plant b z))
  unfold State.notices
  dsimp only
  rw [State.hearCool_deaf b (by rw [hs]; exact h)]
  split
  · exact hs
  · exact hs

theorem State.notices_heater {s : State} (b : Arbiter) (z : Option Zone) (h : s.plant.heater.state = .off)
    (hr : s.auxReady = false) : (s.notices b z).plant.heater = s.plant.heater := by
  have side := NodeSide.grantNotices s b z
  have hr' : (s.grantNotices b z).auxReady = false := by
    have hn : ∀ n, ((s.grantNotices b z).node n).state = (s.node n).state := fun n => by rw [side.recs n]
    unfold State.auxReady State.readyNode at hr ⊢
    rw [side.plant]
    split
    · rfl
    · rename_i m hm
      rw [hm] at hr
      rw [hn]
      exact hr
  unfold State.notices
  dsimp only
  rw [State.hearCool_heater, State.hearHeat_off b (by rw [side.plant]; exact h) hr']
  have e := congrArg Plant.heater side.plant
  split
  · exact e
  · exact e

theorem State.writeCapacity_seq {s : State} (i : PoolId) (v : Nat) (h : s.plant.seq.state.deaf) :
    (s.writeCapacity i v).plant.seq = s.plant.seq := by
  unfold State.writeCapacity
  split
  · rfl
  · exact State.notices_seq (s := s.setArb _) _ none h

theorem State.writeCapacity_heater {s : State} (i : PoolId) (v : Nat) (h : s.plant.heater.state = .off)
    (hr : s.auxReady = false) : (s.writeCapacity i v).plant.heater = s.plant.heater := by
  unfold State.writeCapacity
  split
  · rfl
  · exact State.notices_heater (s := s.setArb _) _ none h hr

/-! ## The owner that is the plant controller (R88, R105) -/

/-- R88: the sequencer enters FAULT, and COOL capacity falls to 0. -/
theorem State.seqFault_faulted (s : State) (n : NodeId) : sequencerFaulted s n (s.seqFault n) := by
  have hcap : (s.enterSeq .fault).coolCapacity = 0 := by
    show s.plant.defn.firstStages (min 0 _) = 0
    rw [Nat.zero_min]
    rfl
  have hseq : (s.enterSeq .fault).refreshCool.plant.seq = (s.enterSeq .fault).plant.seq :=
    State.writeCapacity_seq _ _ ⟨by simp [State.enterSeq, State.setSequencer], by simp [State.enterSeq, State.setSequencer]⟩
  have harb := State.writeCapacity_capacity (s.enterSeq .fault) .cool (s.enterSeq .fault).coolCapacity
  have side := ShareSide.refreshCool (s.enterSeq .fault)
  refine ⟨?_, ?_, ?_, ?_⟩
  · show (s.enterSeq .fault).refreshCool.plant.seq.state = .fault
    rw [hseq]
    rfl
  · exact harb.trans hcap
  · show (s.enterSeq .fault).refreshCool.plant.seq.lockoutTimer = none
    rw [hseq]
    rfl
  · show Sticky.mk true (min 255 ((s.enterSeq .fault).refreshCool.cond.compFault.count + 1)) (some n.address) = _
    rw [side.cond]
    rfl

/-- R105: the heater when its node has gone down, by the state it was in. -/
theorem State.heaterNodeDown_lost {s : State} {n : NodeId} (h : s.plant.defn.auxHeater = some n)
    (hn : (s.node n).state ≠ .ready) : heaterNodeLost s s.heaterNodeDown := by
  have hready : s.auxReady = false := by
    unfold State.auxReady State.readyNode
    rw [h]
    simpa using hn
  have hoff : (s.enterHeater .off).refreshHeat.plant.heater = s.plant.heater.still .off :=
    State.writeCapacity_heater .heat _ rfl hready
  refine ⟨fun hs => ?_, fun hs => ?_, fun hs => ?_⟩
  · simp only [List.mem_cons, List.not_mem_nil, or_false] at hs
    rcases hs with hs | hs | hs
    · simp only [State.heaterNodeDown, hs]
      rfl
    · simp only [State.heaterNodeDown, hs]
      exact hoff
    · simp only [State.heaterNodeDown, hs]
      rfl
  · simp only [State.heaterNodeDown, hs]
    exact State.writeCapacity_capacity (s.enterHeater .off) .heat _
  · simp only [List.mem_cons, List.not_mem_nil, or_false] at hs
    rcases hs with hs | hs | hs <;> simp only [State.heaterNodeDown, hs]

/-- R164: a report that the plant is at rest changes the part's state alone, and STOPPED with it. -/
theorem State.restReport_cases (s : State) : s.restReport = s ∨ s.restReport = s.enterPart .stopped := by
  unfold State.restReport
  split
  · exact .inr rfl
  · exact .inl rfl

theorem State.restReport_plant (s : State) : s.restReport.plant = s.plant := by
  rcases s.restReport_cases with e | e <;> rw [e] <;> rfl

theorem State.restReport_arb (s : State) : s.restReport.arb = s.arb := by
  rcases s.restReport_cases with e | e <;> rw [e] <;> rfl

theorem State.restReport_compFault (s : State) : s.restReport.cond.compFault = s.cond.compFault := by
  rcases s.restReport_cases with e | e <;> rw [e] <;> rfl

/-- What a notice to the plant controller that a node is down leaves as it was. -/
structure DownSide (s t : State) : Prop where
  state : ∀ m, (t.node m).state = (s.node m).state
  offline : t.cond.nodeOffline = s.cond.nodeOffline
  part : t.op.state = s.op.state ∨ t.op.state = .stopped

theorem DownSide.refl (s : State) : DownSide s s := ⟨fun _ => rfl, rfl, .inl rfl⟩

theorem DownSide.ofShare {s t : State} (h : ShareSide s t) : DownSide s t :=
  ⟨fun m => by rw [h.recs m], by rw [h.cond], .inl (by rw [h.op])⟩

theorem DownSide.restReport {s t : State} (h : DownSide s t) : DownSide s t.restReport := by
  rcases t.restReport_cases with e | e
  · rwa [e]
  · rw [e]
    exact ⟨h.state, h.offline, .inr rfl⟩

theorem DownSide.plantNodeDown (s : State) (n : NodeId) (role : PlantRole) : DownSide s (s.plantNodeDown n role) := by
  cases role with
  | compressor =>
    unfold State.plantNodeDown
    dsimp only
    split
    · exact DownSide.refl s
    · have side := DownSide.ofShare ((ShareSide.ofPlant (PlantSide.enterSeq s .fault)).trans (ShareSide.refreshCool _))
      exact DownSide.restReport ⟨side.state, side.offline, side.part⟩
  | auxHeater =>
    refine DownSide.restReport ?_
    unfold State.heaterNodeDown
    split
    · exact DownSide.ofShare (ShareSide.ofPlant (PlantSide.enterHeater s _))
    · exact DownSide.ofShare ((ShareSide.ofPlant (PlantSide.enterHeater s _)).trans (ShareSide.refreshHeat _))
    · exact DownSide.ofShare (ShareSide.ofPlant (PlantSide.enterHeater s _))
    all_goals exact DownSide.refl s
  | intake => exact DownSide.refl s

theorem State.offlineNotices_plant {s : State} {n : NodeId} {role : PlantRole}
    (hb : (s.node n).binding = some (.plant role)) (hc : s.op.state ≠ .commissioning) :
    s.offlineNotices n = (s.plantNodeDown n role).offlineRaised n ∧
      (s.plantNodeDown n role).op.state ≠ .commissioning := by
  have hd : s.downNotice n = s.plantNodeDown n role := by simp only [State.downNotice, hb]
  have hop : (s.plantNodeDown n role).op.state ≠ .commissioning := by
    rcases (DownSide.plantNodeDown s n role).part with h | h
    · rw [h]
      exact hc
    · rw [h]
      simp
  refine ⟨?_, hop⟩
  rw [State.offlineNotices, hd]
  exact State.opNodeDown_outside n hop

/-! ## The obligation -/

/-- R117, R118: the end of an attempt in failure, by the number of the attempt. -/
theorem exec_attempts {s : State} {c : Instr} {p : LinePhase} {k : FailKind} {d : Time} {x : Txn}
    (hh : s.held = false) (hf : s.attemptFails c p k) (hp : s.line.phase = p) (hd : s.endsAt d)
    (hx : s.line.txn = some x) :
    (x.attempt < 2 → exec c s = .next { s with
      now := max s.now d
      line :=
        { phase := .gap, txn := some { x with attempt := 2, firstFail := some k }
          timer := some (max s.now d + 2 * Config.charTime), replyStart := none, chars := [], cut := false } }) ∧
    (2 ≤ x.attempt → exec c s = .next (State.deliver { s with now := max s.now d } x (.failed x.firstFail k))) := by
  have e := exec_attemptFails hh hx hf hp hd
  refine ⟨fun ha => ?_, fun ha => ?_⟩
  · rw [e, State.attemptFailed_first (s := { s with now := max s.now d }) k hx ha]
  · rw [e, State.attemptFailed_second (s := { s with now := max s.now d }) k hx ha]

/-- R144: the record at the entry to OFFLINE, as the statement writes it. -/
theorem State.failedAt_down {s : State} {n : NodeId} (h : ¬ (s.node n).failCount < 2) :
    s.failedAt n = s.downAt n (offlinedRecord s (s.node n).failedOnce) := by
  rw [State.failedAt, if_neg h]

theorem State.failedAt_kept {s : State} {n : NodeId} (h : (s.node n).failCount < 2) :
    s.failedAt n = s.setNode n (s.node n).failedOnce := by
  rw [State.failedAt, if_pos h]

theorem State.failedAt_binding (s : State) (n : NodeId) : ((s.failedAt n).node n).binding = (s.node n).binding := by
  unfold State.failedAt
  split
  · rw [State.node_setNode_same]
    rfl
  · rw [State.downAt_node]
    rfl

theorem State.failedAt_op (s : State) (n : NodeId) : (s.failedAt n).op = s.op := by
  unfold State.failedAt
  split <;> rfl

theorem State.failedAt_zone (s : State) (n : NodeId) (z : Zone) : (s.failedAt n).zone z = s.zone z := by
  unfold State.failedAt
  split <;> rfl

end Sys2Proof.Machine
end

section
/-! SETTLES O40: the obligation from the rows of the second failure. -/
namespace Sys2Proof.Machine

section
variable {s t : State} {c : Instr} {d : Time} {x : Txn} {n : NodeId}

/-- R144: what the second failure leaves where no owner but a zone hears of it. -/
theorem failedTwice_rows {r : NodeRec} (hb : (s.node n).state = .ready ∨ (s.node n).state = .busy)
    (hc : s.op.state ≠ .commissioning) (hr : r = { s.node n with failCount := (s.node n).failCount + 1 })
    (ht : ∀ v, (s.reporting d).outcomeFailed x n = v → v.op.state ≠ .commissioning → t = v.freeLine) :
    (x.cmd ≠ .read → (x.cmd = .move → x.origin ≠ .commission ∧ ∀ role, (s.node n).binding ≠ some (.plant role)) →
      ((s.node n).failCount < 2 → lineFreed (State.setNode { s with now := max s.now d } n r) t) ∧
      (2 ≤ (s.node n).failCount → ((s.node n).binding = none ∨ ∃ z, (s.node n).binding = some (.zone z .sensor)) →
        lineFreed (State.offlined { s with now := max s.now d } n r) t) ∧
      (2 ≤ (s.node n).failCount → s.op.state = .run → ∀ z role, (s.node n).binding = some (.zone z role) →
        role ≠ .sensor → (s.zone z).active = true →
        ∃ v, zoneToldDown ((s.reporting d).downAt n (offlinedRecord { s with now := max s.now d } r)) z v ∧
          lineFreed (v.offlineRaised n) t)) := by
  intro hread hmove
  have out := State.outcomeFailed_active (s := s.reporting d) x hb
  have hnr : x.noReading := fun h => absurd h hread
  have hrep : ((s.reporting d).failedAt n).failureReported x n = (s.reporting d).failedAt n :=
    State.failureReported_untold hnr (fun hm => ⟨(hmove hm).1, by
      unfold NodeRec.unplanted
      rw [State.failedAt_binding]
      exact (hmove hm).2⟩)
  rw [hrep] at out
  have hop : ((s.reporting d).failedAt n).op.state ≠ .commissioning := by rw [State.failedAt_op]; exact hc
  have hr' : ((s.reporting d).node n).failedOnce = r := hr.symm
  refine ⟨fun hlt => ?_, fun hge hu => ?_, fun hge h1 z role hbind hrole h2 => ?_⟩
  · have hlt' : ((s.reporting d).node n).failCount < 2 := hlt
    rw [if_pos hlt'] at out
    rw [ht _ out hop, State.failedAt_kept hlt', hr']
    exact lineFreed_of_eq rfl
  · have hge' : ¬ ((s.reporting d).node n).failCount < 2 := Nat.not_lt.2 hge
    rw [if_neg hge', State.offlineNotices_untold (by
      unfold NodeRec.untold
      rw [State.failedAt_binding]
      exact hu) hop] at out
    rw [ht _ out hop, State.failedAt_down hge', hr']
    exact lineFreed_of_eq rfl
  · have hge' : ¬ ((s.reporting d).node n).failCount < 2 := Nat.not_lt.2 hge
    obtain ⟨v, hv, e, ho⟩ := State.offlineNotices_zone (s := (s.reporting d).failedAt n) (n := n) (z := z) (role := role)
      (by rw [State.failedAt_binding]; exact hbind) hrole (by rw [State.failedAt_op]; exact h1)
      (by rw [State.failedAt_zone]; exact h2)
    rw [if_neg hge', e] at out
    rw [State.failedAt_down hge', hr'] at hv
    refine ⟨v, hv, ?_⟩
    rw [ht _ out (by show v.op.state ≠ _; rw [ho]; simp)]
    exact State.freeLine_freed _

/-- R16, R144: a READ that fails is a failed read of the zone that asked, before the node's owner hears. -/
theorem failedTwice_read {r : NodeRec} {z : Zone} (hb : (s.node n).state = .ready ∨ (s.node n).state = .busy)
    (hr : r = { s.node n with failCount := (s.node n).failCount + 1 })
    (ht : ∀ v, (s.reporting d).outcomeFailed x n = v → v.op.state ≠ .commissioning → t = v.freeLine)
    (hx : x.cmd = .read) (ho : x.origins = [.zone z]) (h1 : s.op.state = .run) (h2 : (s.zone z).active = true) :
    ((s.node n).failCount < 2 → ∃ v, failedReadOf ((s.reporting d).setNode n r) z v ∧ lineFreed v t) ∧
    (2 ≤ (s.node n).failCount → ((s.node n).binding = none ∨ ∃ z, (s.node n).binding = some (.zone z .sensor)) →
      ∃ v, failedReadOf ((s.reporting d).downAt n (offlinedRecord { s with now := max s.now d } r)) z v ∧
        lineFreed (v.offlineRaised n) t) := by
  have out := State.outcomeFailed_active (s := s.reporting d) x hb
  have w1 : ((s.reporting d).failedAt n).op.state = .run := by rw [State.failedAt_op]; exact h1
  have w2 : (((s.reporting d).failedAt n).zone z).active = true := by rw [State.failedAt_zone]; exact h2
  rw [State.failureReported_read hx ho w1 w2] at out
  have side := ZoneSide.failedRead ((s.reporting d).failedAt n) z
  have hv := State.failedRead_of w1 w2
  have hop : (State.failedRead ((s.reporting d).failedAt n) z).op.state ≠ .commissioning := by
    rw [side.opState, w1]
    simp
  have hr' : ((s.reporting d).node n).failedOnce = r := hr.symm
  refine ⟨fun hlt => ?_, fun hge hu => ?_⟩
  · have hlt' : ((s.reporting d).node n).failCount < 2 := hlt
    rw [if_pos hlt'] at out
    refine ⟨_, ?_, by rw [ht _ out hop]; exact State.freeLine_freed _⟩
    rw [State.failedAt_kept hlt', hr'] at hv ⊢
    exact hv
  · have hge' : ¬ ((s.reporting d).node n).failCount < 2 := Nat.not_lt.2 hge
    rw [if_neg hge', State.offlineNotices_untold (by
      unfold NodeRec.untold
      rw [side.binding, State.failedAt_binding]
      exact hu) hop] at out
    refine ⟨_, ?_, by rw [ht _ out hop]; exact State.freeLine_freed _⟩
    rw [State.failedAt_down hge', hr'] at hv ⊢
    exact hv

/-- R88, R105, R144: the third failure in a row of a plant node. -/
theorem failedTwice_plant {r : NodeRec} {role : PlantRole}
    (hb : (s.node n).state = .ready ∨ (s.node n).state = .busy) (hc : s.op.state ≠ .commissioning)
    (hr : r = { s.node n with failCount := (s.node n).failCount + 1 })
    (ht : ∀ v, (s.reporting d).outcomeFailed x n = v → v.op.state ≠ .commissioning → t = v.freeLine)
    (hnr : x.noReading) (hge : 2 ≤ (s.node n).failCount) (hbind : (s.node n).binding = some (.plant role)) :
    ((t.node n).state = .offline ∧
      t.cond.nodeOffline = ⟨true, min 255 (s.cond.nodeOffline.count + 1), some n.address⟩) ∧
    (role = .compressor → s.plant.seq.state ≠ .fault → sequencerFaulted s n t) ∧
    (role = .compressor → s.plant.seq.state = .fault → s.op.state = .run →
      lineFreed (State.offlined { s with now := max s.now d } n r) t) ∧
    (role = .auxHeater → s.plant.defn.auxHeater = some n → heaterNodeLost s t) ∧
    (role = .intake → lineFreed (State.offlined { s with now := max s.now d } n r) t) := by
  have hge' : ¬ ((s.reporting d).node n).failCount < 2 := Nat.not_lt.2 hge
  have hr' : ((s.reporting d).node n).failedOnce = r := hr.symm
  have out := State.outcomeFailed_active (s := s.reporting d) x hb
  rw [if_neg hge', State.failedAt_down hge', hr'] at out
  generalize hw : (s.reporting d).downAt n (offlinedRecord (s.reporting d) r) = w at out
  have wn : w.node n = offlinedRecord (s.reporting d) r := by rw [← hw, State.downAt_node]
  have ws : (w.node n).state = .offline := by rw [wn]; rfl
  have wc : w.op.state ≠ .commissioning := by rw [← hw]; exact hc
  have wb : (w.node n).binding = some (.plant role) := by
    rw [wn, ← hbind, hr]
    rfl
  obtain ⟨e, hop⟩ := State.offlineNotices_plant wb wc
  rw [State.failureReported_down hnr ws wc, e] at out
  have down := DownSide.plantNodeDown w n role
  have et := ht _ out hop
  have side := NodeSide.freeLine ((w.plantNodeDown n role).offlineRaised n)
  rw [← et] at side
  have tplant : t.plant = (w.plantNodeDown n role).plant := side.plant
  have tarb : t.arb = (w.plantNodeDown n role).arb := side.arb
  have tcomp : t.cond.compFault = (w.plantNodeDown n role).cond.compFault := by rw [side.cond]; rfl
  have silent : w.plantNodeDown n role = w → lineFreed (State.offlined { s with now := max s.now d } n r) t := by
    intro hs
    rw [hs] at et
    rw [et, ← hw]
    exact lineFreed_of_eq rfl
  have wplant : w.plant = s.plant := by rw [← hw]; rfl
  refine ⟨⟨?_, ?_⟩, ?_, ?_, ?_, ?_⟩
  · rw [side.recs n]
    exact (down.state n).trans ws
  · rw [side.cond]
    show Sticky.mk true (min 255 ((w.plantNodeDown n role).cond.nodeOffline.count + 1)) (some n.address) = _
    rw [down.offline, ← hw]
    rfl
  · rintro rfl hseq
    have hd : w.plantNodeDown n .compressor = (w.seqFault n).restReport := by
      unfold State.plantNodeDown
      dsimp only
      rw [if_neg (by rw [wplant]; exact hseq)]
    obtain ⟨f1, f2, f3, f4⟩ := State.seqFault_faulted w n
    rw [hd] at tplant tarb tcomp
    rw [State.restReport_plant] at tplant
    rw [State.restReport_arb] at tarb
    rw [State.restReport_compFault] at tcomp
    refine ⟨by rw [tplant]; exact f1, by rw [tarb]; exact f2, by rw [tplant]; exact f3, ?_⟩
    rw [tcomp, f4, ← hw]
    rfl
  · rintro rfl hseq _
    refine silent ?_
    unfold State.plantNodeDown
    dsimp only
    rw [if_pos (by rw [wplant]; exact hseq)]
  · rintro rfl haux
    have hd : w.plantNodeDown n .auxHeater = w.heaterNodeDown.restReport := rfl
    have lost := State.heaterNodeDown_lost (s := w) (by rw [wplant]; exact haux) (by rw [ws]; simp)
    rw [hd, State.restReport_plant] at tplant
    rw [hd, State.restReport_arb] at tarb
    unfold heaterNodeLost at lost ⊢
    rw [tplant, tarb, ← wplant]
    exact lost
  · rintro rfl
    exact silent rfl

end

/-- Settles O40: the phases of an attempt's end, then the rows of the second failure by who hears of it. -/
theorem attemptsFail : Obligations.AttemptsFail := by
  refine ⟨fun s c p k d x hh hf hp hd hx => exec_attempts hh hf hp hd hx, ?_⟩
  rintro s u c d x n r h hb hc rfl hr
  obtain ⟨t, e, ht⟩ := exec_outcomeFailed h
  exact ⟨t, e, failedTwice_rows hb hc hr ht, fun z hx ho h1 h2 => failedTwice_read hb hr ht hx ho h1 h2,
    fun hnr hge role hbind => failedTwice_plant hb hc hr ht hnr hge hbind⟩

end Sys2Proof.Machine
end

section
/-! SUPPORT for O46. Commissioning goes on after an outcome (R159, R160), and what an entry to FAULT leaves of the record
and of NODE_FAULT through whatever follows it. -/
namespace Sys2Proof.Machine

/-- A reply is taken, and then commissioning goes on. -/
theorem exec_replyFollowed {s : State} {d : Time} {n : NodeId} {x : Txn} {st : Byte} {data : List Byte}
    (h : s.replied d n x st data) :
    exec .closingQuietEnd s = .next ((((s.reporting d).outcomeOk x n st data).opNodeCheck n).opFollow).freeLine := by
  rw [exec_closingQuietEnd h]
  rfl

/-! ## Nothing is to be followed -/

theorem State.opNodeCheck_notReady {s : State} {n : NodeId} (h : (s.node n).state ≠ .ready) : s.opNodeCheck n = s := by
  unfold State.opNodeCheck
  exact if_neg (fun hc => h hc.2)

theorem State.opFollow_followed {s : State} (h : s.followed) : s.opFollow = s := by
  unfold State.opFollow
  split
  · rename_i hc
    have hst : s.op.state = .commissioning := by
      simp only [State.commissions, Bool.and_eq_true, decide_eq_true_eq] at hc
      exact hc.1
    have same : ∀ m, s.opSettled m = s := by
      intro m
      unfold State.opSettled
      refine if_neg ?_
      rintro ⟨_, hw, hr, hm⟩
      rw [h hst m hw hr] at hm
      simp at hm
    have fold : ∀ l : List NodeId, l.foldl State.opSettled s = s := by
      intro l
      induction l with
      | nil => rfl
      | cons m l ih => rw [List.foldl_cons, same, ih]
    exact fold _
  · rfl

/-- An outcome that changes the record alone of a node that is not READY leaves every settled node marked. -/
theorem State.followed_reported {s v : State} {n : NodeId} {x : Txn} (h : s.followed) (hx : s.line.txn = some x)
    (hn : x.node = some n) (hop : v.op = s.op) (hq : v.nodes.queue = s.nodes.queue)
    (hrec : ∀ m, m ≠ n → v.node m = s.node m) (hst : (v.node n).state ≠ .ready) : v.followed := by
  intro hc m hw hr
  have hm : m ≠ n := by
    rintro rfl
    exact hst hr
  have hw' : s.work m = .moveDone := by
    rw [← hw]
    show s.op.work[m] = v.op.work[m]
    rw [hop]
  have hl := h (by rw [← hop]; exact hc) m hw' (by rw [← hrec m hm]; exact hr)
  have hf : s.inFlight m .move = false := by
    rw [Bool.eq_false_iff]
    intro hf
    obtain ⟨y, hy, hym, _⟩ := (s.inFlight_iff m .move).1 hf
    have e : x = y := by
      have := Line.inFlight_txn hy
      rw [hx] at this
      exact Option.some.inj this
    rw [← e, hn] at hym
    exact hm (Option.some.inj hym).symm
  unfold State.moveLeft State.queued at hl ⊢
  rw [hf, Bool.or_false] at hl
  rw [hq, hrec m hm, hl, Bool.true_or]

/-! ## What follows an entry to FAULT keeps the node in FAULT -/

/-- No node's state or reason of FAULT, and no raise of NODE_FAULT, differs. -/
structure FaultKept (s t : State) : Prop where
  state : ∀ m, (t.node m).state = (s.node m).state
  reason : ∀ m, (t.node m).faultReason = (s.node m).faultReason
  raised : t.cond.nodeFault = s.cond.nodeFault

theorem FaultKept.refl (s : State) : FaultKept s s := ⟨fun _ => rfl, fun _ => rfl, rfl⟩

theorem FaultKept.trans {s t u : State} (a : FaultKept s t) (b : FaultKept t u) : FaultKept s u :=
  ⟨fun m => (b.state m).trans (a.state m), fun m => (b.reason m).trans (a.reason m), b.raised.trans a.raised⟩

theorem FaultKept.ofDemand {s t : State} (h : DemandSide s t) : FaultKept s t :=
  ⟨fun m => by rw [h.recs m], fun m => by rw [h.recs m], by rw [h.cond]⟩

theorem FaultKept.ofShare {s t : State} (h : ShareSide s t) : FaultKept s t := FaultKept.ofDemand (DemandSide.ofShare h)
theorem FaultKept.ofPlant {s t : State} (h : PlantSide s t) : FaultKept s t := FaultKept.ofDemand (DemandSide.ofPlant h)
theorem FaultKept.ofNode {s t : State} (h : NodeSide s t) : FaultKept s t := FaultKept.ofDemand (DemandSide.ofNode h)

theorem FaultKept.foldl {α : Type} (f : State → α → State) (h : ∀ s a, FaultKept s (f s a)) (l : List α) :
    ∀ s, FaultKept s (l.foldl f s) := by
  induction l with
  | nil => exact FaultKept.refl
  | cons a l ih => exact fun s => (h s a).trans (ih (f s a))

theorem FaultKept.startRevival (s : State) (n : NodeId) : FaultKept s (s.startRevival n) := by
  unfold State.startRevival
  split
  · refine ⟨fun m => ?_, fun m => ?_, rfl⟩
    · rw [State.modNode, State.node_setNode]
      split
      · rename_i e
        rw [e]
      · rfl
    · rw [State.modNode, State.node_setNode]
      split
      · rename_i e
        rw [e]
      · rfl
  · exact FaultKept.refl s

theorem FaultKept.startZone (s : State) (z : Zone) : FaultKept s (s.startZone z) := by
  unfold State.startZone
  split
  · exact ⟨fun _ => rfl, fun _ => rfl, rfl⟩
  · exact FaultKept.refl s

theorem FaultKept.enterRun (s : State) : FaultKept s s.enterRun := by
  have part : FaultKept s (s.enterPart .run).clearMarks := ⟨fun _ => rfl, fun _ => rfl, rfl⟩
  have zones := FaultKept.foldl State.startZone FaultKept.startZone allZones (s.enterPart .run).clearMarks
  have evals := FaultKept.foldl State.evaluate (fun s z => FaultKept.ofDemand (DemandSide.evaluate s z)) allZones
    ((s.enterPart .run).clearMarks.eachZone State.startZone)
  have intake : ∀ u : State, FaultKept u (State.setPlant u
      { u.plant with purgeCount := 0, intakeTarget := some (Plant.runIntake { u.plant with purgeCount := 0 }) }) :=
    fun u => ⟨fun _ => rfl, fun _ => rfl, rfl⟩
  have plant : ∀ u : State, FaultKept u u.plantRun := fun u =>
    (((FaultKept.ofShare ((ShareSide.refreshCool u).trans (ShareSide.seqDecide _))).trans
      (FaultKept.ofPlant (PlantSide.heaterStart _))).trans (intake _)).trans
      (FaultKept.ofNode (NodeSide.intakeCompare _))
  have revivals : ∀ u : State, FaultKept u (u.eachNode State.startRevival) :=
    FaultKept.foldl State.startRevival FaultKept.startRevival allNodes
  have raised : ∀ u : State, FaultKept u (u.raise .commissionDone none) := fun u => ⟨fun _ => rfl, fun _ => rfl, rfl⟩
  exact ((((part.trans zones).trans evals).trans (plant _)).trans (revivals _)).trans (raised _)

theorem FaultKept.markDone (s : State) (n : NodeId) : FaultKept s (s.markDone n) := by
  have set : FaultKept s ((s.setOp { s.op with done := s.op.done.set n.val true n.isLt }).setWork n .idle) :=
    ⟨fun _ => rfl, fun _ => rfl, rfl⟩
  refine set.trans ?_
  unfold State.markDone State.testCommissioned
  split
  · exact FaultKept.enterRun _
  · exact FaultKept.refl _

theorem FaultKept.opNodeDown (s : State) (n : NodeId) : FaultKept s (s.opNodeDown n) := by
  unfold State.opNodeDown
  split
  · exact FaultKept.markDone s n
  · exact FaultKept.refl s

theorem FaultKept.opFollow (s : State) : FaultKept s s.opFollow := by
  unfold State.opFollow
  split
  · refine FaultKept.foldl State.opSettled (fun s m => ?_) allNodes s
    unfold State.opSettled
    split
    · exact FaultKept.markDone s m
    · exact FaultKept.refl s
  · exact FaultKept.refl s

theorem FaultKept.restReport (s : State) : FaultKept s s.restReport := by
  rcases s.restReport_cases with e | e
  · rw [e]
    exact FaultKept.refl s
  · rw [e]
    exact ⟨fun _ => rfl, fun _ => rfl, rfl⟩

theorem FaultKept.plantNodeDown (s : State) (n : NodeId) (role : PlantRole) : FaultKept s (s.plantNodeDown n role) := by
  cases role with
  | compressor =>
    unfold State.plantNodeDown
    dsimp only
    split
    · exact FaultKept.refl s
    · have fault : FaultKept s (s.seqFault n) :=
        (FaultKept.ofShare ((ShareSide.ofPlant (PlantSide.enterSeq s .fault)).trans (ShareSide.refreshCool _))).trans
          ⟨fun _ => rfl, fun _ => rfl, rfl⟩
      exact fault.trans (FaultKept.restReport _)
  | auxHeater =>
    refine FaultKept.trans ?_ (FaultKept.restReport _)
    unfold State.heaterNodeDown
    split
    · exact FaultKept.ofPlant (PlantSide.enterHeater s _)
    · exact FaultKept.ofShare ((ShareSide.ofPlant (PlantSide.enterHeater s _)).trans (ShareSide.refreshHeat _))
    · exact FaultKept.ofPlant (PlantSide.enterHeater s _)
    all_goals exact FaultKept.refl s
  | intake => exact FaultKept.refl s

theorem FaultKept.downNotice (s : State) (n : NodeId) : FaultKept s (s.downNotice n) := by
  unfold State.downNotice
  split
  · exact FaultKept.refl s
  · rename_i z role _
    unfold State.zoneNodeDown
    split
    · exact FaultKept.refl s
    · have flag : FaultKept s
          (s.modZone z (fun r => { r with flags := { r.flags with actuatorFault := true } })) :=
        ⟨fun _ => rfl, fun _ => rfl, rfl⟩
      exact flag.trans (FaultKept.ofDemand (DemandSide.evaluate _ z))
  · exact FaultKept.plantNodeDown s n _

/-- R146, R151: a node that a reply faults, and NODE_FAULT, when commissioning has gone on. -/
theorem State.replyFault_stands {s : State} {n : NodeId} {x : Txn} {why : FaultReason} (hw : why ≠ .travelTimeout)
    (hx : x.noReading) {t : State} (ht : t = (((s.replyFault x n why).opNodeCheck n).opFollow).freeLine) :
    (t.node n).state = .fault ∧ (t.node n).faultReason = some why ∧
      t.cond.nodeFault = ⟨true, min 255 (s.cond.nodeFault.count + 1), some n.address⟩ := by
  generalize hr : s.downAt n (faultedRecord (s.node n) why) = w
  have e : s.replyFault x n why = ((w.downNotice n).faultRaised n).opNodeDown n := by
    rw [State.replyFault, State.faultRecord_eq s n hw, State.reportFailure_noReading hx, hr]
    rfl
  have notice := FaultKept.downNotice w n
  have down := FaultKept.opNodeDown ((w.downNotice n).faultRaised n) n
  have wn : w.node n = faultedRecord (s.node n) why := by rw [← hr, State.downAt_node]
  have hst : ((s.replyFault x n why).node n).state = .fault := by
    rw [e, down.state n]
    refine (notice.state n).trans ?_
    rw [wn]
    rfl
  rw [State.opNodeCheck_notReady (by rw [hst]; simp)] at ht
  have kept := (FaultKept.opFollow (s.replyFault x n why)).trans (FaultKept.ofNode (NodeSide.freeLine _))
  rw [← ht, e] at kept
  have kept := down.trans kept
  refine ⟨?_, ?_, ?_⟩
  · rw [kept.state n]
    refine (notice.state n).trans ?_
    rw [wn]
    rfl
  · rw [kept.reason n]
    refine (notice.reason n).trans ?_
    rw [wn]
    rfl
  · rw [kept.raised]
    show Sticky.mk true (min 255 ((w.downNotice n).cond.nodeFault.count + 1)) (some n.address) = _
    rw [notice.raised, ← hr]
    rfl

end Sys2Proof.Machine
end

section
/-! SUPPORT for O46. The replies to a node in STARTING outside COMMISSIONING, and a MOVE that was in flight as the start-up
began (R134, R148, R149). -/
namespace Sys2Proof.Machine

/-! ## A failed or IN_START answer (R148) -/

/-- R148: the record with one more WAKE or IDENT counted. -/
def State.startCounted (s : State) (r : NodeRec) (afterIdent : Bool) : NodeRec :=
  { r with
    wakeCount := r.wakeCount + 1
    startStep := if afterIdent then .wake else r.startStep
    wakeTimer := if afterIdent then some (s.now + Config.wakePeriod) else r.wakeTimer }

theorem State.startFailed_eq (s : State) (n : NodeId) (b : Bool) :
    s.startFailed n b =
      if (s.node n).wakeCount + 1 < 30 then s.setNode n (s.startCounted (s.node n) b)
      else (s.downAt n (offlinedRecord s (s.startCounted (s.node n) b))).offlineNotices n := by
  have e : s.startFailed n b =
      if Config.wakeLimit ≤ (s.node n).wakeCount + 1 then
        ((s.setNode n (s.startCounted (s.node n) b)).offlineRecord n).offlineNotices n
      else s.setNode n (s.startCounted (s.node n) b) := by
    have hn : ((s.setNode n (s.startCounted (s.node n) b)).node n).wakeCount = (s.node n).wakeCount + 1 := by
      rw [State.node_setNode_same]
      rfl
    rw [← hn]
    rfl
  rw [e, State.offlineRecord_eq, State.node_setNode_same, State.downAt_setNode]
  have hlim : Config.wakeLimit = 30 := rfl
  rw [hlim]
  by_cases h : (s.node n).wakeCount + 1 < 30
  · rw [if_neg (Nat.not_le.2 h), if_pos h]
  · rw [if_pos (Nat.le_of_not_lt h), if_neg h]
    rfl

section
variable {s : State} {n : NodeId} {x : Txn} {st : Byte} {data : List Byte}

theorem State.replyStarting_inStart (hc : x.cmd ∈ [Command.wake, .ident]) (hi : stInStart st = true) :
    s.replyStarting x n st data = s.startFailed n (decide (x.cmd ≠ .wake)) := by
  unfold State.replyStarting
  rw [if_pos hi]
  by_cases hw : x.cmd = .wake
  · simp [hw]
  · have hid : x.cmd = .ident := by simpa [hw] using hc
    simp [hid]

theorem State.outcomeFailed_starting (hs : (s.node n).state = .starting) (hc : x.cmd ∈ [Command.wake, .ident]) :
    s.outcomeFailed x n = s.startFailed n (decide (x.cmd ≠ .wake)) := by
  simp only [State.outcomeFailed, hs]
  by_cases hw : x.cmd = .wake
  · simp [hw]
  · have hid : x.cmd = .ident := by simpa [hw] using hc
    simp [hid]

theorem State.replyStarting_fault (hi : stInStart st = false) (hf : stFault st = true) :
    s.replyStarting x n st data = s.replyFault x n .nodeReported := by
  unfold State.replyStarting
  rw [if_neg (by rw [hi]; simp), if_pos hf]

theorem State.replyStarting_illegal (hi : stInStart st = false) (hf : stFault st = false)
    (h : stIllegal st = true ∨ stRange st = true) : s.replyStarting x n st data = s.replyFault x n .illegalReply := by
  have hb : (stIllegal st || stRange st) = true := by rw [Bool.or_eq_true]; exact h
  unfold State.replyStarting
  rw [if_neg (by rw [hi]; simp), if_neg (by rw [hf]; simp), if_pos hb]

theorem State.replyStarting_wake (hi : stInStart st = false) (hf : stFault st = false) (hl : stIllegal st = false)
    (hr : stRange st = false) (hc : x.cmd = .wake) (hstep : (s.node n).startStep = .wake) :
    s.replyStarting x n st data = (s.setNode n { s.node n with startStep := .ident }).askOwn n .ident
      (startOrigin (s.node n).cause) := by
  have e : s.replyStarting x n st data = (s.setNode n { s.node n with startStep := .ident }).askStart n := by
    unfold State.replyStarting
    simp only [hi, hf, hl, hr, hc, hstep, Bool.false_eq_true, if_false, if_true, Bool.or_self]
    rfl
  rw [e, State.askStart_ident (by rw [State.node_setNode_same]), State.node_setNode_same]

theorem State.replyStarting_ident {k ver : Byte} (hi : stInStart st = false) (hf : stFault st = false)
    (hl : stIllegal st = false) (hr : stRange st = false) (hc : x.cmd = .ident) :
    s.replyStarting x n st [k, ver] = if kindOfByte k ≠ none ∧ kindOfByte k = (s.node n).kind then s.startEnds n ver
      else s.replyFault x n .kindMismatch := by
  unfold State.replyStarting
  simp only [hi, hf, hl, hr, hc, Bool.false_eq_true, if_false, Bool.or_self]

theorem State.replyStarting_move {a : Byte} (hi : stInStart st = false) (hf : stFault st = false)
    (hl : stIllegal st = false) (hr : stRange st = false) (hc : x.cmd = .move) :
    s.replyStarting x n st [a] = s.moveReplyStarting x n (stBusy st) (stSequence st) a := by
  unfold State.replyStarting
  simp only [hi, hf, hl, hr, hc, Bool.false_eq_true, if_false, Bool.or_self]

end

/-! ## The end of a start-up (R148, R149) -/

/-- R148: the record as a start-up ends in READY. -/
def NodeRec.started (r : NodeRec) (ver : Byte) : NodeRec :=
  { r with state := .ready, version := some ver, wakeTimer := none }

/-- R149: the cause of a start-up after which the last taken target is restored. -/
abbrev restores (c : Option StartCause) : Prop := c = some .restart ∨ c = some .revival ∨ c = some .retry

theorem State.startEnds_eq (s : State) (n : NodeId) (ver : Byte) :
    s.startEnds n ver =
      (if restores (s.node n).cause then (s.setNode n ((s.node n).started ver)).restore n
        else s.setNode n ((s.node n).started ver)).readyNotice n .starting (s.node n).cause := rfl

theorem State.restore_none {s : State} {n : NodeId} (h : (s.node n).target = none ∨ s.queued n .move = true) :
    s.restore n = s := by
  unfold State.restore
  split
  · rfl
  · rename_i g hg
    rcases h with h | h
    · rw [h] at hg
      simp at hg
    · rw [if_pos h]

theorem State.restore_appended {s : State} {n : NodeId} {a : Nat} (h : (s.node n).target = some a)
    (hq : s.queued n .move = false) (hr : s.reports) (hp : (s.node n).unplanted) (room : s.nodes.queue.length < 16) :
    s.restore n = s.setQueue (s.nodes.queue ++ [⟨some n, .move, a, false, .restore, []⟩]) := by
  have hb : s.plantBound n = false := by
    unfold State.plantBound
    split
    · rename_i role hb
      exact absurd hb (hp role)
    all_goals rfl
  have e : s.restore n = s.request ⟨some n, .move, a, s.plantBound n, .restore, []⟩ := by
    unfold State.restore
    split
    · rename_i hg
      rw [h] at hg
      simp at hg
    · rename_i g hg
      rw [h] at hg
      obtain rfl : a = g := Option.some.inj hg
      rw [if_neg (by rw [hq]; simp)]
  rw [e, hb]
  exact State.request_appended hr rfl (fun y hy => Entry.same_false (State.not_queued hq y hy)) room

/-- R149: the queue as a start-up ends: the restore joins it where a target is recorded and no MOVE is queued. -/
def State.restoredQueue (s : State) (n : NodeId) (r : NodeRec) : List Entry :=
  match r.target with
  | none => s.nodes.queue
  | some a =>
    if r.cause ∈ [some StartCause.restart, some .revival, some .retry] ∧ s.queued n .move = false then
      s.nodes.queue ++ [⟨some n, .move, a, false, .restore, []⟩]
    else s.nodes.queue

theorem State.startEnds_restored {s : State} {n : NodeId} (ver : Byte) (hr : s.reports) (hp : (s.node n).unplanted)
    (room : s.nodes.queue.length < 16) :
    s.startEnds n ver =
      ((s.setQueue (s.restoredQueue n (s.node n))).setNode n ((s.node n).started ver)).readyNotice n .starting
        (s.node n).cause := by
  rw [State.startEnds_eq]
  congr 1
  have hn : (s.setNode n ((s.node n).started ver)).node n = (s.node n).started ver := State.node_setNode_same _ _ _
  have hq : (s.setNode n ((s.node n).started ver)).queued n .move = s.queued n .move := rfl
  have mem : (s.node n).cause ∈ [some StartCause.restart, some .revival, some .retry] ↔ restores (s.node n).cause := by
    simp [restores]
  unfold State.restoredQueue
  cases ht : (s.node n).target with
  | none =>
    have same : (s.setNode n ((s.node n).started ver)).restore n = s.setNode n ((s.node n).started ver) :=
      State.restore_none (.inl (by rw [hn]; exact ht))
    rw [same, ite_self]
    rfl
  | some a =>
    dsimp only
    by_cases hc : restores (s.node n).cause
    · cases hm : s.queued n .move with
      | true =>
        rw [if_pos hc, if_neg (by simp), State.restore_none (.inr (hq.trans hm))]
        rfl
      | false =>
        rw [if_pos hc, if_pos ⟨mem.2 hc, rfl⟩, State.restore_appended (a := a) (by rw [hn]; exact ht) (hq.trans hm) hr
          (by rw [hn]; exact hp) room]
        rfl
    · rw [if_neg hc, if_neg (fun h => hc (mem.1 h.1))]
      rfl

/-- R19: the zone of a valve, damper or blower that has restarted sends its targets again. -/
theorem State.readyNotice_restarted {s : State} {n : NodeId} {z : Zone} {role : ZoneRole}
    (hb : (s.node n).binding = some (.zone z role)) (hr : role ≠ .sensor) (hc : s.op.state ≠ .commissioning) :
    s.readyNotice n .starting (some .restart) = s.zoneTargets z := by
  simp [State.readyNotice, hb, State.zoneNodeReady, hr, hc, isReturn]

/-! ## A MOVE that was in flight as the start-up began (R134) -/

section
variable {s : State} {n : NodeId} {x : Txn} {a : Byte}

theorem State.moveReplyStarting_moving (ha : a = byteOf x.argument) :
    s.moveReplyStarting x n true false a = s.setNode n ((s.node n).movesTo x.argument) := by
  have hfit : x.fitsTaken false a = true := by simp [Txn.fitsTaken, ha]
  unfold State.moveReplyStarting
  simp only [hfit, if_true]
  rfl

theorem State.moveReplyStarting_there (ha : a = byteOf x.argument) :
    s.moveReplyStarting x n false false a = s.setNode n ((s.node n).standsAt x.argument) := by
  have hfit : x.fitsTaken false a = true := by simp [Txn.fitsTaken, ha]
  unfold State.moveReplyStarting
  simp only [hfit, if_true]
  rfl

theorem State.moveReplyStarting_notTaken {busy : Bool} (ha : a = 0xFF#8)
    (h : busy = true ∨ (s.node n).kind = some .auxheat) : s.moveReplyStarting x n busy true a = s := by
  have hfit : x.fitsTaken true a = true := by simp [Txn.fitsTaken, ha]
  unfold State.moveReplyStarting
  simp only [hfit, if_true]
  cases busy with
  | true => rfl
  | false =>
    rcases h with h | h
    · simp at h
    · exact if_pos h

theorem State.moveReplyStarting_fault {busy seq : Bool} {why : FaultReason}
    (h : x.faultsOn (s.node n).kind busy seq a why) : s.moveReplyStarting x n busy seq a = s.replyFault x n why := by
  unfold State.moveReplyStarting
  rcases h with ⟨rfl, rfl, rfl, hk, rfl⟩ | ⟨rfl, ha, rfl⟩ | ⟨rfl, ha, rfl⟩
  · have hfit : x.fitsTaken true 0xFF#8 = true := by simp [Txn.fitsTaken]
    simp only [hfit, if_true]
    exact if_neg hk
  · simp [Txn.fitsTaken_false (x := x) (.inl ⟨rfl, ha⟩)]
  · simp [Txn.fitsTaken_false (x := x) (.inr ⟨rfl, ha⟩)]

end

end Sys2Proof.Machine
end

section
/-! SUPPORT for O46. The first three clauses: replies and failures of a node in STARTING. -/
namespace Sys2Proof.Machine

/-- R134: the replies to a MOVE that was in flight as the start-up began. -/
theorem startingMove_rows {s u : State} {n : NodeId} {x : Txn} {st a : Byte} {d : Time} {r : NodeRec}
    (h : s.answered d n x st [a]) (hx : x.cmd = .move) (hs : (s.node n).state = .starting) (hfol : s.followed)
    (hu : u = { s with now := max s.now d }) (hr : r = { s.node n with failCount := 0 }) :
    ∃ t, exec .closingQuietEnd s = .next t ∧
      (stBusy st = true → stSequence st = false → a = byteOf x.argument →
        lineFreed (u.setNode n { r with target := some x.argument }) t) ∧
      (stBusy st = false → stSequence st = false → a = byteOf x.argument →
        lineFreed (u.setNode n { r with target := some x.argument, value := some (.num x.argument) }) t) ∧
      (stSequence st = true → a = 0xFF#8 → (stBusy st = true ∨ r.kind = some .auxheat) →
        lineFreed (u.setNode n r) t) ∧
      (∀ why, (stSequence st = true ∧ stBusy st = false ∧ a = 0xFF#8 ∧ r.kind ≠ some .auxheat ∧
            why = FaultReason.refusedMove) ∨
          (stSequence st = true ∧ a ≠ 0xFF#8 ∧ why = .illegalReply) ∨
          (stSequence st = false ∧ a ≠ byteOf x.argument ∧ why = .illegalReply) →
        (t.node n).state = .fault ∧ (t.node n).faultReason = some why ∧
        t.cond.nodeFault = ⟨true, min 255 (s.cond.nodeFault.count + 1), some n.address⟩ ∧
        (r.binding = none → s.op.state ≠ .commissioning →
          lineFreed (u.faulted n (faultedRecord r why)) t)) := by
  subst hu
  obtain ⟨hrep, hi, hl, hrg, hf⟩ := h
  have hk : ((s.reporting d).answeredAt n).node n = r := by
    rw [hr]
    exact State.answeredAt_node _ _
  have out : (s.reporting d).outcomeOk x n st [a] =
      ((s.reporting d).answeredAt n).moveReplyStarting x n (stBusy st) (stSequence st) a := by
    rw [State.outcomeOk_starting (s := s.reporting d) x st _ hs, State.replyStarting_move hi hf hl hrg hx]
  have e := exec_replyFollowed hrep
  generalize ht : ((((s.reporting d).outcomeOk x n st [a]).opNodeCheck n).opFollow).freeLine = t at e
  have hnr : x.noReading := fun hread => by rw [hx] at hread; simp at hread
  -- a row that writes the record alone
  have written : ∀ f : NodeRec, f.state = .starting →
      (s.reporting d).outcomeOk x n st [a] = (s.reporting d).setNode n f →
      t = ((s.reporting d).setNode n f).freeLine := by
    intro f hfs ho
    have hn : ((s.reporting d).setNode n f).node n = f := State.node_setNode_same _ _ _
    have fol : ((s.reporting d).setNode n f).followed := by
      refine State.followed_reported hfol hrep.2.2.2.1 hrep.2.2.2.2.1 rfl rfl (fun m hm => ?_) (by rw [hn, hfs]; simp)
      rw [State.node_setNode, if_neg hm]
      rfl
    rw [← ht, ho, State.opNodeCheck_notReady (by rw [hn, hfs]; simp), State.opFollow_followed fol]
  have hrs : r.state = .starting := by rw [hr]; exact hs
  refine ⟨t, e, fun hb hq ha => ?_, fun hb hq ha => ?_, fun hq ha hbk => ?_, fun why hrow => ?_⟩
  · rw [hb, hq, State.moveReplyStarting_moving ha, hk, State.answeredAt_setNode] at out
    rw [written (r.movesTo x.argument) hrs out]
    exact lineFreed_of_eq rfl
  · rw [hb, hq, State.moveReplyStarting_there ha, hk, State.answeredAt_setNode] at out
    rw [written (r.standsAt x.argument) hrs out]
    exact lineFreed_of_eq rfl
  · rw [hq, State.moveReplyStarting_notTaken ha (by rw [hk]; exact hbk)] at out
    have ho : (s.reporting d).outcomeOk x n st [a] = (s.reporting d).setNode n r := by
      rw [out, hr]
      rfl
    rw [written r hrs ho]
    exact lineFreed_of_eq rfl
  · have hrow' : x.faultsOn (((s.reporting d).answeredAt n).node n).kind (stBusy st) (stSequence st) a why := by
      rw [hk]
      rcases hrow with ⟨h1, h2, h3, h4, h5⟩ | hrow | hrow
      · exact .inl ⟨h1, h2, h3, h4, h5⟩
      · exact .inr (.inl hrow)
      · exact .inr (.inr hrow)
    rw [State.moveReplyStarting_fault hrow'] at out
    obtain ⟨h1, h2, h3⟩ := State.replyFault_stands (s := (s.reporting d).answeredAt n) (n := n) hrow'.why hnr
      (t := t) (by rw [← ht, out])
    refine ⟨h1, h2, h3, fun hb hc => ?_⟩
    obtain ⟨t', e', hun, _⟩ := exec_replyFault hrep hc out hrow'.why rfl
    obtain rfl : t = t' := by simpa using e.symm.trans e'
    rw [← hr] at hun
    exact (hun (.inl (by rw [hr] at hb; exact hb))).1 hnr

/-- R148: an answer with IN_START, or a failed transaction, counted. -/
theorem startFailed_rows {s a t : State} {n : NodeId} {b : Bool} {d : Time} {r f : NodeRec}
    (ha : a = (s.reporting d).setNode n r) (hc : s.op.state ≠ .commissioning) (hf : f = a.startCounted r b)
    (ht : ∀ v, a.startFailed n b = v → v.op.state ≠ .commissioning → t = v.freeLine) :
    (r.wakeCount + 1 < 30 → lineFreed (State.setNode { s with now := max s.now d } n f) t) ∧
    (30 ≤ r.wakeCount + 1 → r.binding = none → lineFreed (State.offlined { s with now := max s.now d } n f) t) := by
  have hk : a.node n = r := by rw [ha, State.node_setNode_same]
  have e := State.startFailed_eq a n b
  rw [hk, ← hf] at e
  refine ⟨fun hlt => ?_, fun hge hb => ?_⟩
  · rw [if_pos hlt, ha, State.setNode_setNode, ← ha] at e
    rw [ht _ e hc]
    exact lineFreed_of_eq rfl
  · have hw : (a.downAt n (offlinedRecord a f)).op.state ≠ .commissioning := by
      rw [State.downAt_op, ha]
      exact hc
    rw [if_neg (Nat.not_lt.2 hge), State.offlineNotices_untold (.inl (by
      rw [State.downAt_node, hf]
      exact hb)) hw] at e
    rw [ht _ e hw, ha, State.downAt_setNode]
    exact lineFreed_of_eq rfl

/-- R148: how the statement writes the count. -/
theorem State.startCounted_eq (s : State) (r : NodeRec) {c : Command} {now : Time} (h : s.now = now) :
    (if c = .wake then { r with wakeCount := r.wakeCount + 1 }
      else { r with wakeCount := r.wakeCount + 1, startStep := .wake, wakeTimer := some (now + 100 * Config.ms) }) =
    s.startCounted r (decide (c ≠ .wake)) := by
  by_cases hc : c = .wake
  · simp [State.startCounted, hc]
  · simp [State.startCounted, hc, h, Config.wakePeriod, Config.ms]

/-- R148, R149: the replies to the WAKEs and IDENTs of a start-up, outside COMMISSIONING. -/
theorem startUp_rows {s u : State} {n : NodeId} {x : Txn} {st : Byte} {data : List Byte} {d : Time} {r : NodeRec}
    (h : s.replied d n x st data) (hs : (s.node n).state = .starting) (hc : s.op.state ≠ .commissioning)
    (hx : x.cmd ∈ [Command.wake, .ident]) (hu : u = { s with now := max s.now d })
    (hr : r = { s.node n with failCount := 0 }) :
    ∃ t, exec .closingQuietEnd s = .next t ∧
      (stInStart st = true → ∀ f, f = (if x.cmd = .wake then { r with wakeCount := r.wakeCount + 1 }
          else { r with
            wakeCount := r.wakeCount + 1, startStep := .wake, wakeTimer := some (max s.now d + 100 * Config.ms) }) →
        (r.wakeCount + 1 < 30 → lineFreed (u.setNode n f) t) ∧
        (30 ≤ r.wakeCount + 1 → r.binding = none → lineFreed (u.offlined n f) t)) ∧
      (stInStart st = false → r.binding = none →
        (stFault st = true → lineFreed (u.faulted n (faultedRecord r .nodeReported)) t) ∧
        (stFault st = false → (stIllegal st = true ∨ stRange st = true) →
          lineFreed (u.faulted n (faultedRecord r .illegalReply)) t)) ∧
      (stInStart st = false → stFault st = false → stIllegal st = false → stRange st = false →
        (x.cmd = .wake → r.startStep = .wake → s.queued n .ident = false → s.nodes.queue.length < 16 →
          lineFreed
            (State.setNode
              { u with nodes := { u.nodes with
                queue := s.nodes.queue ++ [⟨some n, .ident, 0, false,
                  if r.cause = some .commission then .commission else .wake, []⟩] } } n
              { r with startStep := .ident }) t) ∧
        (∀ k ver, x.cmd = .ident → data = [k, ver] →
          ((kindOfByte k ≠ r.kind ∨ r.kind = none) → r.binding = none →
            lineFreed (u.faulted n (faultedRecord r .kindMismatch)) t) ∧
          (∀ q b, kindOfByte k = r.kind → r.kind ≠ none → s.nodes.queue.length < 16 →
            (∀ role, r.binding ≠ some (.plant role)) →
            q = s.restoredQueue n r →
            b = State.setNode
              { s.reporting d with nodes := { s.nodes with queue := q } } n
              { r with state := .ready, version := some ver, wakeTimer := none } →
            (r.binding = none → lineFreed b t) ∧
            (∀ z role, r.binding = some (.zone z role) → role ≠ .sensor → s.op.state = .run →
              (s.zone z).active = true →
              (r.cause = some .restart → lineFreed (b.zoneTargets z) t) ∧
              (r.cause ∈ [some StartCause.revival, some .retry] → ∃ v, Evaluated b z v ∧ lineFreed v t))))) := by
  subst hu
  obtain ⟨t, e, ht⟩ := exec_outcomeOk h
  have hl : s.line.phase ≠ .idle := by rw [h.2.1]; simp
  have hk : ((s.reporting d).answeredAt n).node n = r := by
    rw [hr]
    exact State.answeredAt_node _ _
  have hrep : ((s.reporting d).answeredAt n).reports := State.reporting_reports d hl
  have hnr : x.noReading := by
    intro hread
    rw [hread] at hx
    simp at hx
  have out := State.outcomeOk_starting (s := s.reporting d) x st data hs
  have faults : ∀ why, why ≠ FaultReason.travelTimeout →
      ((s.reporting d).answeredAt n).replyStarting x n st data = ((s.reporting d).answeredAt n).replyFault x n why →
      r.binding = none → lineFreed (State.faulted { s with now := max s.now d } n (faultedRecord r why)) t := by
    intro why hw ho hb
    obtain ⟨t', e', hun, _⟩ := exec_replyFault h hc (out.trans ho) hw rfl
    obtain rfl : t = t' := by simpa using e.symm.trans e'
    rw [← hr] at hun
    exact (hun (.inl (by rw [hr] at hb; exact hb))).1 hnr
  refine ⟨t, e, fun hi f hf => ?_, fun hi hb => ⟨fun hf => ?_, fun hf hlr => ?_⟩, fun hi hf hl' hrg =>
    ⟨fun hw hstep hq room => ?_, fun k ver hid hdata => ⟨fun hkind hb => ?_, fun q b hkind hne room hp hq hb => ?_⟩⟩⟩
  · rw [State.replyStarting_inStart hx hi] at out
    refine startFailed_rows (a := (s.reporting d).answeredAt n) (b := decide (x.cmd ≠ .wake)) (by rw [hr]; rfl) hc ?_
      (fun v hv => ht v (out.trans hv))
    rw [hf]
    exact State.startCounted_eq _ r rfl
  · exact faults _ (by simp) (State.replyStarting_fault hi hf) hb
  · exact faults _ (by simp) (State.replyStarting_illegal hi hf hlr) hb
  · have horig : startOrigin r.cause = if r.cause = some .commission then .commission else .wake := by
      cases hcause : r.cause with
      | none => rfl
      | some c => cases c <;> rfl
    rw [State.replyStarting_wake hi hf hl' hrg hw (by rw [hk]; exact hstep), hk, State.answeredAt_setNode,
      State.askOwn_appended (s := (s.reporting d).setNode n _) _ (State.reporting_reports d hl) (State.not_queued hq)
        room, horig] at out
    rw [ht _ out hc]
    exact lineFreed_of_eq rfl
  · have hno : ¬ (kindOfByte k ≠ none ∧ kindOfByte k = r.kind) := by
      rintro ⟨h1, h2⟩
      rcases hkind with hkind | hkind
      · exact hkind h2
      · exact h1 (h2.trans hkind)
    refine faults _ (by simp) ?_ hb
    rw [hdata, State.replyStarting_ident hi hf hl' hrg hid, hk, if_neg hno]
  · have hp' : (((s.reporting d).answeredAt n).node n).unplanted := by rw [hk]; exact hp
    have hbq : (((s.reporting d).answeredAt n).setQueue (((s.reporting d).answeredAt n).restoredQueue n r)).setNode n
        (r.started ver) = b := by
      rw [hb, hq]
      exact State.setNode_setNode (State.setQueue (s.reporting d) (s.restoredQueue n r)) n _ _
    have hbn : (b.node n).binding = r.binding := by rw [hb, State.node_setNode_same]
    have hbop : b.op = s.op := by rw [hb]; rfl
    rw [hdata, State.replyStarting_ident hi hf hl' hrg hid, hk, if_pos ⟨by rw [hkind]; exact hne, hkind⟩,
      State.startEnds_restored ver hrep hp' room, hk, hbq, ← hdata] at out
    refine ⟨fun hb0 => ?_, fun z role hbz hrole h1 h2 => ⟨fun hcause => ?_, fun hcause => ?_⟩⟩
    · rw [State.readyNotice_unowned _ _ (hbn.trans hb0)] at out
      rw [ht _ out (by rw [hbop]; exact hc)]
      exact State.freeLine_freed _
    · rw [hcause, State.readyNotice_restarted (hbn.trans hbz) hrole (by rw [hbop]; exact hc)] at out
      rw [ht _ out (by rw [(NodeSide.zoneTargets b z).op, hbop]; exact hc)]
      exact State.freeLine_freed _
    · have hret : isReturn .starting r.cause = true := by
        simp only [List.mem_cons, List.not_mem_nil, or_false] at hcause
        rcases hcause with hcause | hcause <;> rw [hcause] <;> rfl
      rw [State.readyNotice_return (hbn.trans hbz) hrole (by rw [hbop]; exact hc) hret] at out
      refine ⟨_, State.evaluate_evaluated b z (by rw [hbop]; exact h1) (by rw [hb]; exact h2), ?_⟩
      rw [ht _ out (by rw [(ZoneSide.evaluate b z).opState, hbop]; exact hc)]
      exact State.freeLine_freed _

/-- R148: a failed WAKE or IDENT of a start-up, outside COMMISSIONING. -/
theorem startUp_fails {s u : State} {c : Instr} {d : Time} {n : NodeId} {x : Txn} {f : NodeRec}
    (h : s.secondFails c d n x) (hs : (s.node n).state = .starting) (hc : s.op.state ≠ .commissioning)
    (hx : x.cmd ∈ [Command.wake, .ident]) (hu : u = { s with now := max s.now d })
    (hf : f = (if x.cmd = .wake then { s.node n with wakeCount := (s.node n).wakeCount + 1 }
      else { s.node n with
        wakeCount := (s.node n).wakeCount + 1, startStep := .wake
        wakeTimer := some (max s.now d + 100 * Config.ms) })) :
    ∃ t, exec c s = .next t ∧
      ((s.node n).wakeCount + 1 < 30 → lineFreed (u.setNode n f) t) ∧
      (30 ≤ (s.node n).wakeCount + 1 → (s.node n).binding = none → lineFreed (u.offlined n f) t) := by
  subst hu
  obtain ⟨t, e, ht⟩ := exec_outcomeFailed h
  have out := State.outcomeFailed_starting (s := s.reporting d) (n := n) (x := x) hs hx
  refine ⟨t, e, startFailed_rows (a := s.reporting d) (b := decide (x.cmd ≠ .wake)) ?_ hc ?_
    (fun v hv => ht v (out.trans hv))⟩
  · exact (State.setNode_self (s.reporting d) n).symm
  · rw [hf]
    exact State.startCounted_eq _ _ rfl

end Sys2Proof.Machine
end

section
/-! SUPPORT for O46. Commissioning a node: what the sequence marks while it is not complete (R159 to R161). -/
namespace Sys2Proof.Machine

/-! ## The marks while the sequence is not complete -/

theorem State.freeLine_op (s : State) : s.freeLine.op = s.op := by
  unfold State.freeLine
  rcases (s.setLine Line.reset).handOver_cases with e | ⟨_, a, e, b, _, ht⟩
  · rw [e]
    rfl
  · rw [ht]
    rfl

theorem OpControl.done_set (o : OpControl) (n m : NodeId) :
    (o.done.set n.val true n.isLt)[m] = if n = m then true else o.done[m] := by
  simp [Vector.getElem_set, Fin.ext_iff]

/-- R161: the part cannot leave COMMISSIONING yet: the HALT has not been sent, or a configured node that is not settled has
no mark. -/
def State.unfinished (s : State) : Prop :=
  s.op.haltSent = false ∨ ∃ n, (s.node n).configured = true ∧ s.op.done[n] = false ∧ s.work n ≠ .moveDone

/-- What the marking of settled nodes changes. -/
structure Marks (s : State) (o : OpControl) : Prop where
  state : o.state = s.op.state
  soft : o.soft = s.op.soft
  haltSent : o.haltSent = s.op.haltSent
  kept : ∀ m : NodeId, s.work m ≠ .moveDone → o.done[m] = s.op.done[m] ∧ o.work[m] = s.work m
  grown : ∀ m : NodeId, s.op.done[m] = true → o.done[m] = true
  left : ∀ m : NodeId, o.work[m] = s.work m ∨ o.done[m] = true

theorem Marks.refl (s : State) : Marks s s.op := ⟨rfl, rfl, rfl, fun _ _ => ⟨rfl, rfl⟩, fun _ h => h, fun _ => .inl rfl⟩

/-- R160: the operating-state record with the node marked. -/
def OpControl.marked (o : OpControl) (n : NodeId) : OpControl :=
  { o with done := o.done.set n.val true n.isLt, work := o.work.set n.val .idle n.isLt }

theorem OpControl.marked_done (o : OpControl) (n m : NodeId) :
    (o.marked n).done[m] = if n = m then true else o.done[m] := o.done_set n m

theorem OpControl.marked_work (o : OpControl) (n m : NodeId) :
    (o.marked n).work[m] = if n = m then .idle else o.work[m] := by
  simp [OpControl.marked, Vector.getElem_set, Fin.ext_iff]

theorem Marks.marked {s : State} {o : OpControl} (h : Marks s o) {m : NodeId} (hm : s.work m = .moveDone) :
    Marks s (o.marked m) where
  state := h.state
  soft := h.soft
  haltSent := h.haltSent
  kept := fun k hk => by
    have hne : m ≠ k := by
      rintro rfl
      exact hk hm
    rw [OpControl.marked_done, OpControl.marked_work, if_neg hne, if_neg hne]
    exact h.kept k hk
  grown := fun k hk => by
    rw [OpControl.marked_done]
    split
    · rfl
    · exact h.grown k hk
  left := fun k => by
    rw [OpControl.marked_done, OpControl.marked_work]
    split
    · exact .inr rfl
    · exact h.left k

theorem State.allDone_false {s : State} {n : NodeId} (hc : (s.node n).configured = true) (hd : s.op.done[n] = false) :
    s.allDone = false := by
  rw [Bool.eq_false_iff]
  intro h
  have := List.all_eq_true.1 h n (mem_allNodes n)
  rw [hc, hd] at this
  simp at this

theorem State.markDone_unfinished {s : State} {m : NodeId}
    (h : s.op.haltSent = false ∨ ∃ n, n ≠ m ∧ (s.node n).configured = true ∧ s.op.done[n] = false) :
    s.markDone m = s.setOp (s.op.marked m) := by
  have e : s.markDone m = (s.setOp (s.op.marked m)).testCommissioned := rfl
  rw [e, State.testCommissioned, if_neg]
  rintro ⟨_, hh, ha⟩
  rcases h with h | ⟨n, hne, hc, hd⟩
  · have hh : s.op.haltSent = true := hh
    rw [h] at hh
    simp at hh
  · have hd' : (s.setOp (s.op.marked m)).op.done[n] = false := by
      rw [← hd]
      exact (s.op.marked_done m n).trans (if_neg (Ne.symm hne))
    rw [State.allDone_false (s := s.setOp (s.op.marked m)) (n := n) hc hd'] at ha
    simp at ha

/-- R160: the node is settled. -/
def State.atRest (s : State) (m : NodeId) : Prop :=
  s.commissions = true ∧ s.work m = .moveDone ∧ (s.node m).state = .ready ∧ s.moveLeft m = false

theorem State.opSettled_marks {s : State} {o : OpControl} (hu : s.unfinished) (h : Marks s o) (m : NodeId) :
    ∃ p, (s.setOp o).opSettled m = s.setOp p ∧ Marks s p ∧ (∀ k : NodeId, o.done[k] = true → p.done[k] = true) ∧
      (s.atRest m → p.done[m] = true) := by
  by_cases hc : (s.setOp o).atRest m
  · have hw : s.work m = .moveDone := by
      by_contra hne
      have : o.work[m] = .moveDone := hc.2.1
      rw [(h.kept m hne).2] at this
      exact hne this
    have e : (s.setOp o).opSettled m = (s.setOp o).markDone m := if_pos hc
    have hun : (s.setOp o).op.haltSent = false ∨
        ∃ n, n ≠ m ∧ ((s.setOp o).node n).configured = true ∧ (s.setOp o).op.done[n] = false := by
      rcases hu with hu | ⟨n, hcf, hd, hwn⟩
      · exact .inl (h.haltSent.trans hu)
      · refine .inr ⟨n, ?_, hcf, (h.kept n hwn).1.trans hd⟩
        rintro rfl
        exact hwn hw
    refine ⟨o.marked m, e.trans (State.markDone_unfinished hun), h.marked hw, fun k hk => ?_, fun _ => ?_⟩
    · rw [OpControl.marked_done, hk, ite_self]
    · rw [OpControl.marked_done, if_pos rfl]
  · refine ⟨o, if_neg hc, h, fun k hk => hk, fun hs => ?_⟩
    by_contra hd
    obtain ⟨hcm, hw, hr, hl⟩ := hs
    refine hc ⟨?_, ?_, hr, hl⟩
    · show (decide (o.state = .commissioning) && decide (o.soft = .none)) = true
      rw [h.state, h.soft]
      exact hcm
    · exact ((h.left m).resolve_right hd).trans hw

/-- R160: what follows an event while the sequence is not complete: marks alone, and every settled node has its own. -/
theorem State.opFollow_marks {s : State} (hu : s.unfinished) :
    ∃ o, s.opFollow = s.setOp o ∧ Marks s o ∧ ∀ m, s.atRest m → o.done[m] = true := by
  have fold : ∀ (l : List NodeId) (o : OpControl), Marks s o →
      ∃ p, l.foldl State.opSettled (s.setOp o) = s.setOp p ∧ Marks s p ∧
        (∀ k : NodeId, o.done[k] = true → p.done[k] = true) ∧ ∀ m ∈ l, s.atRest m → p.done[m] = true := by
    intro l
    induction l with
    | nil => exact fun o h => ⟨o, rfl, h, fun _ hk => hk, fun m hm => by simp at hm⟩
    | cons m l ih =>
      intro o h
      obtain ⟨p, e, hp, hg, hm⟩ := State.opSettled_marks hu h m
      obtain ⟨p', e', hp', hg', hm'⟩ := ih p hp
      refine ⟨p', ?_, hp', fun k hk => hg' k (hg k hk), fun k hk hs => ?_⟩
      · rw [List.foldl_cons, e, e']
      · rcases List.mem_cons.1 hk with rfl | hk
        · exact hg' _ (hm hs)
        · exact hm' k hk hs
  unfold State.opFollow
  split
  · obtain ⟨p, e, hp, _, hm⟩ := fold allNodes s.op (Marks.refl s)
    exact ⟨p, e, hp, fun m => hm m (mem_allNodes m)⟩
  · rename_i hc
    exact ⟨s.op, rfl, Marks.refl s, fun m hs => absurd hs.1 hc⟩

/-! ## Requests that are taken, and one that displaces -/

theorem State.request_taken {s : State} {e : Entry} {n : NodeId} (h : s.reports) (hn : e.node = some n)
    (ht : s.queued n e.cmd = true ∨ s.nodes.queue.length < 16) : ∃ q, s.request e = s.setQueue q := by
  rw [(State.request_reports e h).1]
  have j := s.joinQueue_joins e
  generalize s.joinQueue e = t at j
  have absurd' : (∀ y ∈ s.nodes.queue, e.same y = false) → Config.queueMax ≤ s.nodes.queue.length → False := by
    intro none full
    rcases ht with ht | ht
    · obtain ⟨y, hy, h1, h2⟩ := (s.queued_iff n e.cmd).1 ht
      have := none y hy
      rw [(Entry.same_iff e y).2 ⟨by rw [hn, h1], h2.symm⟩] at this
      simp at this
    · exact absurd ht (Nat.not_lt.2 full)
  cases j with
  | entry old q => exact ⟨q, rfl⟩
  | flight x fl =>
    rw [h.2] at fl
    simp at fl
  | place => exact ⟨_, rfl⟩
  | displaces v q full _ _ none => exact (absurd' none full).elim
  | refused full _ none _ => exact (absurd' none full).elim

theorem removeLastNormal_append (q : List Entry) {e : Entry} (h : e.urgent = false) :
    removeLastNormal (q ++ [e]) = some (e, q) := by
  simp [removeLastNormal, h]

/-- R138: an URGENT request that finds the queue full of others displaces the last NORMAL entry. -/
theorem State.request_displaces {s : State} {e v : Entry} {q : List Entry} (h : s.reports) (hu : e.urgent = true)
    (hn : ∀ y ∈ s.nodes.queue, e.same y = false) (full : 16 ≤ s.nodes.queue.length)
    (hv : removeLastNormal s.nodes.queue = some (v, q)) :
    s.request e = (s.refuseEntry v).setQueue (insertEntry e q) := by
  have hf : s.absorbedInFlight e = none := by simp [State.absorbedInFlight, h.2]
  have hr : ¬ s.nodes.queue.length < Config.queueMax := Nat.not_lt.2 full
  rw [(State.request_reports e h).1, State.joinQueue, (coalesce_none e _).2 hn]
  simp only [hf, hr, if_false, hu, if_true, hv]

/-- R160, R138: a request leaves a node's work as it is where its initial MOVE has not been asked. -/
theorem State.tellRefused_work (s : State) (m : NodeId) (c : Command) (o : Origin) {n : NodeId}
    (h : (s.work n).moveBegun = false) : (s.tellRefused m c o).work n = s.work n := by
  unfold State.tellRefused
  split
  · rfl
  · rfl
  · split
    · rename_i hb
      rw [State.work_setWork, if_neg]
      rintro rfl
      rw [h] at hb
      simp at hb
    · rfl
  · rfl
  · rfl

theorem State.refuseEntry_work (s : State) (e : Entry) {n : NodeId} (h : (s.work n).moveBegun = false) :
    (s.refuseEntry e).work n = s.work n := by
  unfold State.refuseEntry
  split
  · rfl
  · rename_i m _
    generalize e.origin :: e.absorbed = l
    induction l generalizing s with
    | nil => rfl
    | cons o l ih =>
      have ht := s.tellRefused_work m e.cmd o h
      exact (ih _ (by rw [ht]; exact h)).trans ht

theorem State.request_work {s : State} (e : Entry) {n : NodeId} (hr : s.reports) (h : (s.work n).moveBegun = false) :
    (s.request e).work n = s.work n := by
  rw [(State.request_reports e hr).1]
  have j := s.joinQueue_joins e
  generalize s.joinQueue e = t at j
  cases j with
  | entry | flight | place => rfl
  | displaces v q => exact s.refuseEntry_work v h
  | refused => exact s.refuseEntry_work e h

/-! ## In COMMISSIONING the entry to READY is told to no one who acts -/

theorem State.readyNotice_commissioning {s : State} {n : NodeId} (left : NodeState) (c : Option StartCause)
    (hb : (s.node n).binding = some (.plant .intake) ∨ (s.node n).unplanted) (h : s.op.state = .commissioning) :
    s.readyNotice n left c = s := by
  unfold State.readyNotice
  split
  · rfl
  · simp [State.zoneNodeReady, h]
  · rename_i role hrole
    rcases hb with hb | hb
    · rw [hb] at hrole
      obtain rfl : PlantRole.intake = role := by simpa using hrole
      unfold State.plantNodeReady State.intakeNodeReady
      dsimp only
      split
      · simp [State.intakeCompare, h]
      · rfl
    · exact absurd hrole (hb role)

end Sys2Proof.Machine
end

section
/-! SETTLES O46. The IDENT and the STATUS of a node in COMMISSIONING, and the obligation (R148, R159, R160). -/
namespace Sys2Proof.Machine

/-! ## The IDENT that ends a start-up of commissioning -/

/-- R148: the outcome of such an IDENT: the record alone. -/
theorem commissionIdent_outcome {s : State} {n : NodeId} {x : Txn} {st k ver : Byte} {d : Time}
    (h : s.answered d n x st [k, ver]) (hx : x.cmd = .ident) (hs : (s.node n).state = .starting)
    (hc : s.op.state = .commissioning) (hcause : (s.node n).cause = some .commission)
    (hkind : kindOfByte k = (s.node n).kind) (hne : (s.node n).kind ≠ none)
    (hb : (s.node n).binding = some (.plant .intake) ∨ (s.node n).unplanted) :
    (s.reporting d).outcomeOk x n st [k, ver] =
      (s.reporting d).setNode n ({ s.node n with failCount := 0 }.started ver) := by
  obtain ⟨_, hi, hl, hr, hf⟩ := h
  have hk : ((s.reporting d).answeredAt n).node n = { s.node n with failCount := 0 } := State.answeredAt_node _ _
  have hkd : kindOfByte k ≠ none ∧ kindOfByte k = (((s.reporting d).answeredAt n).node n).kind := by
    rw [hk]
    exact ⟨by rw [hkind]; exact hne, hkind⟩
  have hno : ¬ restores (((s.reporting d).answeredAt n).node n).cause := by
    rw [hk]
    show ¬ restores (s.node n).cause
    rw [hcause]
    simp [restores]
  rw [State.outcomeOk_starting (s := s.reporting d) x st _ hs, State.replyStarting_ident hi hf hl hr hx, if_pos hkd,
    State.startEnds_eq, if_neg hno, hk, State.answeredAt_setNode]
  refine State.readyNotice_commissioning _ _ ?_ hc
  unfold NodeRec.unplanted
  rw [State.node_setNode_same]
  exact hb

/-- R160: the initial MOVE's request. -/
def State.initialEntry (s : State) (n : NodeId) : Entry :=
  ⟨some n, .move, s.initialTarget n, s.plantBound n, .commission, []⟩

theorem State.initialMove_ready {s : State} {n : NodeId} (h : (s.node n).state = .ready) :
    s.initialMove n = (s.setWork n .moveAsked).request (s.initialEntry n) := by
  have h' : ((s.setWork n .moveAsked).node n).state = .ready := h
  unfold State.initialMove State.askMove
  simp only [h']
  rfl

/-- R160: a node READY after its start-up is sent its initial MOVE; a SENSOR has its mark. -/
theorem State.opNodeCheck_startUp {s : State} {n : NodeId} (hc : s.commissions = true) (hr : (s.node n).state = .ready)
    (hw : s.work n = .startUp) :
    s.opNodeCheck n = if (s.node n).kind = some .sensor then s.markDone n else s.initialMove n := by
  unfold State.opNodeCheck
  rw [if_pos ⟨hc, hr⟩]
  simp only [hw]

theorem State.opNodeCheck_waitBusy {s : State} {n : NodeId} (hc : s.commissions = true) (hr : (s.node n).state = .ready)
    (hw : s.work n = .waitBusy) : s.opNodeCheck n = (s.setWork n .startUp).startUp n .commission := by
  unfold State.opNodeCheck
  rw [if_pos ⟨hc, hr⟩]
  simp only [hw]

theorem State.commissions_of {s : State} (h1 : s.op.state = .commissioning) (h2 : s.op.soft = .none) :
    s.commissions = true := by
  simp [State.commissions, h1, h2]

theorem State.commissions_ended {s : State} (h : s.op.soft ≠ .none) : s.commissions = false := by
  simp [State.commissions, h]

theorem State.reports_of_line {s t : State} (h : s.reports) (e : t.line = s.line) : t.reports := by
  unfold State.reports
  rw [e]
  exact h

/-! ## What stands as the line is freed -/

/-- The state after an event of an unfinished commissioning. -/
theorem State.freed_marks {s : State} {o : OpControl} (h : Marks s o) {n : NodeId} (hw : s.work n ≠ .moveDone) :
    (s.setOp o).freeLine.op.state = s.op.state ∧ (s.setOp o).freeLine.work n = s.work n ∧
      NodeSide (s.setOp o) (s.setOp o).freeLine := by
  have e := (s.setOp o).freeLine_op
  refine ⟨?_, ?_, NodeSide.freeLine _⟩
  · rw [e]
    exact h.state
  · show (s.setOp o).freeLine.op.work[n] = _
    rw [e]
    exact (h.kept n hw).2

theorem State.askedMoveBy_queued {s : State} {e : Entry} {n : NodeId} (h : s.stands e.mark) (hi : s.line.inFlight = none)
    (hn : e.node = some n) (hc : e.cmd = .move) : s.freeLine.askedMoveBy n e.argument e.origin := by
  refine ((h.freed hi).mono ?_).askedMoveBy
  rintro m c a o os ⟨rfl, rfl, hm, _⟩
  exact ⟨hn, hc, hm hc⟩

/-- The state in which the start-up of a node in COMMISSIONING has ended: the node's record says so, and the rest of what
commissioning looks at is as before. -/
structure StartUpEnded (s v : State) (n : NodeId) : Prop where
  ready : (v.node n).state = .ready
  kind : (v.node n).kind = (s.node n).kind
  binding : (v.node n).binding = (s.node n).binding
  configured : (v.node n).configured = (s.node n).configured
  op : v.op = s.op
  queue : v.nodes.queue = s.nodes.queue
  plant : v.plant = s.plant
  reports : v.reports
  others : ∀ m, m ≠ n → v.node m = s.node m

section
variable {s v : State} {n : NodeId} (e : StartUpEnded s v n)
include e

theorem StartUpEnded.work (m : NodeId) : v.work m = s.work m := by
  unfold State.work
  rw [e.op]

theorem StartUpEnded.commissions (hc : s.op.state = .commissioning) (hsoft : s.op.soft = .none) : v.commissions = true :=
  State.commissions_of (by rw [e.op]; exact hc) (by rw [e.op]; exact hsoft)

/-- R160: a node that is no SENSOR is asked its initial MOVE. -/
theorem StartUpEnded.asks (hc : s.op.state = .commissioning) (hsoft : s.op.soft = .none) (hw : s.work n = .startUp)
    (hk : (s.node n).kind ≠ some .sensor) (hcf : (s.node n).configured = true) (hd : s.op.done[n] = false)
    (htk : s.takesIn n .move) :
    ((v.opNodeCheck n).opFollow.freeLine.node n).state = .ready ∧
      (v.opNodeCheck n).opFollow.freeLine.work n = .moveAsked ∧
      (v.opNodeCheck n).opFollow.freeLine.askedMoveBy n
        (if (s.node n).binding = some (.plant .intake) then s.plant.minFreshAir else 0) .commission := by
  have hcom := e.commissions hc hsoft
  have e1 : v.opNodeCheck n = (v.setWork n .moveAsked).request (v.initialEntry n) := by
    rw [State.opNodeCheck_startUp hcom e.ready (by rw [e.work]; exact hw), if_neg (by rw [e.kind]; exact hk),
      State.initialMove_ready e.ready]
  have htk' : (v.setWork n .moveAsked).queued n .move = true ∨ (v.setWork n .moveAsked).nodes.queue.length < 16 := by
    have := State.takesIn_move htk
    rw [show (v.setWork n .moveAsked).queued n .move = s.queued n .move by
      show v.nodes.queue.any _ = s.nodes.queue.any _
      rw [e.queue], show (v.setWork n .moveAsked).nodes.queue = s.nodes.queue from e.queue]
    exact this
  have hrep : (v.setWork n .moveAsked).reports := e.reports
  obtain ⟨q, hq⟩ := State.request_taken hrep (e := v.initialEntry n) rfl htk'
  have stands : ((v.setWork n .moveAsked).request (v.initialEntry n)).stands (v.initialEntry n).mark :=
    State.request_stands (n := n) rfl (htk'.elim .inl (fun h => .inr (.inr h)))
  have wz : ((v.setWork n .moveAsked).setQueue q).work n = .moveAsked := by
    show (v.setWork n .moveAsked).work n = _
    rw [State.work_setWork, if_pos rfl]
  have unf : ((v.setWork n .moveAsked).setQueue q).unfinished := by
    refine .inr ⟨n, e.configured.trans hcf, ?_, by rw [wz]; simp⟩
    show v.op.done[n] = false
    rw [e.op]
    exact hd
  obtain ⟨o, eo, marks, _⟩ := State.opFollow_marks unf
  rw [hq] at e1 stands
  rw [e1, eo]
  obtain ⟨_, f2, side⟩ := State.freed_marks marks (n := n) (by rw [wz]; simp)
  refine ⟨?_, f2.trans wz, ?_⟩
  · rw [side.recs n]
    exact e.ready
  · have asked := State.askedMoveBy_queued (s := ((v.setWork n .moveAsked).setQueue q).setOp o) (n := n) stands hrep.2
      rfl rfl
    have harg : (v.initialEntry n).argument =
        if (s.node n).binding = some (.plant .intake) then s.plant.minFreshAir else 0 := by
      show v.initialTarget n = _
      rw [State.initialTarget, e.binding, e.plant]
    rw [harg] at asked
    exact asked

/-- R160: a SENSOR's done mark is set. -/
theorem StartUpEnded.marks (hc : s.op.state = .commissioning) (hsoft : s.op.soft = .none) (hw : s.work n = .startUp)
    (hk : (s.node n).kind = some .sensor) (hh : s.op.haltSent = false) :
    ((v.opNodeCheck n).opFollow.freeLine.node n).state = .ready ∧
      (v.opNodeCheck n).opFollow.freeLine.op.done[n] = true := by
  have hcom := e.commissions hc hsoft
  have hh' : v.op.haltSent = false := by rw [e.op]; exact hh
  have e1 : v.opNodeCheck n = v.setOp (v.op.marked n) := by
    rw [State.opNodeCheck_startUp hcom e.ready (by rw [e.work]; exact hw), if_pos (by rw [e.kind]; exact hk),
      State.markDone_unfinished (.inl hh')]
  obtain ⟨o, eo, marks, _⟩ := State.opFollow_marks (s := v.setOp (v.op.marked n)) (.inl hh')
  rw [e1, eo]
  have side := NodeSide.freeLine ((v.setOp (v.op.marked n)).setOp o)
  refine ⟨?_, ?_⟩
  · rw [side.recs n]
    exact e.ready
  · rw [State.freeLine_op]
    exact marks.grown n ((v.op.marked_done n n).trans (if_pos rfl))

/-- R138, R160: the intake's initial MOVE displaces the last entry of a full queue, and a node whose restore that was is
settled. -/
theorem StartUpEnded.displaces (hc : s.op.state = .commissioning) (hsoft : s.op.soft = .none)
    (hw : s.work n = .startUp) (hk : (s.node n).kind ≠ some .sensor) (hcf : (s.node n).configured = true)
    (hd : s.op.done[n] = false) (hbi : (s.node n).binding = some (.plant .intake)) (hqn : s.queued n .move = false)
    {m : NodeId} {q : List Entry} {y : Entry} (hm : m ≠ n) (hq : s.nodes.queue = q ++ [y])
    (full : 16 ≤ s.nodes.queue.length) (hy : y = ⟨some m, .move, y.argument, false, .restore, []⟩)
    (huniq : ∀ w ∈ q, ¬ (w.node = some m ∧ w.cmd = .move)) (hwm : s.work m = .moveDone)
    (hrm : (s.node m).state = .ready) (hpm : (s.node m).pending = none) :
    (v.opNodeCheck n).opFollow.freeLine.op.done[m] = true ∧
      (v.opNodeCheck n).opFollow.freeLine.askedMoveBy n s.plant.minFreshAir .commission := by
  have hcom := e.commissions hc hsoft
  have hurg : (v.initialEntry n).urgent = true := by
    show v.plantBound n = true
    unfold State.plantBound
    rw [e.binding, hbi]
  have hnone : ∀ z ∈ (v.setWork n .moveAsked).nodes.queue, (v.initialEntry n).same z = false := by
    intro z hz
    exact Entry.same_false (State.not_queued hqn z (by rw [← e.queue]; exact hz))
  have hyu : y.urgent = false := by rw [hy]
  have hyn : (v.setWork n .moveAsked).refuseEntry y = v.setWork n .moveAsked := by rw [hy]; rfl
  have hrem : removeLastNormal (v.setWork n .moveAsked).nodes.queue = some (y, q) := by
    show removeLastNormal v.nodes.queue = _
    rw [e.queue, hq]
    exact removeLastNormal_append q hyu
  have hrep : (v.setWork n .moveAsked).reports := e.reports
  have e1 : v.opNodeCheck n = (v.setWork n .moveAsked).setQueue (insertEntry (v.initialEntry n) q) := by
    rw [State.opNodeCheck_startUp hcom e.ready (by rw [e.work]; exact hw), if_neg (by rw [e.kind]; exact hk),
      State.initialMove_ready e.ready,
      State.request_displaces hrep hurg hnone (by show 16 ≤ v.nodes.queue.length; rw [e.queue]; exact full) hrem, hyn]
  generalize hz : (v.setWork n .moveAsked).setQueue (insertEntry (v.initialEntry n) q) = z at e1
  have zw : ∀ i, z.work i = if i = n then .moveAsked else v.work i := fun i => by
    rw [← hz]
    exact State.work_setWork v n i .moveAsked
  have zn : ∀ i, z.node i = v.node i := fun i => by rw [← hz]; rfl
  have unf : z.unfinished := by
    refine .inr ⟨n, by rw [zn]; exact e.configured.trans hcf, ?_, by rw [zw, if_pos rfl]; simp⟩
    rw [← hz]
    show v.op.done[n] = false
    rw [e.op]
    exact hd
  obtain ⟨o, eo, _, settled⟩ := State.opFollow_marks unf
  have zline : z.line = v.line := by rw [← hz]; rfl
  have hleft : z.moveLeft m = false := by
    have hqm : z.queued m .move = false := by
      rw [Bool.eq_false_iff]
      intro hc
      obtain ⟨w, hw, h1, h2⟩ := (z.queued_iff m .move).1 hc
      rw [← hz] at hw
      rcases (mem_insertEntry _ _ _).1 hw with rfl | hw
      · exact hm (by simpa [State.initialEntry] using h1.symm)
      · exact huniq w hw ⟨h1, h2⟩
    have hfm : z.inFlight m .move = false := by
      unfold State.inFlight
      rw [zline, e.reports.2]
    have hpm' : (z.node m).pending = none := by rw [zn, e.others m hm, hpm]
    rw [State.moveLeft, hqm, hfm, hpm']
    rfl
  have rest : z.atRest m := by
    refine ⟨?_, ?_, ?_, hleft⟩
    · rw [← hz]
      exact hcom
    · rw [zw, if_neg hm, e.work]
      exact hwm
    · rw [zn, e.others m hm]
      exact hrm
  rw [e1, eo]
  refine ⟨?_, ?_⟩
  · rw [State.freeLine_op]
    exact settled m rest
  · have stands : (z.setOp o).stands (v.initialEntry n).mark := by
      refine .inl ⟨v.initialEntry n, ?_, rfl, rfl, fun _ => ⟨rfl, rfl⟩, List.mem_cons_self ..⟩
      rw [← hz]
      exact (mem_insertEntry _ _ _).2 (.inl rfl)
    have asked := State.askedMoveBy_queued (n := n) stands (by show z.line.inFlight = none; rw [zline]; exact e.reports.2) rfl
      rfl
    have harg : (v.initialEntry n).argument = s.plant.minFreshAir := by
      show v.initialTarget n = _
      rw [State.initialTarget, e.binding, e.plant, if_pos hbi]
    rw [harg] at asked
    exact asked

end

section
variable {s : State} {n : NodeId} {x : Txn} {st : Byte} {d : Time}

/-- R159 to R161: what the IDENT that ends a start-up of commissioning leads to. -/
theorem commissionIdent_rows {k ver : Byte}
    (h : s.answered d n x st [k, ver]) (hx : x.cmd = .ident) (hs : (s.node n).state = .starting)
    (hc : s.op.state = .commissioning) (hcause : (s.node n).cause = some .commission) (hw : s.work n = .startUp)
    (hkind : kindOfByte k = (s.node n).kind) (hne : (s.node n).kind ≠ none) (hcf : (s.node n).configured = true)
    (hd : s.op.done[n] = false)
    (hb : (s.node n).binding = some (.plant .intake) ∨ ∀ role, (s.node n).binding ≠ some (.plant role)) :
    ∃ t, exec .closingQuietEnd s = .next t ∧
      (s.op.soft ≠ .none → lineFreed
        (State.setNode { s with now := max s.now d } n
          { s.node n with failCount := 0, state := .ready, version := some ver, wakeTimer := none }) t) ∧
      (s.op.soft = .none → (s.node n).kind ≠ some .sensor → s.takesIn n .move →
        (t.node n).state = .ready ∧ t.work n = .moveAsked ∧
        t.askedMoveBy n (if (s.node n).binding = some (.plant .intake) then s.plant.minFreshAir else 0) .commission) ∧
      (s.op.soft = .none → (s.node n).kind = some .sensor → s.op.haltSent = false →
        (t.node n).state = .ready ∧ t.op.done[n] = true) ∧
      (s.op.soft = .none → (s.node n).kind ≠ some .sensor → (s.node n).binding = some (.plant .intake) →
        s.queued n .move = false → ∀ m q e, m ≠ n → s.nodes.queue = q ++ [e] → 16 ≤ s.nodes.queue.length →
        e = ⟨some m, .move, e.argument, false, .restore, []⟩ → (∀ y ∈ q, ¬ (y.node = some m ∧ y.cmd = .move)) →
        s.work m = .moveDone → (s.node m).state = .ready → (s.node m).pending = none →
        t.op.done[m] = true ∧ t.askedMoveBy n s.plant.minFreshAir .commission) := by
  have e := exec_replyFollowed h.1
  rw [commissionIdent_outcome h hx hs hc hcause hkind hne hb] at e
  have hl : s.line.phase ≠ .idle := by rw [h.1.2.1]; simp
  generalize hf : { s.node n with failCount := 0 }.started ver = f at e
  generalize hv : (s.reporting d).setNode n f = v at e
  have vn : v.node n = f := by rw [← hv, State.node_setNode_same]
  have ended : StartUpEnded s v n := {
    ready := by rw [vn, ← hf]; rfl
    kind := by rw [vn, ← hf]; rfl
    binding := by rw [vn, ← hf]; rfl
    configured := by rw [vn, ← hf]; rfl
    op := by rw [← hv]; rfl
    queue := by rw [← hv]; rfl
    plant := by rw [← hv]; rfl
    reports := by rw [← hv]; exact State.reporting_reports d hl
    others := fun m hm => by
      rw [← hv, State.node_setNode, if_neg hm]
      rfl }
  refine ⟨_, e, fun hsoft => ?_, fun hsoft hk htk => ended.asks hc hsoft hw hk hcf hd htk,
    fun hsoft hk hh => ended.marks hc hsoft hw hk hh,
    fun hsoft hk hbi hqn m q y hm hq full hy huniq hwm hrm hpm =>
      ended.displaces hc hsoft hw hk hcf hd hbi hqn hm hq full hy huniq hwm hrm hpm⟩
  have hcom : v.commissions = false := State.commissions_ended (by rw [ended.op]; exact hsoft)
  have e1 : v.opNodeCheck n = v := by simp [State.opNodeCheck, hcom]
  have e2 : v.opFollow = v := by simp [State.opFollow, hcom]
  rw [e1, e2, ← hv, ← hf]
  exact lineFreed_of_eq rfl

end

end Sys2Proof.Machine
end

section
/-! SETTLES O46. The STATUS that ends a busy period which commissioning waited for (R159), and the obligation. -/
namespace Sys2Proof.Machine

section
variable {s : State} {n : NodeId} {x : Txn} {st v g : Byte} {d : Time}

/-- R142, R151: in COMMISSIONING the end of a busy period is told to no one who acts. -/
theorem statusReply_commissioning {b : State} {x : Txn} {v g : Nat} (hs : (b.node n).state = .busy)
    (hc : b.op.state = .commissioning)
    (hb : (b.node n).binding = some (.plant .intake) ∨ (b.node n).unplanted) :
    b.statusReply x n false v g = (b.setNode n ((b.node n).withStatus v g)).endBusy n := by
  have side := State.endBusy_node (b.setNode n ((b.node n).withStatus v g)) n
  generalize hw : (b.setNode n ((b.node n).withStatus v g)).endBusy n = w at side
  have wb : (w.node n).binding = (b.node n).binding := by
    rw [side.recs n]
    simp [NodeRec.withStatus, NodeRec.ended]
  have wc : w.op.state = .commissioning := by
    rw [side.op]
    exact hc
  have hrep : w.reportStatus x n false v = w := by
    unfold State.reportStatus
    split
    · rename_i role hrole
      rw [wb] at hrole
      rcases hb with hb | hb
      · rw [hb] at hrole
        obtain rfl : PlantRole.intake = role := by simpa using hrole
        rfl
      · exact absurd hrole (hb role)
    · rfl
    · rfl
  have hstill : w.stillNotice n (b.node n).busyFromFault = w := by
    unfold State.stillNotice
    split
    · refine State.readyNotice_commissioning _ _ ?_ wc
      unfold NodeRec.unplanted
      rw [wb]
      exact hb
    · rfl
  have e : b.statusReply x n false v g =
      (((b.setNode n ((b.node n).withStatus v g)).endBusy n).reportStatus x n false v).stillNotice n
        (b.node n).busyFromFault := by
    simp only [State.statusReply, hs, if_true]
    rfl
  rw [e, hw, hrep, hstill]

/-- R142: what the end of a busy period leaves while an outcome is reported. -/
theorem State.endBusy_reports {b : State} (hr : b.reports) (hw : (b.work n).moveBegun = false)
    (room : b.nodes.queue.length < 16) :
    (b.endBusy n).reports ∧ (b.endBusy n).work n = b.work n ∧
      (b.endBusy n).nodes.queue.length ≤ b.nodes.queue.length + 1 := by
  have hr' : (b.setNode n (b.node n).ended).reports := hr
  unfold State.endBusy
  dsimp only
  split
  · exact ⟨hr', rfl, Nat.le_succ _⟩
  · split
    · exact ⟨hr', rfl, Nat.le_succ _⟩
    · exact ⟨State.reports_of_line hr' (State.request_reports _ hr').2, State.request_work _ hr' hw,
        State.request_length _ _ room⟩

theorem State.endBusy_work {b : State} (hr : b.reports) (hw : (b.work n).moveBegun = false) :
    (b.endBusy n).reports ∧ (b.endBusy n).work n = b.work n := by
  have hr' : (b.setNode n (b.node n).ended).reports := hr
  unfold State.endBusy
  dsimp only
  split
  · exact ⟨hr', rfl⟩
  · split
    · exact ⟨hr', rfl⟩
    · exact ⟨State.reports_of_line hr' (State.request_reports _ hr').2, State.request_work _ hr' hw⟩

theorem length_startQueue (n : NodeId) (q : List Entry) : (startQueue n q).length ≤ q.length :=
  List.length_filter_le _ _

/-- R159: a start-up of commissioning that begins while an outcome is reported, in an unfinished sequence. -/
theorem State.startUp_commission {b : State} (hr : b.reports) (hc : b.op.state = .commissioning)
    (hcf : (b.node n).configured = true) (hd : b.op.done[n] = false) {t : State}
    (ht : t = (((b.setWork n .startUp).startUp n .commission).opFollow).freeLine) :
    t.op.state = .commissioning ∧ t.work n = .startUp ∧
      (t.node n).state = .starting ∧ (t.node n).cause = some .commission ∧ (t.node n).startStep = .wake ∧
      (t.node n).wakeCount = 0 ∧ (t.node n).pending = none ∧ (b.nodes.queue.length < 16 → t.asked n .wake) := by
  generalize hy : (b.setWork n .startUp).startingRecord n .commission 0 .wake = y
  have yn : y.node n = startRecord (b.setWork n .startUp) (b.node n) .commission 0 .wake := by
    rw [← hy, State.startingRecord_node]
    rfl
  have yop : y.op = (b.setWork n .startUp).op := by rw [← hy]; rfl
  have yw : y.work n = .startUp := by
    rw [show y.work n = (b.setWork n .startUp).work n by rw [← hy]; rfl, State.work_setWork, if_pos rfl]
  have yrep : y.reports := by rw [← hy]; exact hr
  have e : (b.setWork n .startUp).startUp n .commission = y.askOwn n .wake .commission := by
    rw [State.startUp, hy, State.askStart_wake (by rw [yn]; rfl), yn]
    rfl
  generalize hz : y.askOwn n .wake .commission = z at e
  have side := NodeSide.askOwn y n .wake .commission
  rw [hz] at side
  have zw : z.work n = .startUp := by
    rw [← hz, ← yw]
    exact State.request_work _ yrep (by rw [yw]; rfl)
  have zop : z.op.state = .commissioning := by
    rw [side.op, yop]
    exact hc
  have unf : z.unfinished := by
    refine .inr ⟨n, ?_, ?_, by rw [zw]; simp⟩
    · rw [side.recs n, yn]
      exact hcf
    · rw [side.op, yop]
      exact hd
  obtain ⟨o, eo, marks, _⟩ := State.opFollow_marks unf
  rw [e, eo] at ht
  obtain ⟨f1, f2, fs⟩ := State.freed_marks marks (n := n) (by rw [zw]; simp)
  rw [← ht] at f1 f2 fs
  have zn := side.recs n
  have tn := fs.recs n
  rw [show (z.setOp o).node n = z.node n from rfl, zn, yn] at tn
  have zst : (z.node n).state ≠ .busy := by rw [zn, yn]; simp [startRecord]
  refine ⟨f1.trans zop, f2.trans zw, by rw [tn]; rfl, by rw [tn]; rfl, by rw [tn]; rfl, by rw [tn]; rfl, ?_,
    fun room => ?_⟩
  · rw [fs.still n zst]
    show (z.node n).pending = none
    rw [side.still n (by rw [yn]; simp [startRecord]), yn]
    rfl
  · have hlen : y.nodes.queue.length < 16 := by
      refine Nat.lt_of_le_of_lt ?_ room
      rw [← hy]
      exact length_startQueue n b.nodes.queue
    have stands := State.request_stands (s := y) (e := ⟨some n, .wake, 0, false, .commission, []⟩) (n := n) rfl
      (.inr (.inr hlen))
    have hline : z.line = y.line := by rw [← hz]; exact (State.request_reports _ yrep).2
    rw [show y.request ⟨some n, .wake, 0, false, .commission, []⟩ = z from hz] at stands
    have freed := State.stands.freed (s := z.setOp o) stands (by show z.line.inFlight = none; rw [hline]; exact yrep.2)
    rw [← ht] at freed
    rw [State.asked_iff_stands]
    exact freed.mono (fun m c a o os ⟨h1, h2, _⟩ => ⟨h1, h2⟩)

/-- R159: the STATUS that ends the busy period which commissioning waited for. -/
theorem commissionStatus_rows (h : s.answered d n x st [v, g]) (hx : x.cmd = .status) (hs : (s.node n).state = .busy)
    (hb : stBusy st = false) (hv : valueFits (s.node n).kind v.toNat = true)
    (hg : valueFits (s.node n).kind g.toNat = true) (hc : s.op.state = .commissioning) (hsoft : s.op.soft = .none)
    (hw : s.work n = .waitBusy) (hcf : (s.node n).configured = true) (hd : s.op.done[n] = false)
    (hbind : (s.node n).binding = some (.plant .intake) ∨ ∀ role, (s.node n).binding ≠ some (.plant role)) :
    ∃ t, exec .closingQuietEnd s = .next t ∧ t.op.state = .commissioning ∧ t.work n = .startUp ∧
      (t.node n).state = .starting ∧ (t.node n).cause = some .commission ∧ (t.node n).startStep = .wake ∧
      (t.node n).wakeCount = 0 ∧ (t.node n).pending = none ∧
      (s.nodes.queue.length < 15 → t.asked n .wake) := by
  have e := exec_replyFollowed h.1
  have hl : s.line.phase ≠ .idle := by rw [h.1.2.1]; simp
  have hk : ((s.reporting d).answeredAt n).node n = { s.node n with failCount := 0 } := State.answeredAt_node _ _
  have out := State.outcomeOk_status h hx (.inr hs) hv hg
  rw [hb, statusReply_commissioning (b := (s.reporting d).answeredAt n) (by rw [hk]; exact hs) hc
    (by unfold NodeRec.unplanted; rw [hk]; exact hbind), hk, State.answeredAt_setNode] at out
  generalize hbase : (s.reporting d).setNode n
    ({ s.node n with failCount := 0 }.withStatus v.toNat g.toNat) = b at out
  have brep : b.reports := by rw [← hbase]; exact State.reporting_reports d hl
  have bw : b.work n = .waitBusy := by rw [← hbase]; exact hw
  have bn : b.node n = { s.node n with failCount := 0 }.withStatus v.toNat g.toNat := by
    rw [← hbase, State.node_setNode_same]
  have bop : b.op = s.op := by rw [← hbase]; rfl
  have bq : b.nodes.queue = s.nodes.queue := by rw [← hbase]; rfl
  have side := State.endBusy_node b n
  obtain ⟨wrep, ww⟩ := State.endBusy_work (n := n) brep (by rw [bw]; rfl)
  have wop := side.op
  have wn := side.recs n
  rw [State.node_setNode_same] at wn
  generalize hwd : b.endBusy n = w at out wrep ww wop wn
  have wready : (w.node n).state = .ready := by rw [wn]; rfl
  have wcom : w.commissions = true :=
    State.commissions_of (by rw [wop]; exact (congrArg OpControl.state bop).trans hc)
      (by rw [wop]; exact (congrArg OpControl.soft bop).trans hsoft)
  rw [out, State.opNodeCheck_waitBusy wcom wready (ww.trans bw)] at e
  refine ⟨_, e, ?_⟩
  obtain ⟨t1, t2, t3, t4, t5, t6, t7, t8⟩ := State.startUp_commission (n := n) (b := w) wrep
    (by rw [wop]; exact (congrArg OpControl.state bop).trans hc) (by rw [wn, bn]; exact hcf)
    (by rw [wop]; show b.op.done[n] = false; rw [bop]; exact hd) rfl
  refine ⟨t1, t2, t3, t4, t5, t6, t7, fun hlen => t8 ?_⟩
  have hb16 : b.nodes.queue.length < 16 := by rw [bq]; omega
  have := (State.endBusy_reports (n := n) brep (by rw [bw]; rfl) hb16).2.2
  rw [hwd, bq] at this
  omega

end

/-- Settles O46: the replies in STARTING, the failures, and the two events that carry commissioning on. -/
theorem startUpReplies : Obligations.StartUpReplies := by
  refine ⟨?_, ?_, ?_, ?_, ?_⟩
  · exact fun s u n x st a d r h hx hs hfol hu hr => startingMove_rows h hx hs hfol hu hr
  · exact fun s u n x st data d r h hs hc hx hu hr => startUp_rows h hs hc hx hu hr
  · exact fun s u c d n x f h hs hc hx hu hf => startUp_fails h hs hc hx hu hf
  · exact fun s n x st k ver d h hx hs hc hcause hw hkind hne hcf hd hb =>
      commissionIdent_rows h hx hs hc hcause hw hkind hne hcf hd hb
  · exact fun s n x st v g d h hx hs hb hv hg hc hsoft hw hcf hd hbind =>
      commissionStatus_rows h hx hs hb hv hg hc hsoft hw hcf hd hbind

end Sys2Proof.Machine
end

section
/-! SUPPORT for O17. The blocks on entry to STOPPING (R24, R90, R106, R150, R163). -/
namespace Sys2Proof.Machine

/-! ## The pools are empty: a capacity write is the capacity alone -/

theorem Arbiter.dropAll_empty (a : Arbiter) : a.dropAll.empty := ⟨rfl, rfl, rfl, rfl⟩

theorem Arbiter.empty_setPool {a : Arbiter} (h : a.empty) (i : PoolId) (v : Nat) :
    (a.setPool i { a.pool i with capacity := v }).empty := by
  obtain ⟨h1, h2, h3, h4⟩ := h
  cases i <;> exact ⟨h1, h2, h3, h4⟩

theorem Arbiter.empty_grantOf {a : Arbiter} (h : a.empty) (z : Zone) : a.grantOf z = none := by
  obtain ⟨h1, h2, h3, h4⟩ := h
  simp [Arbiter.grantOf, Pool.grantOf, h1, h3]

theorem Arbiter.empty_view {a : Arbiter} (h : a.empty) :
    a.heat.view = ⟨false, 0⟩ ∧ a.cool.view = ⟨false, 0⟩ := by
  obtain ⟨h1, h2, h3, h4⟩ := h
  simp [Pool.view, Pool.grantedTotal, h1, h2, h3, h4]

/-- R69: with nothing granted or claimed before and after, no notice says anything. -/
theorem State.notices_empty {s : State} {b : Arbiter} (z : Option Zone) (h : s.arb.empty) (hb : b.empty) :
    s.notices b z = s := by
  have fold : ∀ l : List Zone, l.foldl
      (fun t z' => if z = some z' ∨ b.grantOf z' = s.arb.grantOf z' then t else t.zoneTargets z') s = s := by
    intro l
    induction l with
    | nil => rfl
    | cons y l ih =>
      rw [List.foldl_cons, if_pos (.inr (by rw [Arbiter.empty_grantOf h, Arbiter.empty_grantOf hb])), ih]
  have hg : s.grantNotices b z = s := fold _
  have hh : s.hearHeat b = s := by
    unfold State.hearHeat
    dsimp only
    rw [if_pos (by rw [(Arbiter.empty_view h).1, (Arbiter.empty_view hb).1])]
  have hc : s.hearCool b = s := by
    unfold State.hearCool
    dsimp only
    rw [if_pos (by rw [(Arbiter.empty_view h).2, (Arbiter.empty_view hb).2])]
  unfold State.notices
  dsimp only
  rw [hg, hh, hc]

theorem Arbiter.setPool_same (a : Arbiter) (i : PoolId) : a.setPool i { a.pool i with capacity := (a.pool i).capacity } = a := by
  cases i <;> rfl

theorem State.writeCapacity_empty {s : State} (i : PoolId) (v : Nat) (h : s.arb.empty) :
    s.writeCapacity i v = s.setArb (s.arb.setPool i { s.arb.pool i with capacity := v }) := by
  unfold State.writeCapacity
  split
  · rename_i hv
    rw [hv, Arbiter.setPool_same]
    rfl
  · rw [Arbiter.writeCapacity_empty _ _ _ _ _ h]
    exact State.notices_empty none (Arbiter.empty_setPool h i v) h

/-! ## The plant controller (R90, R106, R108) -/

theorem Seq.working_iff (q : Seq) : q.working = true ↔ q ∉ [Seq.off, .lockout, .fault] := by
  cases q <;> simp [Seq.working]

theorem HeaterState.ignites_iff (h : HeaterState) : h ∈ [HeaterState.igniting, .running] ↔ h = .igniting ∨ h = .running := by
  simp

/-- R90: the sequencer on entry to STOPPING. -/
def State.quietedSeq (s : State) : Sequencer :=
  { (if s.plant.seq.state.working then s.enterSeq .disengaging else s).plant.seq with
    minRunTimer := none, minRunExpired := false, holdTimer := none, holdMet := false, pollTimer := none }

theorem State.quietSequencer_eq (s : State) : s.quietSequencer = s.setSequencer s.quietedSeq := by
  unfold State.quietSequencer State.quietedSeq
  split <;> rfl

theorem State.quietedSeq_resting {s : State} (h : s.plant.seq.state ∈ [Seq.off, .lockout, .fault]) :
    s.quietedSeq =
      { s.plant.seq with
        minRunTimer := none, minRunExpired := false, holdTimer := none, holdMet := false, pollTimer := none } := by
  have hw : s.plant.seq.state.working ≠ true := fun hw => (Seq.working_iff _).1 hw h
  unfold State.quietedSeq
  rw [if_neg hw]

theorem State.quietedSeq_working {s : State} (h : s.plant.seq.state ∉ [Seq.off, .lockout, .fault]) :
    s.quietedSeq =
      { s.plant.seq with
        state := .disengaging, minRunTimer := none, minRunExpired := false, holdTimer := none, holdMet := false
        lockoutTimer := none, pollTimer := none, checkAsked := false } := by
  unfold State.quietedSeq
  rw [if_pos ((Seq.working_iff _).2 h)]
  simp [State.enterSeq, State.setSequencer]

theorem State.quietedSeq_committed (s : State) : s.quietedSeq.state.committed = 0 := by
  by_cases h : s.plant.seq.state ∈ [Seq.off, .lockout, .fault]
  · rw [State.quietedSeq_resting h]
    simp only [List.mem_cons, List.not_mem_nil, or_false] at h
    rcases h with h | h | h <;> rw [h] <;> rfl
  · rw [State.quietedSeq_working h]
    rfl

/-- R106: the heater on entry to STOPPING, and AUX_LOCKOUT with it. -/
def Heater.quieted (h : Heater) : Heater := if h.state ∈ [HeaterState.igniting, .running] then h.still .stopping else h

def CondBlock.quieted (c : CondBlock) (h : Heater) : CondBlock :=
  if h.state ∈ [HeaterState.igniting, .running] then { c with auxLockout := false } else c

theorem State.quietHeater_eq (s : State) :
    s.quietHeater = { s with
      plant := { s.plant with heater := s.plant.heater.quieted }, cond := s.cond.quieted s.plant.heater } := by
  unfold State.quietHeater Heater.quieted CondBlock.quieted
  cases h : s.plant.heater.state <;> rfl

theorem Heater.quieted_running (h : Heater) : h.quieted.state ≠ .running := by
  unfold Heater.quieted
  split
  · simp [Heater.still]
  · rename_i hn
    simp only [List.mem_cons, List.not_mem_nil, or_false, not_or] at hn
    exact hn.2

/-- R90, R106, R108: the plant controller on entry to STOPPING. -/
def State.quietedPlant (s : State) : Plant :=
  { s.plant with
    seq := s.quietedSeq, heater := s.plant.heater.quieted, viewHeat := ⟨false, 0⟩, viewCool := ⟨false, 0⟩
    purgeCount := 0, intakeTarget := some 0 }

theorem State.quietPlant_eq {s : State} (h : s.arb.empty) :
    s.quietPlant = { s with
      plant := s.quietedPlant, cond := s.cond.quieted s.plant.heater
      arb := { s.arb with
        heat := ⟨min 64 (s.plant.coolant * s.plant.defn.coolantUnits), [], []⟩, cool := ⟨0, [], []⟩ } } := by
  have e : s.quietPlant =
      (State.refreshCool { s with plant := s.quietedPlant, cond := s.cond.quieted s.plant.heater }).refreshHeat := by
    unfold State.quietPlant
    dsimp only
    rw [State.quietHeater_eq, State.quietSequencer_eq]
    rfl
  generalize hb : ({ s with plant := s.quietedPlant, cond := s.cond.quieted s.plant.heater } : State) = b at e
  have bemp : b.arb.empty := by rw [← hb]; exact h
  have hcool : b.coolCapacity = 0 := by
    unfold State.coolCapacity
    rw [← hb]
    show s.plant.defn.firstStages (min s.quietedSeq.state.committed _) = 0
    rw [State.quietedSeq_committed, Nat.zero_min]
    rfl
  have hheat : ∀ a, (b.setArb a).heatCapacity = min 64 (s.plant.coolant * s.plant.defn.coolantUnits) := by
    intro a
    unfold State.heatCapacity
    rw [← hb]
    show min 64 (s.plant.coolant * s.plant.defn.coolantUnits +
      if s.plant.heater.quieted.state = .running then _ else 0) = _
    rw [if_neg (Heater.quieted_running _)]
    rfl
  have hemp := Arbiter.empty_setPool bemp .cool 0
  have e1 : b.refreshCool = b.setArb (b.arb.setPool .cool { b.arb.pool .cool with capacity := 0 }) := by
    rw [State.refreshCool, State.writeCapacity_empty _ _ bemp, hcool]
  generalize ha : b.arb.setPool .cool { b.arb.pool .cool with capacity := 0 } = a at e1 hemp
  have e2 : b.refreshCool.refreshHeat = b.setArb
      (a.setPool .heat { a.pool .heat with capacity := min 64 (s.plant.coolant * s.plant.defn.coolantUnits) }) := by
    rw [e1, State.refreshHeat, State.writeCapacity_empty (s := b.setArb a) _ _ hemp, hheat]
    rfl
  obtain ⟨h1, h2, h3, h4⟩ := h
  rw [e, e2, ← ha, ← hb]
  simp only [State.setArb, Arbiter.setPool, Arbiter.pool, h1, h2, h3, h4]

end Sys2Proof.Machine
end

section
/-! SETTLES O17. An accepted SHUTDOWN (R163, R164). -/
namespace Sys2Proof.Machine

/-! ## The zones and the nodes (R24, R150) -/

theorem State.quietZones_written (s : State) :
    OnlyZones s s.quietZones ∧ ∀ z, s.quietZones.zone z = (s.zone z).quieted := by
  refine State.eachZone_written fun t z _ hz => ?_
  rw [State.modZone, hz]

/-- R150: a node's record on entry to STOPPING. -/
def State.quietedNode (s : State) (n : NodeId) : NodeRec :=
  { s.node n with
    pending := none, revivalTimer := none
    retryStep := if s.retryInFlight n then (s.node n).retryStep else none
    state := if (s.node n).state = .starting ∧ (s.node n).binding ≠ some (.plant .compressor) ∧
        (s.node n).binding ≠ some (.plant .auxHeater) then .unknown else (s.node n).state
    wakeTimer := if (s.node n).state = .starting ∧ (s.node n).binding ≠ some (.plant .compressor) ∧
        (s.node n).binding ≠ some (.plant .auxHeater) then none else (s.node n).wakeTimer }

theorem State.quietNode_eq (s : State) (n : NodeId) : s.quietNode n = s.setNode n (s.quietedNode n) := by
  unfold State.quietNode State.quietedNode
  dsimp only
  by_cases h : (s.node n).state = .starting ∧ (s.node n).binding ≠ some (.plant .compressor) ∧
      (s.node n).binding ≠ some (.plant .auxHeater)
  · have hk : (decide ((s.node n).binding = some (.plant .compressor)) ||
        decide ((s.node n).binding = some (.plant .auxHeater))) = false := by simp [h.2.1, h.2.2]
    rw [if_pos ⟨h.1, hk⟩, if_pos h, if_pos h]
  · have hk : ¬ ((s.node n).state = .starting ∧ (decide ((s.node n).binding = some (.plant .compressor)) ||
        decide ((s.node n).binding = some (.plant .auxHeater))) = false) := by
      rintro ⟨h1, h2⟩
      simp only [Bool.or_eq_false_iff, decide_eq_false_iff_not] at h2
      exact h ⟨h1, h2.1, h2.2⟩
    rw [if_neg hk, if_neg h, if_neg h]

/-- R150: the transaction in flight on entry to STOPPING, and the queue, which is emptied. -/
def State.cutOff (s : State) : State := (s.setQueue []).setLine { s.line with txn := s.line.txn.map Txn.cutOff }

theorem State.retryInFlight_only {s t : State} (h : OnlyNodes s t) (n : NodeId) :
    t.retryInFlight n = s.retryInFlight n := by
  have hl : t.line = s.line := by rw [h]
  unfold State.retryInFlight
  rw [hl]

theorem State.quietNodes_written (s : State) :
    OnlyNodes s.cutOff s.quietNodes ∧ ∀ n, s.quietNodes.node n = s.cutOff.quietedNode n := by
  refine State.eachNode_written (s := s.cutOff) fun t n ht hn => ?_
  rw [State.quietNode_eq]
  unfold State.quietedNode
  rw [hn, State.retryInFlight_only ht]

/-- R147: whether the transaction in flight belongs to a retry is not changed by cutting the others off. -/
theorem State.retryInFlight_cutOff (s : State) (n : NodeId) : s.cutOff.retryInFlight n = s.retryInFlight n := by
  have hl : s.cutOff.line.inFlight = s.line.inFlight.map Txn.cutOff := by
    unfold Line.inFlight
    show (if s.line.phase ≠ .idle ∧ s.line.timer.isSome = true then s.line.txn.map Txn.cutOff else none) = _
    split <;> rfl
  unfold State.retryInFlight
  rw [hl]
  cases s.line.inFlight with
  | none => rfl
  | some x =>
    have horig : x.cutOff.origins.contains .retry = x.origins.contains .retry := by
      unfold Txn.cutOff
      split
      · rw [Bool.eq_iff_iff]
        simp
      · rfl
    have hnode : x.cutOff.node = x.node := by
      unfold Txn.cutOff
      split <;> rfl
    show (decide (x.cutOff.node = some n) && x.cutOff.origins.contains .retry) = _
    rw [horig, hnode]

theorem State.retryInFlight_iff (s : State) (n : NodeId) :
    s.retryInFlight n = true ↔ ∃ x, s.line.phase ≠ .idle ∧ s.line.timer ≠ none ∧ s.line.txn = some x ∧
      x.node = some n ∧ Origin.retry ∈ x.origins := by
  unfold State.retryInFlight Line.inFlight
  constructor
  · intro h
    split at h
    · simp at h
    · rename_i x hx
      split at hx
      · rename_i hc
        refine ⟨x, hc.1, ?_, hx, ?_⟩
        · intro hn
          rw [hn] at hc
          simp at hc
        · simpa using h
      · simp at hx
  · rintro ⟨x, hp, ht, hx, hn, ho⟩
    have hs : s.line.timer.isSome = true := Option.isSome_iff_ne_none.2 ht
    rw [if_pos ⟨hp, hs⟩, hx]
    simp [hn, ho]

/-! ## The broadcast MOVE 0 (R163) -/

/-- R163: the broadcast MOVE 0 of a shutdown. -/
def broadcastZero : Entry := ⟨none, .move, 0, true, .shutdown, []⟩

theorem State.askBroadcast_empty {s : State} (h : s.nodes.queue = []) :
    s.askBroadcast .move .shutdown = (s.setQueue [broadcastZero]).handOver := by
  have hf : s.absorbedInFlight broadcastZero = none := by
    unfold State.absorbedInFlight
    split
    · rfl
    · rw [if_neg]
      simp [broadcastZero]
  show (s.joinQueue broadcastZero).handOver = _
  unfold State.joinQueue
  rw [h]
  simp only [hf]
  rfl

theorem State.askBroadcast_idle {s : State} (h : s.nodes.queue = []) (hl : s.line.phase = .idle) (hs : s.op.soft = .none) :
    s.askBroadcast .move .shutdown = s.startTxn broadcastZero := by
  rw [State.askBroadcast_empty h]
  unfold State.handOver
  rw [if_pos ⟨hl, .inl hs⟩]
  have e : s.setQueue [] = s := by rw [← h]; rfl
  show (s.setQueue []).startTxn broadcastZero = _
  rw [e]

theorem State.askBroadcast_busy {s : State} (h : s.nodes.queue = []) (hl : s.line.phase ≠ .idle) :
    s.askBroadcast .move .shutdown = s.setQueue [broadcastZero] := by
  rw [State.askBroadcast_empty h]
  exact State.handOver_busy _ hl

end Sys2Proof.Machine
end

section
/-! SETTLES O17. Entry to STOPPING as a whole, and the obligation (R163, R164). -/
namespace Sys2Proof.Machine

/-- R163: the state on entry to STOPPING, with these zone and node records, before the broadcast. -/
def State.stopBase (s : State) (zs : Vector ZoneRec 24) (ns : Vector NodeRec 31) : State :=
  { s with
    zones := { s.zones with table := zs }
    arb := { s.arb with
      heat := ⟨min 64 (s.plant.coolant * s.plant.defn.coolantUnits), [], []⟩, cool := ⟨0, [], []⟩ }
    plant := s.quietedPlant
    nodes := { s.nodes with table := ns, queue := [] }
    line := { s.line with txn := s.line.txn.map Txn.cutOff }
    op := { s.op with
      state := .stopping, entered := s.now, done := Vector.replicate 31 false, work := Vector.replicate 31 .idle }
    cond := ({ s.cond with stopped := false } : CondBlock).quieted s.plant.heater }

theorem State.quietedPlant_congr {s t : State} (hp : t.plant = s.plant) (hn : t.now = s.now) :
    t.quietedPlant = s.quietedPlant := by
  simp only [State.quietedPlant, State.quietedSeq, State.enterSeq, State.setSequencer, hp, hn, apply_ite State.plant,
    apply_ite Plant.seq]

/-- A state whose blocks are those of s on entry to STOPPING, the records and the plant aside. -/
theorem State.stopBase_of {s c : State} (h1 : c.now = s.now) (h2 : c.held = s.held) (h3 : c.shedLine = s.shedLine)
    (h4 : c.key = s.key) (h5 : c.zones = { s.zones with table := c.zones.table }) (h6 : c.arb = s.arb.dropAll)
    (h7 : c.plant = s.plant) (h8 : c.nodes = { s.nodes with table := c.nodes.table, queue := [] })
    (h9 : c.line = { s.line with txn := s.line.txn.map Txn.cutOff })
    (h10 : c.op = { s.op with
      state := .stopping, entered := s.now, done := Vector.replicate 31 false, work := Vector.replicate 31 .idle })
    (h11 : c.cond = { s.cond with stopped := false }) (h12 : c.port = s.port) (h13 : c.pending = s.pending) :
    c.quietPlant = s.stopBase c.zones.table c.nodes.table := by
  rw [State.quietPlant_eq (by rw [h6]; exact Arbiter.dropAll_empty _), State.quietedPlant_congr h7 h1]
  unfold State.stopBase
  rw [← h5, ← h8]
  simp only [h1, h2, h3, h4, h6, h7, h9, h10, h11, h12, h13, Arbiter.dropAll]

theorem OnlyZones.rest {s t : State} (h : OnlyZones s t) :
    t.now = s.now ∧ t.held = s.held ∧ t.shedLine = s.shedLine ∧ t.key = s.key ∧
      t.zones = { s.zones with table := t.zones.table } ∧ t.arb = s.arb ∧ t.plant = s.plant ∧ t.nodes = s.nodes ∧
      t.line = s.line ∧ t.op = s.op ∧ t.cond = s.cond ∧ t.port = s.port ∧ t.pending = s.pending := by
  unfold OnlyZones at h
  rw [h]
  simp only [and_self]

theorem OnlyNodes.rest {s t : State} (h : OnlyNodes s t) :
    t.now = s.now ∧ t.held = s.held ∧ t.shedLine = s.shedLine ∧ t.key = s.key ∧ t.zones = s.zones ∧ t.arb = s.arb ∧
      t.plant = s.plant ∧ t.nodes = { s.nodes with table := t.nodes.table } ∧ t.line = s.line ∧ t.op = s.op ∧
      t.cond = s.cond ∧ t.port = s.port ∧ t.pending = s.pending := by
  unfold OnlyNodes at h
  rw [h]
  simp only [and_self]

theorem State.enterStopping_eq (s : State) :
    ∃ zs ns, s.enterStopping = ((s.stopBase zs ns).askBroadcast .move .shutdown).restReport ∧
      (∀ z : Zone, zs[z] = (s.zone z).quieted) ∧ ∀ n : NodeId, ns[n] = s.quietedNode n := by
  obtain ⟨hz, hzone⟩ := State.quietZones_written ((s.clearMarks.enterPart .stopping).setArb s.arb.dropAll)
  obtain ⟨hn, hnode⟩ := State.quietNodes_written ((s.clearMarks.enterPart .stopping).setArb s.arb.dropAll).quietZones
  have e : s.enterStopping =
      ((((s.clearMarks.enterPart .stopping).setArb s.arb.dropAll).quietZones.quietNodes.quietPlant).askBroadcast
        .move .shutdown).restReport := rfl
  generalize ((s.clearMarks.enterPart .stopping).setArb s.arb.dropAll).quietZones = b at hz hzone hn hnode e
  generalize b.quietNodes = c at hn hnode e
  obtain ⟨z1, z2, z3, z4, z5, z6, z7, z8, z9, z10, z11, z12, z13⟩ := hz.rest
  obtain ⟨n1, n2, n3, n4, n5, n6, n7, n8, n9, n10, n11, n12, n13⟩ := hn.rest
  refine ⟨c.zones.table, c.nodes.table, ?_, fun z => ?_, fun n => ?_⟩
  · have base : c.quietPlant = s.stopBase c.zones.table c.nodes.table :=
      State.stopBase_of (n1.trans z1) (n2.trans z2) (n3.trans z3) (n4.trans z4)
        (by rw [n5]; exact z5) (n6.trans z6) (n7.trans z7)
        (by rw [n8]; show NodeManager.mk _ [] b.nodes.tuning b.nodes.pollTick = _; rw [z8]; rfl)
        (by rw [n9]; show Line.mk b.line.phase (b.line.txn.map Txn.cutOff) _ _ _ _ = _; rw [z9]; rfl)
        (n10.trans z10) (n11.trans z11) (n12.trans z12) (n13.trans z13)
    rw [e, base]
  · rw [n5]
    exact hzone z
  · have hrec : b.cutOff.node n = s.node n := by
      show b.nodes.table[n] = s.nodes.table[n]
      rw [z8]
      rfl
    have hret : b.cutOff.retryInFlight n = s.retryInFlight n := by
      rw [State.retryInFlight_cutOff]
      unfold State.retryInFlight
      rw [z9]
      rfl
    have h := hnode n
    unfold State.quietedNode at h ⊢
    rw [hrec, hret] at h
    exact h

/-! ## The broadcast and STOPPED (R163, R164) -/

theorem State.restReport_atRest {s : State} (h : s.op.state = .stopping) (hs : s.op.soft = .none) :
    s.restReport = if s.plant.seq.state.atRest = true ∧ s.plant.heater.state.atRest = true then s.enterPart .stopped
      else s := by
  unfold State.restReport
  simp only [h, hs, true_and]

/-- What the broadcast and the report of a plant at rest change of the state on entry to STOPPING. -/
structure StopEnd (w u : State) : Prop where
  rest : u = { w with
    nodes := { w.nodes with queue := u.nodes.queue }, line := u.line
    op := { w.op with state := u.op.state }, cond := { w.cond with stopped := decide (u.op.state = .stopped) } }
  state : u.op.state =
    if w.plant.seq.state.atRest = true ∧ w.plant.heater.state.atRest = true then .stopped else .stopping
  idle : w.line.phase = .idle → u.nodes.queue = [] ∧ u.line =
    { phase := .lead, txn := some ⟨none, .move, 0, true, .shutdown, [.shutdown], 1, none⟩
      timer := some (w.now + Config.charTime), replyStart := none, chars := [], cut := false }
  busy : w.line.phase ≠ .idle → u.nodes.queue = [broadcastZero] ∧ u.line = w.line

theorem StopEnd.of_broadcast {w f : State}
    (hf : f = { w with nodes := { w.nodes with queue := f.nodes.queue }, line := f.line })
    (hst : w.op.state = .stopping) (hs : w.op.soft = .none) (he : w.op.entered = w.now) (hc : w.cond.stopped = false)
    (idle : w.line.phase = .idle → f.nodes.queue = [] ∧ f.line =
      { phase := .lead, txn := some ⟨none, .move, 0, true, .shutdown, [.shutdown], 1, none⟩
        timer := some (w.now + Config.charTime), replyStart := none, chars := [], cut := false })
    (busy : w.line.phase ≠ .idle → f.nodes.queue = [broadcastZero] ∧ f.line = w.line) : StopEnd w f.restReport := by
  have hop : f.op = w.op := by rw [hf]
  have hpl : f.plant = w.plant := by rw [hf]
  have hcd : f.cond = w.cond := by rw [hf]
  have hnow : f.now = w.now := by rw [hf]
  have e := State.restReport_atRest (s := f) (by rw [hop]; exact hst) (by rw [hop]; exact hs)
  rw [hpl] at e
  have eop : { w.op with state := PartState.stopped, entered := w.now } = { w.op with state := .stopped } := by
    rw [← he]
  have ecd : { w.cond with stopped := false } = w.cond := by rw [← hc]
  by_cases hr : w.plant.seq.state.atRest = true ∧ w.plant.heater.state.atRest = true
  · rw [if_pos hr] at e
    refine ⟨?_, ?_, fun h => ?_, fun h => ?_⟩
    · rw [e]
      show { f with op := { f.op with state := .stopped, entered := f.now }, cond := { f.cond with stopped := true } } =
        { w with
          nodes := { w.nodes with queue := f.nodes.queue }, line := f.line
          op := { w.op with state := .stopped }, cond := { w.cond with stopped := true } }
      rw [hop, hnow, hcd, eop]
      conv_lhs => rw [hf]
    · rw [e, if_pos hr]
      rfl
    · rw [e]
      exact idle h
    · rw [e]
      exact busy h
  · rw [if_neg hr] at e
    refine ⟨?_, ?_, fun h => ?_, fun h => ?_⟩
    · rw [e, hop, hst]
      show f = { w with
        nodes := { w.nodes with queue := f.nodes.queue }, line := f.line
        op := { w.op with state := .stopping }, cond := { w.cond with stopped := false } }
      rw [ecd, ← hst]
      exact hf
    · rw [e, if_neg hr, hop]
      exact hst
    · rw [e]
      exact idle h
    · rw [e]
      exact busy h

theorem State.stopBase_ends (s : State) (zs : Vector ZoneRec 24) (ns : Vector NodeRec 31) (hs : s.op.soft = .none) :
    StopEnd (s.stopBase zs ns) ((s.stopBase zs ns).askBroadcast .move .shutdown).restReport := by
  have hc : (s.stopBase zs ns).cond.stopped = false := by
    unfold State.stopBase CondBlock.quieted
    dsimp only
    split <;> rfl
  by_cases hl : (s.stopBase zs ns).line.phase = .idle
  · have e := State.askBroadcast_idle (s := s.stopBase zs ns) rfl hl hs
    rw [e]
    exact StopEnd.of_broadcast rfl rfl hs rfl hc (fun _ => ⟨rfl, rfl⟩) (fun h => absurd hl h)
  · have e := State.askBroadcast_busy (s := s.stopBase zs ns) rfl hl
    rw [e]
    exact StopEnd.of_broadcast rfl rfl hs rfl hc (fun h => absurd h hl) (fun _ => ⟨rfl, rfl⟩)

end Sys2Proof.Machine
end

section
/-! SETTLES O17. The accepted SHUTDOWN, field by field. -/
namespace Sys2Proof.Machine

theorem Seq.resting_or_working (q : Seq) : q ∈ [Seq.off, .lockout, .fault] ∨ q ∉ [Seq.off, .lockout, .fault] := em _

/-- R90: the sequencer on entry to STOPPING, as the statement says it. -/
theorem State.quietedSeq_rows (s : State) :
    s.quietedSeq =
      { s.plant.seq with
        state := s.quietedSeq.state, minRunTimer := none, minRunExpired := false, holdTimer := none
        holdMet := false, lockoutTimer := s.quietedSeq.lockoutTimer, pollTimer := none
        checkAsked := s.quietedSeq.checkAsked } ∧
    (s.plant.seq.state ∈ [Seq.off, .lockout, .fault] →
      s.quietedSeq.state = s.plant.seq.state ∧ s.quietedSeq.lockoutTimer = s.plant.seq.lockoutTimer ∧
      s.quietedSeq.checkAsked = s.plant.seq.checkAsked) ∧
    (s.plant.seq.state ∉ [Seq.off, .lockout, .fault] →
      s.quietedSeq.state = .disengaging ∧ s.quietedSeq.lockoutTimer = none ∧ s.quietedSeq.checkAsked = false) := by
  by_cases h : s.plant.seq.state ∈ [Seq.off, .lockout, .fault]
  · have e := State.quietedSeq_resting h
    exact ⟨by rw [e], fun _ => by rw [e]; exact ⟨rfl, rfl, rfl⟩, fun hn => absurd h hn⟩
  · have e := State.quietedSeq_working h
    exact ⟨by rw [e], fun hn => absurd hn h, fun _ => by rw [e]; exact ⟨rfl, rfl, rfl⟩⟩

theorem Heater.quieted_ignites {h : Heater} (hi : h.state ∈ [HeaterState.igniting, .running]) :
    h.quieted = h.still .stopping := if_pos hi

theorem Heater.quieted_other {h : Heater} (hi : h.state ∉ [HeaterState.igniting, .running]) : h.quieted = h := if_neg hi

theorem CondBlock.quieted_ignites {c : CondBlock} {h : Heater} (hi : h.state ∈ [HeaterState.igniting, .running]) :
    c.quieted h = { c with auxLockout := false } := if_pos hi

theorem CondBlock.quieted_other {c : CondBlock} {h : Heater} (hi : h.state ∉ [HeaterState.igniting, .running]) :
    c.quieted h = c := if_neg hi

theorem Txn.cutOff_eq (x : Txn) : x.cutOff =
    if x.cmd = .read ∨ x.cmd = .status then { x with origins := x.origins.filter (fun o => decide (o = .retry)) } else x := by
  unfold Txn.cutOff
  congr 1

theorem State.quietedNode_starting (s : State) (n : NodeId) :
    ((s.quietedNode n).state, (s.quietedNode n).wakeTimer) =
      if (s.node n).state = .starting ∧ (s.node n).binding ≠ some (.plant .compressor) ∧
        (s.node n).binding ≠ some (.plant .auxHeater) then (.unknown, none)
      else ((s.node n).state, (s.node n).wakeTimer) := by
  unfold State.quietedNode
  dsimp only
  by_cases h : (s.node n).state = .starting ∧ (s.node n).binding ≠ some (.plant .compressor) ∧
      (s.node n).binding ≠ some (.plant .auxHeater)
  · rw [if_pos h, if_pos h, if_pos h]
  · rw [if_neg h, if_neg h, if_neg h]

/-- Settles O17: the accepted request's state in closed form, and the fields of it. -/
theorem shutdownStopsThePart : Obligations.ShutdownStopsThePart := by
  intro s tag h hst
  have soft : s.op.soft = .none := h.2.2.2
  obtain ⟨zs, ns, eu, hz, hn⟩ := State.enterStopping_eq (s.setTag .none)
  have ends := State.stopBase_ends (s.setTag .none) zs ns soft
  rw [← eu] at ends
  generalize hu : (s.setTag .none).enterStopping = u at eu ends
  have hport : u.port = (s.setTag .none).port := by rw [ends.rest]; rfl
  have htake : (s.setTag .none).ownerTakes .shutdown s.port.tag [] = accept u := by rw [← hu]; rfl
  have hin : Kind.shutdown.takenIn.includes s.op.state = true := by
    rcases hst with hst | hst <;> rw [hst] <;> rfl
  obtain ⟨t, et, hr, ht, hp⟩ := State.clears_accepted s u .shutdown tag [] h rfl hin rfl htake hport
  have frame := ends.rest
  have tnodes : t.nodes = { s.nodes with table := ns, queue := u.nodes.queue } := by rw [ht, State.setPort_nodes, frame]; rfl
  have tzones : t.zones = { s.zones with table := zs } := by rw [ht, State.setPort_zones, frame]; rfl
  have tplant : t.plant = s.quietedPlant := by
    rw [ht, State.setPort_plant, frame]
    exact State.quietedPlant_congr (s := s) (t := s.setTag .none) rfl rfl
  have top : t.op = { s.op with
      state := u.op.state, entered := s.now, done := Vector.replicate 31 false, work := Vector.replicate 31 .idle } := by
    rw [ht, State.setPort_op]
    conv_lhs => rw [frame]
    rfl
  have tline : t.line = u.line := by rw [ht, State.setPort_line]
  have tcond : t.cond = { ({ s.cond with stopped := false } : CondBlock).quieted s.plant.heater with
      stopped := decide (t.op.state = .stopped) } := by
    rw [top, ht, State.setPort_cond]
    conv_lhs => rw [frame]
    rfl
  have tnode : ∀ n, t.node n = (s.setTag .none).quietedNode n := fun n => by
    rw [← hn n]
    show t.nodes.table[n] = _
    rw [tnodes]
  have hstate : t.op.state = u.op.state := by rw [top]
  obtain ⟨seq, seqResting, seqWorking⟩ := State.quietedSeq_rows s
  have retry := (s.setTag .none).retryInFlight_iff
  refine ⟨t, et, hr, ?_, ?_, ?_, fun z => ?_, by rw [tzones], by rw [tzones], fun n => ?_, fun n => ?_, fun hl => ?_,
    fun hl => ?_, fun n => ⟨fun hx => ?_, fun hx => ?_⟩, by rw [tnodes], by rw [tnodes], by rw [tplant]; rfl,
    by rw [tplant]; exact seq, fun hq => by rw [tplant]; exact seqResting hq,
    fun hq => by rw [tplant]; exact seqWorking hq, fun hh => ⟨?_, ?_⟩, fun hh => ⟨?_, ?_⟩, ?_, ?_, ?_, ?_, hp, ?_⟩
  · rw [top]
  · rw [hstate, ends.state, tplant, ← State.quietedPlant_congr (s := s) (t := s.setTag .none) rfl rfl]
    rfl
  · rw [ht, State.setPort_arb, frame]
    rfl
  · have hz' : t.zone z = (s.zone z).quieted := by
      show t.zones.table[z] = _
      rw [tzones]
      exact hz z
    rw [hz']
    rfl
  · rw [tnode]
    rfl
  · rw [tnode]
    exact (State.quietedNode_starting _ n).trans rfl
  · obtain ⟨e1, e2⟩ := ends.idle hl
    rw [tnodes, tline]
    exact ⟨e1, e2⟩
  · obtain ⟨e1, e2⟩ := ends.busy hl
    rw [tnodes, tline]
    refine ⟨e1, e2.trans ?_⟩
    show { s.line with txn := s.line.txn.map Txn.cutOff } = _
    rw [show Txn.cutOff = _ from funext Txn.cutOff_eq]
  · rw [tnode]
    exact if_pos ((retry n).2 hx)
  · rw [tnode]
    refine if_neg (fun hc => ?_)
    obtain ⟨x, h1, h2, h3, h4, h5⟩ := (retry n).1 hc
    exact hx x h1 h2 h3 h4 h5
  · rw [tplant]
    exact Heater.quieted_ignites hh
  · rw [tcond, CondBlock.quieted_ignites hh]
  · rw [tplant]
    exact Heater.quieted_other hh
  · rw [tcond, CondBlock.quieted_other hh]
  · rw [ht, State.setPort_now, frame]
    rfl
  · rw [ht, State.setPort_held, frame]
    rfl
  · rw [ht, State.setPort_shedLine, frame]
    rfl
  · rw [ht, State.setPort_key, frame]
    rfl
  · rw [ht, State.setPort_pending, frame]
    rfl

end Sys2Proof.Machine
end

section
/-! SUPPORT for O53. What a zone holds of a pool: the units of its grant and of its claim. A grant pass and a new number
keep it for every zone (R48, R59, R60). -/
namespace Sys2Proof.Machine

/-! ## A zone's share of a pool -/

/-- The units that wait in the zone's claims. -/
def Pool.claimed (p : Pool) (z : Zone) : Nat := ((p.claims.filter (fun c => decide (c.zone = z))).map Claim.units).sum

/-- No two claims of one zone. -/
def Pool.apart (p : Pool) : Prop := (p.claims.map Claim.zone).Nodup

/-- Every zone's share of the pool is as before, and no zone is new in it. -/
structure SameShare (p q : Pool) : Prop where
  apart : q.apart
  share : ∀ z, q.unitsOf z + q.claimed z = p.unitsOf z + p.claimed z
  concerns : ∀ z, q.concerns z → p.concerns z

theorem SameShare.refl {p : Pool} (h : p.apart) : SameShare p p := ⟨h, fun _ => rfl, fun _ h => h⟩

theorem SameShare.trans {p q r : Pool} (x : SameShare p q) (y : SameShare q r) : SameShare p r :=
  ⟨y.apart, fun z => (y.share z).trans (x.share z), fun z h => x.concerns z (y.concerns z h)⟩

theorem Pool.apart_of_sound {p : Pool} (h : p.sound) : p.apart := List.pairwise_map.2 h.claims

theorem Pool.concerns_iff (p : Pool) (z : Zone) :
    p.concerns z ↔ (p.grantOf z).isSome = true ∨ (p.claimOf z).isSome = true := by
  simp [Pool.concerns, Pool.grantOf, Pool.claimOf]

theorem Pool.not_concerns_iff (p : Pool) (z : Zone) : ¬ p.concerns z ↔ p.grantOf z = none ∧ p.claimOf z = none := by
  rw [Pool.concerns_iff, not_or, Bool.not_eq_true, Bool.not_eq_true, Option.isSome_eq_false_iff, Option.isSome_eq_false_iff,
    Option.isNone_iff_eq_none, Option.isNone_iff_eq_none]

theorem Pool.unitsOf_of_not_concerns {p : Pool} {z : Zone} (h : ¬ p.concerns z) : p.unitsOf z = 0 := by
  rw [Pool.unitsOf, ((Pool.not_concerns_iff p z).1 h).1]

theorem Pool.claimed_eq_zero {p : Pool} {z : Zone} (h : ∀ c ∈ p.claims, c.zone ≠ z) : p.claimed z = 0 := by
  rw [Pool.claimed, List.filter_eq_nil_iff.2 (fun c hc => by simpa using h c hc)]
  rfl

/-- Claims apart: the zone's one claim alone waits for it. -/
theorem Pool.claimed_of_mem {p : Pool} {c : Claim} (h : p.apart) (hc : c ∈ p.claims) : p.claimed c.zone = c.units := by
  obtain ⟨x, y, e⟩ := List.append_of_mem hc
  rw [Pool.apart, e, List.map_append, List.map_cons, List.nodup_append, List.nodup_cons] at h
  obtain ⟨_, ⟨hy, _⟩, hxy⟩ := h
  have ex : x.filter (fun b => decide (b.zone = c.zone)) = [] := List.filter_eq_nil_iff.2 fun b hb => by
    simpa using hxy b.zone (List.mem_map_of_mem hb) c.zone List.mem_cons_self
  have ey : y.filter (fun b => decide (b.zone = c.zone)) = [] := List.filter_eq_nil_iff.2 fun b hb => by
    simpa using fun e : b.zone = c.zone => hy (e ▸ List.mem_map_of_mem hb)
  simp [Pool.claimed, e, ex, ey]

theorem Pool.claimOf_mem {p : Pool} {z : Zone} {c : Claim} (h : p.claimOf z = some c) : c ∈ p.claims ∧ c.zone = z :=
  ⟨List.mem_of_find?_eq_some h, of_decide_eq_true (List.find?_some (p := fun c : Claim => decide (c.zone = z)) h)⟩

theorem Pool.claimed_none {p : Pool} {z : Zone} (h : p.claimOf z = none) : p.claimed z = 0 :=
  Pool.claimed_eq_zero fun c hc => by simpa using List.find?_eq_none.1 h c hc

theorem Pool.claimed_some {p : Pool} {z : Zone} {c : Claim} (hp : p.apart) (h : p.claimOf z = some c) :
    p.claimed z = c.units := by
  obtain ⟨hc, rfl⟩ := Pool.claimOf_mem h
  exact Pool.claimed_of_mem hp hc

/-! ## Claims with the same zones and units in another order -/

/-- Each claim by its zone and its units. -/
def Pool.waiting (p : Pool) : List (Zone × Nat) := p.claims.map (fun c => (c.zone, c.units))

theorem Pool.zones_waiting (p : Pool) : p.claims.map Claim.zone = p.waiting.map Prod.fst := by
  rw [Pool.waiting, List.map_map]
  rfl

theorem Pool.claimed_waiting (p : Pool) (z : Zone) :
    p.claimed z = ((p.waiting.filter (fun x => decide (x.1 = z))).map Prod.snd).sum := by
  rw [Pool.waiting, List.filter_map, List.map_map]
  rfl

/-- The grants as they were, the same zones waiting with the same units: every share is kept. -/
theorem SameShare.of_perm {p q : Pool} (hp : p.apart) (hu : ∀ z, q.grantOf z = none ↔ p.grantOf z = none)
    (hg : ∀ z, q.unitsOf z = p.unitsOf z) (hw : q.waiting.Perm p.waiting) : SameShare p q where
  apart := by
    rw [Pool.apart, Pool.zones_waiting]
    exact (hw.map Prod.fst).nodup_iff.2 (Pool.zones_waiting p ▸ hp)
  share z := by rw [hg, Pool.claimed_waiting, Pool.claimed_waiting, ((hw.filter _).map _).sum_nat]
  concerns z h := by
    rw [Pool.concerns_iff, Option.isSome_iff_ne_none, Ne, hu z] at h
    rw [Pool.concerns_iff, Option.isSome_iff_ne_none]
    refine h.imp id fun h => ?_
    obtain ⟨c, hc⟩ := Option.isSome_iff_exists.1 h
    obtain ⟨hm, hz⟩ := Pool.claimOf_mem hc
    obtain ⟨b, hb, e⟩ := List.mem_map.1 (hw.mem_iff.1 (List.mem_map_of_mem hm))
    simp only [Pool.claimOf, List.find?_isSome, decide_eq_true_eq]
    exact ⟨b, hb, (congrArg Prod.fst e).trans hz⟩

/-! ## A new number (R48) -/

theorem Pool.grantOf_renumber (p : Pool) (f : Nat → Nat) (z : Zone) :
    (p.renumber f).grantOf z = (p.grantOf z).map (fun g => { g with number := f g.number }) := by
  rw [Pool.grantOf, Pool.renumber, List.find?_map]
  rfl

theorem Pool.unitsOf_renumber (p : Pool) (f : Nat → Nat) (z : Zone) : (p.renumber f).unitsOf z = p.unitsOf z := by
  rw [Pool.unitsOf, Pool.grantOf_renumber, Pool.unitsOf]
  cases p.grantOf z <;> rfl

theorem SameShare.renumber {p : Pool} (h : p.apart) (f : Nat → Nat) : SameShare p (p.renumber f) :=
  SameShare.of_perm h (fun z => by rw [Pool.grantOf_renumber, Option.map_eq_none_iff]) (Pool.unitsOf_renumber p f)
    (by rw [Pool.waiting, Pool.renumber, List.map_map]; exact List.Perm.refl _)

theorem Pool.renumber_id (p : Pool) : p.renumber id = p := by
  simp [Pool.renumber]

/-- R48: a number taken: the pools as they are, or renumbered alike. -/
theorem Arbiter.tick_pool (a : Arbiter) : ∃ f, ∀ i, a.tick.pool i = (a.pool i).renumber f := by
  unfold Arbiter.tick Arbiter.readyNumber
  split
  · exact ⟨id, fun i => by rw [Pool.renumber_id]; cases i <;> rfl⟩
  · exact ⟨a.placeOf, fun i => by cases i <;> rfl⟩

theorem Arbiter.tick_below {a : Arbiter} (h : a.counter < 4294967295) : a.tick = { a with counter := a.counter + 1 } := by
  unfold Arbiter.tick Arbiter.readyNumber
  rw [if_pos (show a.counter < Config.counterMax from h)]

theorem Arbiter.setPool_other {i j : PoolId} (h : j ≠ i) (a : Arbiter) (p : Pool) : (a.setPool i p).pool j = a.pool j := by
  cases i <;> cases j
  case heat.heat | cool.cool => exact absurd rfl h
  case heat.cool | cool.heat => rfl

/-! ## The changes of one pool -/

theorem Pool.waiting_withoutClaim (p : Pool) (z : Zone) :
    (p.withoutClaim z).waiting = p.waiting.filter (fun x => !decide (x.1 = z)) := by
  rw [Pool.waiting, Pool.withoutClaim, Pool.waiting, List.filter_map]
  rfl

theorem Pool.apart_withoutClaim {p : Pool} (h : p.apart) (z : Zone) : (p.withoutClaim z).apart :=
  h.sublist (List.filter_sublist.map _)

theorem Pool.claimed_withoutClaim (p : Pool) (z y : Zone) :
    (p.withoutClaim z).claimed y = if y = z then 0 else p.claimed y := by
  split
  · rename_i h
    subst h
    exact Pool.claimed_eq_zero fun c hc => by simpa using (List.mem_filter.1 hc).2
  · rename_i h
    rw [Pool.claimed, Pool.withoutClaim, List.filter_filter, Pool.claimed]
    congr 2
    refine List.filter_congr fun c _ => ?_
    by_cases e : c.zone = y
    · simp [e, h]
    · simp [e]

theorem Pool.concerns_withoutClaim {p : Pool} {z y : Zone} (h : (p.withoutClaim z).concerns y) : p.concerns y :=
  h.imp id fun ⟨c, hc, e⟩ => ⟨c, (List.mem_filter.1 hc).1, e⟩

theorem insertClaim_perm (c : Claim) (q : List Claim) : (insertClaim c q).Perm (c :: q) := by
  have e : q.takeWhile (fun x => decide (c.rank ≤ x.rank)) ++ q.dropWhile (fun x => decide (c.rank ≤ x.rank)) = q :=
    List.takeWhile_append_dropWhile
  have h := List.perm_middle (a := c) (l₁ := q.takeWhile (fun x => decide (c.rank ≤ x.rank)))
    (l₂ := q.dropWhile (fun x => decide (c.rank ≤ x.rank)))
  rw [e] at h
  exact h

/-- R50: the last place in its rank group. -/
theorem insertClaim_append {c : Claim} {p q : List Claim} (hp : ∀ x ∈ p, c.rank ≤ x.rank)
    (hq : ∀ x ∈ q, x.rank < c.rank) : insertClaim c (p ++ q) = p ++ c :: q := by
  have h1 : ∀ x ∈ p, decide (c.rank ≤ x.rank) = true := fun x hx => by simpa using hp x hx
  have h2 : q.takeWhile (fun x => decide (c.rank ≤ x.rank)) = [] ∧
      q.dropWhile (fun x => decide (c.rank ≤ x.rank)) = q := by
    cases q with
    | nil => exact ⟨rfl, rfl⟩
    | cons x q =>
      have hx : ¬ c.rank ≤ x.rank := Nat.not_le.2 (hq x List.mem_cons_self)
      simp [hx]
  rw [insertClaim, List.takeWhile_append_of_pos h1, List.dropWhile_append_of_pos h1, h2.1, h2.2, List.append_nil]

/-- A claim put in the queue of a pool where its zone has none. -/
def Pool.withClaim (p : Pool) (c : Claim) : Pool := { p with claims := insertClaim c p.claims }

theorem Pool.waiting_withClaim (p : Pool) (c : Claim) : (p.withClaim c).waiting.Perm ((c.zone, c.units) :: p.waiting) :=
  (insertClaim_perm c p.claims).map _

theorem Pool.apart_withClaim {p : Pool} {c : Claim} (h : p.apart) (hc : p.claimOf c.zone = none) :
    (p.withClaim c).apart := by
  rw [Pool.apart, Pool.withClaim, ((insertClaim_perm c p.claims).map _).nodup_iff, List.map_cons, List.nodup_cons]
  refine ⟨fun hm => ?_, h⟩
  obtain ⟨b, hb, e⟩ := List.mem_map.1 hm
  simpa [e] using List.find?_eq_none.1 hc b hb

theorem Pool.claimed_withClaim (p : Pool) (c : Claim) (z : Zone) :
    (p.withClaim c).claimed z = (if c.zone = z then c.units else 0) + p.claimed z := by
  rw [Pool.claimed_waiting, (((Pool.waiting_withClaim p c).filter _).map _).sum_nat, Pool.claimed_waiting]
  by_cases e : c.zone = z <;> simp [e]

theorem Pool.concerns_withClaim {p : Pool} {c : Claim} {z : Zone} (h : (p.withClaim c).concerns z) :
    z = c.zone ∨ p.concerns z := by
  rcases h with h | ⟨b, hb, e⟩
  · exact .inr (.inl h)
  · rcases List.mem_cons.1 ((insertClaim_perm c p.claims).mem_iff.1 hb) with rfl | hb
    · exact .inl e.symm
    · exact .inr (.inr ⟨b, hb, e⟩)

theorem Pool.grantOf_addGrant (p : Pool) (z y : Zone) (u n : Nat) :
    (p.addGrant z u n).unitsOf y = p.unitsOf y + (if y = z then u else 0) ∧
    ((p.addGrant z u n).grantOf y = none ↔ y ≠ z ∧ p.grantOf y = none) := by
  unfold Pool.addGrant
  cases h : p.grantOf z with
  | some g =>
    have hz : p.grantOf z ≠ none := by simp [h]
    have e : Pool.grantOf { p with grants := p.grants.map (fun g =>
        if g.zone = z then { g with units := g.units + u, number := n } else g) } y =
        (p.grantOf y).map (fun g => if g.zone = z then { g with units := g.units + u, number := n } else g) := by
      rw [Pool.grantOf, List.find?_map]
      have hf : (fun g : Grant => decide (g.zone = y)) ∘
          (fun g : Grant => if g.zone = z then { g with units := g.units + u, number := n } else g) =
          fun g => decide (g.zone = y) := by
        funext g
        by_cases hgz : g.zone = z <;> simp [hgz]
      rw [hf]
      rfl
    dsimp only [Pool.unitsOf]
    rw [e]
    cases hy : p.grantOf y with
    | none =>
      have hyz : y ≠ z := fun hyz => hz (hyz ▸ hy)
      simp [hyz]
    | some b =>
      have hb : b.zone = y := of_decide_eq_true (List.find?_some (p := fun g : Grant => decide (g.zone = y)) hy)
      by_cases hyz : y = z <;> simp [hb, hyz]
  | none =>
    have e : Pool.grantOf { p with grants := p.grants ++ [⟨z, u, n⟩] } y =
        (p.grantOf y).or (if z = y then some ⟨z, u, n⟩ else none) := by
      rw [Pool.grantOf, List.find?_append, List.find?_singleton]
      simp [Pool.grantOf]
    dsimp only [Pool.unitsOf]
    rw [e]
    by_cases hyz : y = z
    · subst hyz
      simp [h]
    · have hzy : ¬ z = y := fun e => hyz e.symm
      simp [hyz, hzy]

theorem Pool.waiting_addGrant (p : Pool) (z : Zone) (u n : Nat) : (p.addGrant z u n).claims = p.claims := by
  unfold Pool.addGrant
  split <;> rfl

/-- R59: a claim that becomes a grant keeps every share. -/
theorem SameShare.granted {p : Pool} {c : Claim} (h : p.apart) (hc : c ∈ p.claims) (f : Nat → Nat) (n : Nat) :
    SameShare p (((p.withoutClaim c.zone).renumber f).addGrant c.zone c.units n) := by
  have ren := SameShare.renumber (Pool.apart_withoutClaim h c.zone) f
  generalize hq : (p.withoutClaim c.zone).renumber f = q at ren
  have hcl : ∀ z, (q.addGrant c.zone c.units n).claimed z = q.claimed z := fun z => by
    rw [Pool.claimed, Pool.waiting_addGrant, Pool.claimed]
  refine ⟨?_, fun z => ?_, fun z hz => ?_⟩
  · rw [Pool.apart, Pool.waiting_addGrant]
    exact ren.apart
  · have hs := ren.share z
    rw [Pool.claimed_withoutClaim] at hs
    have hu : (p.withoutClaim c.zone).unitsOf z = p.unitsOf z := rfl
    rw [(Pool.grantOf_addGrant q c.zone z c.units n).1, hcl]
    by_cases hz : z = c.zone
    · subst hz
      rw [if_pos rfl] at hs ⊢
      have := Pool.claimed_of_mem h hc
      omega
    · rw [if_neg hz] at hs ⊢
      omega
  · by_cases e : z = c.zone
    · exact .inr ⟨c, hc, e.symm⟩
    · refine Pool.concerns_withoutClaim (ren.concerns z ?_)
      rw [Pool.concerns_iff, Option.isSome_iff_ne_none] at hz ⊢
      refine hz.imp (fun hg hn => hg ((Pool.grantOf_addGrant q c.zone z c.units n).2.2 ⟨e, hn⟩)) fun hk => ?_
      rw [Pool.claimOf, Pool.waiting_addGrant] at hk
      exact hk

/-! ## The pass (R58 to R61) -/

theorem raisePassed_waiting {lo hi : Nat} (h : lo ≤ hi) (q : List Claim) :
    (raisePassed lo hi q).map (fun c => (c.zone, c.units)) = q.map (fun c => (c.zone, c.units)) := by
  rw [raisePassed, List.map_append, List.map_append, List.map_map]
  have e : q = q.take lo ++ (q.take hi).drop lo ++ q.drop hi := by
    have h1 : q.take lo = (q.take hi).take lo := by rw [List.take_take, Nat.min_eq_left h]
    rw [h1, List.take_append_drop, List.take_append_drop]
  conv_rhs => rw [e, List.map_append, List.map_append]
  rfl

theorem SameShare.raised {p : Pool} (hp : p.apart) {lo hi : Nat} (h : lo ≤ hi) :
    SameShare p { p with claims := raisePassed lo hi p.claims } :=
  SameShare.of_perm hp (fun _ => Iff.rfl) (fun _ => rfl) (by
    rw [Pool.waiting, Pool.waiting, raisePassed_waiting h])

/-- Every share in both pools as before. -/
def SameShares (a b : Arbiter) : Prop := ∀ i, SameShare (a.pool i) (b.pool i)

theorem SameShares.trans {a b c : Arbiter} (x : SameShares a b) (y : SameShares b c) : SameShares a c :=
  fun i => (x i).trans (y i)

theorem SameShares.refl {a : Arbiter} (h : ∀ i, (a.pool i).apart) : SameShares a a := fun i => SameShare.refl (h i)

theorem SameShares.setPool {a : Arbiter} (h : ∀ i, (a.pool i).apart) {i : PoolId} {p : Pool}
    (hp : SameShare (a.pool i) p) : SameShares a (a.setPool i p) := fun j => by
  by_cases e : j = i
  · subst e
    rw [Arbiter.setPool_pool]
    exact hp
  · rw [Arbiter.setPool_other e]
    exact SameShare.refl (h j)

theorem SameShares.grantClaim {a : Arbiter} (h : ∀ i, (a.pool i).apart) {i : PoolId} {c : Claim}
    (hc : c ∈ (a.pool i).claims) : SameShares a (a.grantClaim i c) := fun j => by
  unfold Arbiter.grantClaim
  dsimp only
  obtain ⟨f, hf⟩ := Arbiter.tick_pool (a.withdraw i c.zone)
  by_cases e : j = i
  · subst e
    rw [Arbiter.setPool_pool, hf, Arbiter.withdraw, Arbiter.setPool_pool]
    exact SameShare.granted (h j) hc f _
  · rw [Arbiter.setPool_other e, hf, Arbiter.withdraw, Arbiter.setPool_other e]
    exact SameShare.renumber (h j) f

theorem SameShares.walk (i : PoolId) (fuel : Nat) :
    ∀ (place raised : Nat) (a : Arbiter), raised ≤ place → (∀ i, (a.pool i).apart) →
      SameShares a (Arbiter.walk i fuel place raised a) := by
  induction fuel with
  | zero => exact fun _ _ a _ h => SameShares.refl h
  | succ fuel ih =>
    intro place raised a hr h
    unfold Arbiter.walk
    split
    · exact SameShares.refl h
    · rename_i c hc
      have hc : c ∈ (a.pool i).claims := List.mem_of_getElem? hc
      split
      · have h1 := SameShares.grantClaim h hc
        have h2 := h1.trans (SameShares.setPool (fun i => (h1 i).apart) (SameShare.raised (h1 i).apart hr))
        dsimp only
        split
        · exact h2
        · exact h2.trans (ih _ _ _ (Nat.le_refl _) fun i => (h2 i).apart)
      · split
        · exact ih _ _ a (Nat.le_succ_of_le hr) h
        · exact SameShares.refl h

theorem SameShares.pass {a : Arbiter} (h : ∀ i, (a.pool i).apart) (i : PoolId) : SameShares a (a.pass i) :=
  SameShares.walk i _ 0 0 a (Nat.le_refl _) h

end Sys2Proof.Machine
end

section
/-! SUPPORT for O53. The rows of a settlement (R20, R52), and what the zone holds after each of them. Settles O53. -/
namespace Sys2Proof.Machine

/-! ## Who holds (R51) -/

theorem Arbiter.pool_sound {a : Arbiter} (h : a.sound) (i : PoolId) : (a.pool i).sound := by
  cases i
  · exact h.heat
  · exact h.cool

theorem Arbiter.pools_apart {a : Arbiter} (h : a.sound) (i : PoolId) : (a.pool i).apart :=
  Pool.apart_of_sound (Arbiter.pool_sound h i)

theorem Arbiter.concerns_alone {a : Arbiter} (h : a.sound) {i j : PoolId} {z : Zone} (hi : (a.pool i).concerns z)
    (hj : j ≠ i) : ¬ (a.pool j).concerns z := by
  intro hc
  cases i <;> cases j
  case heat.heat | cool.cool => exact hj rfl
  case heat.cool => exact h.apart z ⟨hi, hc⟩
  case cool.heat => exact h.apart z ⟨hc, hi⟩

theorem Arbiter.holder_none {a : Arbiter} {z : Zone} (h : ∀ i, ¬ (a.pool i).concerns z) : a.holder z = none := by
  obtain ⟨h1, h2⟩ := (Pool.not_concerns_iff _ z).1 (h .heat)
  obtain ⟨h3, h4⟩ := (Pool.not_concerns_iff _ z).1 (h .cool)
  simp only [Arbiter.pool] at h1 h2 h3 h4
  simp [Arbiter.holder, h1, h2, h3, h4]

theorem Arbiter.holder_some {a : Arbiter} (h : a.sound) {i : PoolId} {z : Zone} (hi : (a.pool i).concerns z) :
    a.holder z = some i := by
  have yes := (Pool.concerns_iff _ z).1 hi
  cases i with
  | heat =>
    simp only [Arbiter.pool] at yes
    simp only [Arbiter.holder, Bool.or_eq_true]
    exact if_pos yes
  | cool =>
    obtain ⟨h1, h2⟩ := (Pool.not_concerns_iff _ z).1 (Arbiter.concerns_alone (j := .heat) h hi (by decide))
    simp only [Arbiter.pool] at h1 h2 yes
    simp only [Arbiter.holder, h1, h2, Bool.or_eq_true, Option.isSome_none, Bool.false_eq_true, or_self, if_false]
    exact if_pos yes

/-! ## The rows -/

theorem Arbiter.settle_none_none {a : Arbiter} {z : Zone} (h : a.holder z = none) (w rank : Nat) (now : Time) :
    a.settle z .none w rank now = a := by
  simp [Arbiter.settle, Direction.pool, h]

theorem Arbiter.settle_left {a : Arbiter} {z : Zone} {i : PoolId} (h : a.holder z = some i) (w rank : Nat) (now : Time) :
    a.settle z .none w rank now = (a.release i z).pass i := by
  simp [Arbiter.settle, Direction.pool, h]

theorem Arbiter.settle_new {a : Arbiter} {z : Zone} {d : Direction} {i : PoolId} (hd : d.pool = some i)
    (h : a.holder z = none) (w rank : Nat) (now : Time) : a.settle z d w rank now = (a.file i z w rank now).pass i := by
  simp [Arbiter.settle, hd, h]

theorem Arbiter.settle_moved {a : Arbiter} {z : Zone} {d : Direction} {i j : PoolId} (hd : d.pool = some j)
    (h : a.holder z = some i) (hij : i ≠ j) (w rank : Nat) (now : Time) :
    a.settle z d w rank now = (((a.release i z).file j z w rank now).pass i).pass j := by
  simp [Arbiter.settle, hd, h, hij]

theorem Arbiter.settle_within {a : Arbiter} {z : Zone} {d : Direction} {i : PoolId} (hd : d.pool = some i)
    (h : a.holder z = some i) (w rank : Nat) (now : Time) :
    a.settle z d w rank now = a.settleWithin i z w rank now := by
  simp [Arbiter.settle, hd, h]

theorem Arbiter.settleWithin_unclaimed {a : Arbiter} {i : PoolId} {z : Zone} (h : (a.pool i).claimOf z = none)
    (w rank : Nat) (now : Time) :
    (w < (a.pool i).unitsOf z → a.settleWithin i z w rank now = (a.giveBack i z ((a.pool i).unitsOf z - w)).pass i) ∧
    (w = (a.pool i).unitsOf z → a.settleWithin i z w rank now = a) ∧
    ((a.pool i).unitsOf z < w →
      a.settleWithin i z w rank now = (a.file i z (w - (a.pool i).unitsOf z) rank now).pass i) := by
  simp only [Arbiter.settleWithin, h]
  refine ⟨fun hw => if_pos hw, fun hw => ?_, fun hw => ?_⟩
  · rw [if_neg (by omega), if_pos hw]
  · rw [if_neg (by omega), if_neg (by omega)]

theorem Arbiter.settleWithin_claimed {a : Arbiter} {i : PoolId} {z : Zone} {c : Claim}
    (h : (a.pool i).claimOf z = some c) (w rank : Nat) (now : Time) :
    (w ≤ (a.pool i).unitsOf z → a.settleWithin i z w rank now =
      ((a.giveBack i z ((a.pool i).unitsOf z - w)).withdraw i z).pass i) ∧
    ((a.pool i).unitsOf z < w → c.units = w - (a.pool i).unitsOf z → c.rank = rank →
      a.settleWithin i z w rank now = a) ∧
    ((a.pool i).unitsOf z < w → ¬ (c.units = w - (a.pool i).unitsOf z ∧ c.rank = rank) →
      a.settleWithin i z w rank now = (a.update i c (w - (a.pool i).unitsOf z) rank).pass i) := by
  simp only [Arbiter.settleWithin, h]
  refine ⟨fun hw => if_pos hw, fun hw hu hr => ?_, fun hw hn => ?_⟩
  · rw [if_neg (by omega), if_pos ⟨hu, hr⟩]
  · rw [if_neg (by omega), if_neg hn]

/-! ## A return (R56) -/

theorem Pool.unitsOf_lessGrant {p : Pool} (h : p.grants.Pairwise (fun a b => a.zone ≠ b.zone)) (z : Zone) (u : Nat) :
    (p.lessGrant z u).unitsOf z = p.unitsOf z - u := by
  obtain ⟨cap, gs, cs⟩ := p
  simp only [Pool.unitsOf, Pool.grantOf, Pool.lessGrant]
  induction gs with
  | nil => simp
  | cons g gs ih =>
    obtain ⟨hg, hs⟩ := List.pairwise_cons.1 h
    by_cases hz : g.zone = z
    · by_cases hu : g.units - u = 0
      · have none : ((gs.map (fun g => if g.zone = z then { g with units := g.units - u } else g)).filter
            (fun g => !(decide (g.zone = z) && decide (g.units = 0)))).find? (fun g => decide (g.zone = z)) = none := by
          rw [List.find?_eq_none]
          intro b hb
          obtain ⟨x, hx, rfl⟩ := List.mem_map.1 (List.mem_filter.1 hb).1
          have hxz : ¬ x.zone = z := fun e => hg x hx (hz.trans e.symm)
          simp [hxz]
        rw [List.map_cons, List.filter_cons_of_neg (by simp [hz, hu]), none]
        simp [hz, hu]
      · simp [hz, hu]
    · simpa [hz] using ih hs

theorem Pool.concerns_lessGrant {p : Pool} {z y : Zone} {u : Nat} (h : (p.lessGrant z u).concerns y) : p.concerns y := by
  refine h.imp (fun ⟨b, hb, e⟩ => ?_) id
  obtain ⟨x, hx, rfl⟩ := List.mem_map.1 (List.mem_filter.1 hb).1
  refine ⟨x, hx, ?_⟩
  split at e <;> exact e

/-- All of its units returned: no record of the zone stands. -/
theorem Pool.grantOf_lessGrant_all {p : Pool} (h : p.grants.Pairwise (fun a b => a.zone ≠ b.zone)) (z : Zone) :
    (p.lessGrant z (p.unitsOf z)).grantOf z = none := by
  rw [Pool.grantOf, List.find?_eq_none]
  intro b hb e
  obtain ⟨hm, hf⟩ := List.mem_filter.1 hb
  obtain ⟨x, hx, rfl⟩ := List.mem_map.1 hm
  by_cases hz : x.zone = z
  · have hu : p.unitsOf z = x.units := by
      obtain ⟨l, r, el⟩ := List.append_of_mem hx
      have hl : l.find? (fun g => decide (g.zone = z)) = none := List.find?_eq_none.2 fun y hy => by
        rw [el, List.pairwise_append] at h
        simpa using fun e => h.2.2 y hy x List.mem_cons_self (e.trans hz.symm)
      simp [Pool.unitsOf, Pool.grantOf, el, List.find?_append, hl, hz]
    simp [hz, hu] at hf
  · simp [hz] at e

/-! ## The share after each change -/

theorem Arbiter.file_pool (a : Arbiter) (i : PoolId) (z : Zone) (u rank : Nat) (now : Time) : ∃ f n,
    (a.file i z u rank now).pool i = ((a.pool i).renumber f).withClaim ⟨z, u, rank, n, 0, now, false⟩ ∧
    ∀ j, j ≠ i → (a.file i z u rank now).pool j = (a.pool j).renumber f := by
  obtain ⟨f, hf⟩ := Arbiter.tick_pool a
  refine ⟨f, a.tick.counter, ?_, fun j hj => ?_⟩
  · rw [← hf]
    exact Arbiter.setPool_pool _ _ _
  · rw [← hf]
    exact Arbiter.setPool_other hj _ _

/-- R53: the zone's share with the claim filed; no other zone is new. -/
theorem Arbiter.file_share {a : Arbiter} (h : ∀ i, (a.pool i).apart) {i : PoolId} {z : Zone}
    (hz : (a.pool i).claimOf z = none) (u rank : Nat) (now : Time) :
    (∀ j, ((a.file i z u rank now).pool j).apart) ∧
    ((a.file i z u rank now).pool i).unitsOf z + ((a.file i z u rank now).pool i).claimed z = (a.pool i).unitsOf z + u ∧
    ∀ j, j ≠ i → ((a.file i z u rank now).pool j).concerns z → (a.pool j).concerns z := by
  obtain ⟨f, n, e, other⟩ := Arbiter.file_pool a i z u rank now
  have ren := fun j => SameShare.renumber (h j) f
  have hz' : ((a.pool i).renumber f).claimOf z = none := by
    rw [Pool.claimOf, Pool.renumber, List.find?_map]
    simpa [Pool.claimOf] using hz
  refine ⟨fun j => ?_, ?_, fun j hj hc => (ren j).concerns z (other j hj ▸ hc)⟩
  · by_cases hj : j = i
    · subst hj
      rw [e]
      exact Pool.apart_withClaim (ren j).apart hz'
    · rw [other j hj]
      exact (ren j).apart
  · rw [e, Pool.claimed_withClaim, if_pos rfl, Pool.claimed_none hz']
    show ((a.pool i).renumber f).unitsOf z + (u + 0) = _
    rw [Pool.unitsOf_renumber, Nat.add_zero]

/-- R54: the claim of the zone with its new units and rank. -/
theorem Arbiter.update_share {a : Arbiter} (h : ∀ i, (a.pool i).apart) {i : PoolId} {c : Claim}
    (hc : (a.pool i).claimOf c.zone = some c) (u rank : Nat) :
    (∀ j, ((a.update i c u rank).pool j).apart) ∧
    ((a.update i c u rank).pool i).unitsOf c.zone + ((a.update i c u rank).pool i).claimed c.zone =
      (a.pool i).unitsOf c.zone + u ∧
    ∀ j, j ≠ i → ((a.update i c u rank).pool j).concerns c.zone → (a.pool j).concerns c.zone := by
  have hm := (Pool.claimOf_mem hc).1
  unfold Arbiter.update
  split
  · have zones : ((a.pool i).claims.map (fun x => if x.zone = c.zone then { x with units := u } else x)).map Claim.zone =
        (a.pool i).claims.map Claim.zone := by
      rw [List.map_map]
      refine List.map_congr_left fun x _ => ?_
      by_cases e : x.zone = c.zone <;> simp [e]
    have hap : Pool.apart { a.pool i with
        claims := (a.pool i).claims.map (fun x => if x.zone = c.zone then { x with units := u } else x) } := by
      rw [Pool.apart, zones]
      exact h i
    refine ⟨fun j => ?_, ?_, fun j hj hcon => by rwa [Arbiter.setPool_other hj] at hcon⟩
    · by_cases hj : j = i
      · subst hj
        rw [Arbiter.setPool_pool]
        exact hap
      · rw [Arbiter.setPool_other hj]
        exact h j
    · rw [Arbiter.setPool_pool]
      have hmem : ({ c with units := u } : Claim) ∈
          (a.pool i).claims.map (fun x => if x.zone = c.zone then { x with units := u } else x) :=
        List.mem_map.2 ⟨c, hm, if_pos rfl⟩
      rw [Pool.claimed_of_mem (c := { c with units := u }) hap hmem]
      rfl
  · unfold Arbiter.moveClaim
    dsimp only
    obtain ⟨f, hf⟩ := Arbiter.tick_pool a
    have ren := fun j => SameShare.renumber (h j) f
    rw [hf]
    generalize hb : (⟨c.zone, u, rank, a.tick.counter, 0, c.filed, c.saturated⟩ : Claim) = b
    have hbz : b.zone = c.zone := by rw [← hb]
    have hbu : b.units = u := by rw [← hb]
    have hno : (((a.pool i).renumber f).withoutClaim c.zone).claimOf b.zone = none := by
      rw [Pool.claimOf, List.find?_eq_none]
      intro x hx
      simpa [hbz] using (List.mem_filter.1 hx).2
    have hwa := Pool.apart_withoutClaim (ren i).apart c.zone
    refine ⟨fun j => ?_, ?_, fun j hj hcon => ?_⟩
    · by_cases hj : j = i
      · subst hj
        rw [Arbiter.setPool_pool]
        exact Pool.apart_withClaim hwa hno
      · rw [Arbiter.setPool_other hj, hf]
        exact (ren j).apart
    · rw [Arbiter.setPool_pool]
      have e := Pool.claimed_withClaim (((a.pool i).renumber f).withoutClaim c.zone) b c.zone
      rw [if_pos hbz, Pool.claimed_withoutClaim, if_pos rfl, hbu] at e
      show ((a.pool i).renumber f).unitsOf c.zone + _ = _
      rw [Pool.unitsOf_renumber]
      exact congrArg _ e
    · rw [Arbiter.setPool_other hj, hf] at hcon
      exact (ren j).concerns _ hcon

/-- What a zone holds after a settlement: its want in the pool of its direction, and nothing in the other. -/
structure Settled (t : Arbiter) (i : PoolId) (z : Zone) (w : Nat) : Prop where
  apart : ∀ j, (t.pool j).apart
  share : (t.pool i).unitsOf z + (t.pool i).claimed z = w
  alone : ∀ j, j ≠ i → ¬ (t.pool j).concerns z

theorem Settled.shares {a b : Arbiter} {i : PoolId} {z : Zone} {w : Nat} (h : Settled a i z w) (hs : SameShares a b) :
    Settled b i z w :=
  ⟨fun j => (hs j).apart, ((hs i).share z).trans h.share, fun j hj hc => h.alone j hj ((hs j).concerns z hc)⟩

theorem Settled.pass {a : Arbiter} {i : PoolId} {z : Zone} {w : Nat} (h : Settled a i z w) (j : PoolId) :
    Settled (a.pass j) i z w := h.shares (SameShares.pass h.apart j)

theorem Settled.file {a : Arbiter} (h : ∀ i, (a.pool i).apart) {i : PoolId} {z : Zone}
    (hz : (a.pool i).claimOf z = none) (ho : ∀ j, j ≠ i → ¬ (a.pool j).concerns z) (u rank : Nat) (now : Time) {w : Nat}
    (hw : (a.pool i).unitsOf z + u = w) : Settled (a.file i z u rank now) i z w := by
  obtain ⟨h1, h2, h3⟩ := Arbiter.file_share h hz u rank now
  exact ⟨h1, h2.trans hw, fun j hj hc => ho j hj (h3 j hj hc)⟩

theorem Arbiter.release_pool (a : Arbiter) (i : PoolId) (z : Zone) :
    (a.release i z).pool i = ((a.pool i).lessGrant z ((a.pool i).unitsOf z)).withoutClaim z ∧
    ∀ j, j ≠ i → (a.release i z).pool j = a.pool j := by
  unfold Arbiter.release Arbiter.withdraw Arbiter.giveBack
  refine ⟨by rw [Arbiter.setPool_pool, Arbiter.setPool_pool], fun j hj => ?_⟩
  rw [Arbiter.setPool_other hj, Arbiter.setPool_other hj]

theorem Arbiter.release_apart {a : Arbiter} (h : ∀ i, (a.pool i).apart) (i : PoolId) (z : Zone) (j : PoolId) :
    ((a.release i z).pool j).apart := by
  by_cases hj : j = i
  · subst hj
    rw [(Arbiter.release_pool a j z).1]
    exact Pool.apart_withoutClaim (p := (a.pool j).lessGrant z _) (h j) z
  · rw [(Arbiter.release_pool a i z).2 j hj]
    exact h j

/-- R20: a zone that has left its pool holds nothing anywhere. -/
theorem Arbiter.release_nowhere {a : Arbiter} (h : a.sound) {i : PoolId} {z : Zone} (hi : (a.pool i).concerns z)
    (j : PoolId) : ¬ ((a.release i z).pool j).concerns z := by
  by_cases hj : j = i
  · subst hj
    rw [(Arbiter.release_pool a j z).1, Pool.not_concerns_iff]
    refine ⟨Pool.grantOf_lessGrant_all (Arbiter.pool_sound h j).grants z, ?_⟩
    rw [Pool.claimOf, List.find?_eq_none]
    exact fun c hc => by simpa using (List.mem_filter.1 hc).2
  · rw [(Arbiter.release_pool a i z).2 j hj]
    exact Arbiter.concerns_alone h hi hj

theorem Settled.within {a : Arbiter} (h : a.sound) {i : PoolId} {z : Zone} (hi : (a.pool i).concerns z) {w : Nat}
    (rank : Nat) (now : Time) : Settled (a.settleWithin i z w rank now) i z w := by
  have hap := Arbiter.pools_apart h
  have ho : ∀ j, j ≠ i → ¬ (a.pool j).concerns z := fun j hj => Arbiter.concerns_alone h hi hj
  have less := Pool.unitsOf_lessGrant (Arbiter.pool_sound h i).grants z ((a.pool i).unitsOf z - w)
  cases hc : (a.pool i).claimOf z with
  | none =>
    obtain ⟨below, same, above⟩ := Arbiter.settleWithin_unclaimed hc w rank now
    have hcl := Pool.claimed_none hc
    rcases Nat.lt_trichotomy w ((a.pool i).unitsOf z) with hw | hw | hw
    · rw [below hw]
      refine Settled.pass ⟨fun j => ?_, ?_, fun j hj => ?_⟩ i
      · by_cases hj : j = i
        · subst hj
          rw [Arbiter.giveBack, Arbiter.setPool_pool]
          exact hap j
        · rw [Arbiter.giveBack, Arbiter.setPool_other hj]
          exact hap j
      · rw [Arbiter.giveBack, Arbiter.setPool_pool, less]
        show _ + (a.pool i).claimed z = w
        omega
      · rw [Arbiter.giveBack, Arbiter.setPool_other hj]
        exact ho j hj
    · rw [same hw]
      exact ⟨hap, by omega, ho⟩
    · rw [above hw]
      exact (Settled.file hap hc ho _ rank now (by omega)).pass i
  | some c =>
    obtain ⟨below, same, above⟩ := Arbiter.settleWithin_claimed hc w rank now
    have hcl := Pool.claimed_some (hap i) hc
    obtain ⟨_, hcz⟩ := Pool.claimOf_mem hc
    by_cases hw : w ≤ (a.pool i).unitsOf z
    · rw [below hw]
      have e : (((a.giveBack i z ((a.pool i).unitsOf z - w)).withdraw i z).pool i) =
          ((a.pool i).lessGrant z ((a.pool i).unitsOf z - w)).withoutClaim z := by
        rw [Arbiter.withdraw, Arbiter.giveBack, Arbiter.setPool_pool, Arbiter.setPool_pool]
      have o : ∀ j, j ≠ i → ((a.giveBack i z ((a.pool i).unitsOf z - w)).withdraw i z).pool j = a.pool j := fun j hj => by
        rw [Arbiter.withdraw, Arbiter.giveBack, Arbiter.setPool_other hj, Arbiter.setPool_other hj]
      refine Settled.pass ⟨fun j => ?_, ?_, fun j hj => ?_⟩ i
      · by_cases hj : j = i
        · subst hj
          rw [e]
          exact Pool.apart_withoutClaim (p := (a.pool j).lessGrant z _) (hap j) z
        · rw [o j hj]
          exact hap j
      · rw [e, Pool.claimed_withoutClaim, if_pos rfl]
        show ((a.pool i).lessGrant z ((a.pool i).unitsOf z - w)).unitsOf z + 0 = w
        rw [less]
        omega
      · rw [o j hj]
        exact ho j hj
    · by_cases hs : c.units = w - (a.pool i).unitsOf z ∧ c.rank = rank
      · rw [same (by omega) hs.1 hs.2]
        exact ⟨hap, by omega, ho⟩
      · rw [above (by omega) hs]
        subst hcz
        obtain ⟨h1, h2, h3⟩ := Arbiter.update_share hap hc (w - (a.pool i).unitsOf c.zone) rank
        exact Settled.pass ⟨h1, h2.trans (by omega), fun j hj hcon => ho j hj (h3 j hj hcon)⟩ i

/-- A settlement with a want in a pool. -/
theorem Settled.settle {a : Arbiter} (h : a.sound) {z : Zone} {d : Direction} {i : PoolId} (hd : d.pool = some i)
    (w rank : Nat) (now : Time) : Settled (a.settle z d w rank now) i z w := by
  have hap := Arbiter.pools_apart h
  by_cases hn : ∀ j, ¬ (a.pool j).concerns z
  · rw [Arbiter.settle_new hd (Arbiter.holder_none hn)]
    refine (Settled.file hap ((Pool.not_concerns_iff _ z).1 (hn i)).2 (fun j _ => hn j) w rank now ?_).pass i
    rw [Pool.unitsOf_of_not_concerns (hn i), Nat.zero_add]
  · simp only [not_forall, not_not] at hn
    obtain ⟨p, hp⟩ := hn
    have hh := Arbiter.holder_some h hp
    by_cases e : p = i
    · subst e
      rw [Arbiter.settle_within hd hh]
      exact Settled.within h hp rank now
    · rw [Arbiter.settle_moved hd hh e]
      have gone := Arbiter.release_nowhere h hp
      refine ((Settled.file (Arbiter.release_apart hap p z) ((Pool.not_concerns_iff _ z).1 (gone i)).2
        (fun j _ => gone j) w rank now ?_).pass p).pass i
      rw [Pool.unitsOf_of_not_concerns (gone i), Nat.zero_add]

theorem Arbiter.settle_nowhere {a : Arbiter} (h : a.sound) (z : Zone) (w rank : Nat) (now : Time) (i : PoolId) :
    ¬ ((a.settle z .none w rank now).pool i).concerns z := by
  by_cases hn : ∀ j, ¬ (a.pool j).concerns z
  · rw [Arbiter.settle_none_none (Arbiter.holder_none hn)]
    exact hn i
  · simp only [not_forall, not_not] at hn
    obtain ⟨p, hp⟩ := hn
    rw [Arbiter.settle_left (Arbiter.holder_some h hp)]
    exact fun hc => Arbiter.release_nowhere h hp i
      ((SameShares.pass (Arbiter.release_apart (Arbiter.pools_apart h) p z) p i).concerns z hc)

/-! ## The operations written out (R48, R53 to R56) -/

theorem Arbiter.file_below {a : Arbiter} (hc : a.counter < 4294967295) (i : PoolId) (z : Zone) (u rank : Nat) (now : Time)
    {p q : List Claim} (e : (a.pool i).claims = p ++ q) (hp : ∀ x ∈ p, rank ≤ x.rank) (hq : ∀ x ∈ q, x.rank < rank) :
    a.file i z u rank now = { a with counter := a.counter + 1 }.setPool i
      { a.pool i with claims := p ++ (⟨z, u, rank, a.counter + 1, 0, now, false⟩ : Claim) :: q } := by
  unfold Arbiter.file
  rw [Arbiter.tick_below hc]
  have hpool : ({ a with counter := a.counter + 1 } : Arbiter).pool i = a.pool i := by cases i <;> rfl
  dsimp only
  rw [hpool, e, insertClaim_append hp hq]

theorem Arbiter.moveClaim_below {a : Arbiter} (hc : a.counter < 4294967295) (i : PoolId) (z : Zone) (u rank : Nat)
    (filed : Time) (m : Bool) {p q : List Claim} (e : (a.pool i).claims.filter (fun x => x.zone ≠ z) = p ++ q)
    (hp : ∀ x ∈ p, rank ≤ x.rank) (hq : ∀ x ∈ q, x.rank < rank) :
    a.moveClaim i z u rank filed m = { a with counter := a.counter + 1 }.setPool i
      { a.pool i with claims := p ++ (⟨z, u, rank, a.counter + 1, 0, filed, m⟩ : Claim) :: q } := by
  unfold Arbiter.moveClaim
  rw [Arbiter.tick_below hc]
  have hpool : ({ a with counter := a.counter + 1 } : Arbiter).pool i = a.pool i := by cases i <;> rfl
  have hw : ((a.pool i).withoutClaim z).claims = p ++ q := by
    rw [← e]
    simp [Pool.withoutClaim]
  dsimp only
  rw [hpool, hw, insertClaim_append hp hq]
  rfl

theorem Arbiter.setPool_counter (a : Arbiter) (i : PoolId) (p : Pool) : (a.setPool i p).counter = a.counter := by
  cases i <;> rfl

/-- What a change of one pool with the counter one on leaves. -/
theorem Arbiter.numbered_setPool (a : Arbiter) (i : PoolId) (p : Pool) :
    ({ a with counter := a.counter + 1 }.setPool i p).counter = a.counter + 1 ∧
    ({ a with counter := a.counter + 1 }.setPool i p).pool i = p ∧
    ∀ j, j ≠ i → ({ a with counter := a.counter + 1 }.setPool i p).pool j = a.pool j :=
  ⟨Arbiter.setPool_counter _ _ _, Arbiter.setPool_pool _ _ _, fun j hj => by
    rw [Arbiter.setPool_other hj]
    cases j <;> rfl⟩

theorem Arbiter.withdraw_eq (a : Arbiter) (i : PoolId) (z : Zone) :
    a.withdraw i z = a.setPool i { a.pool i with claims := (a.pool i).claims.filter (fun x => x.zone ≠ z) } := by
  simp [Arbiter.withdraw, Pool.withoutClaim]

theorem Arbiter.giveBack_eq (a : Arbiter) (i : PoolId) (z : Zone) (u : Nat) :
    a.giveBack i z u = a.setPool i { a.pool i with
      grants := ((a.pool i).grants.map (fun g => if g.zone = z then { g with units := g.units - u } else g)).filter
        (fun g => ¬ (g.zone = z ∧ g.units = 0)) } := by
  rw [Arbiter.giveBack, Pool.lessGrant]
  congr 2
  exact List.filter_congr fun g _ => by rw [Bool.eq_iff_iff]; simp

/-- Settles O53: the row by the zone's grant and claim; every pass and every new number keeps each zone's share, so
that the share the row makes is the share at the end. -/
theorem settlementByItsRows : Obligations.SettlementByItsRows := by
  unfold Obligations.SettlementByItsRows
  refine ⟨fun a z d w rank now h => ⟨fun hd hn => ?_, fun i hi => ⟨fun hd b hb => ⟨fun hdn => ?_, fun j hj => ?_⟩,
    fun hd g hg => ⟨fun hc => ?_, fun c hc => ?_⟩⟩, fun i hd hn => ?_, fun t ht => ⟨fun hd i => ?_, fun i hd hw => ?_⟩⟩,
    fun a t i z u rank now p q hc e hp hq ht => ?_, fun a t i c u rank ht => ⟨fun hr => ?_, fun hr hc p q e hp hq => ?_⟩,
    fun a i z u => ⟨Arbiter.withdraw_eq a i z, Arbiter.giveBack_eq a i z u⟩⟩
  · subst hd
    exact Arbiter.settle_none_none (Arbiter.holder_none hn) w rank now
  · subst hb hdn
    exact Arbiter.settle_left (Arbiter.holder_some h hi) w rank now
  · subst hb
    exact Arbiter.settle_moved hj (Arbiter.holder_some h hi) (fun e => hd (e ▸ hj)) w rank now
  · subst hg
    rw [Arbiter.settle_within hd (Arbiter.holder_some h hi)]
    exact Arbiter.settleWithin_unclaimed hc w rank now
  · subst hg
    rw [Arbiter.settle_within hd (Arbiter.holder_some h hi)]
    exact Arbiter.settleWithin_claimed hc w rank now
  · exact Arbiter.settle_new hd (Arbiter.holder_none hn) w rank now
  · subst ht hd
    exact Arbiter.settle_nowhere h z w rank now i
  · subst ht
    have held := Settled.settle h (z := z) hd w rank now
    refine ⟨?_, held.alone⟩
    have hs := held.share
    cases hcl : ((a.settle z d w rank now).pool i).claimOf z with
    | none => rwa [Pool.claimed_none hcl] at hs
    | some c => rwa [Pool.claimed_some (held.apart i) hcl] at hs
  · subst ht
    rw [Arbiter.file_below hc i z u rank now e hp hq]
    exact Arbiter.numbered_setPool a i _
  · subst ht
    exact if_pos hr
  · subst ht
    rw [Arbiter.update, if_neg hr, Arbiter.moveClaim_below hc i c.zone u rank c.filed c.saturated e hp hq]
    exact Arbiter.numbered_setPool a i _

end Sys2Proof.Machine
end

section
/-! SUPPORT for O51. The queue after a request, written out (R133, R136, R138). -/
namespace Sys2Proof.Machine

/-! ## The places of the queue -/

/-- R133: the end of the URGENT class. -/
theorem insertEntry_urgent {e : Entry} (h : e.urgent = true) {p q : List Entry} (hp : ∀ x ∈ p, x.urgent = true)
    (hq : ∀ x ∈ q, x.urgent = false) : insertEntry e (p ++ q) = p ++ e :: q := by
  have hq' : q.takeWhile (·.urgent) = [] ∧ q.dropWhile (·.urgent) = q := by
    cases q with
    | nil => exact ⟨rfl, rfl⟩
    | cons x q => simp [hq x List.mem_cons_self]
  rw [insertEntry, if_pos h, List.takeWhile_append_of_pos hp, List.dropWhile_append_of_pos hp, hq'.1, hq'.2, List.append_nil]

theorem insertEntry_normal {e : Entry} (h : e.urgent = false) (q : List Entry) : insertEntry e q = q ++ [e] := by
  rw [insertEntry, if_neg (by simp [h])]

/-- R138: the last entry is NORMAL: it is the one displaced. -/
theorem removeLastNormal_last {p : List Entry} {v : Entry} (h : v.urgent = false) :
    removeLastNormal (p ++ [v]) = some (v, p) := by
  simp [removeLastNormal, h]

/-- R136: the queue in which one entry alone is equal to the request. -/
theorem coalesce_one {e old : Entry} {p q : List Entry} (ho : e.same old = true) (hn : ∀ x ∈ p ++ q, e.same x = false) :
    coalesce e (p ++ old :: q) = some (if e.urgent && !old.urgent then
      insertEntry { old.absorb e with urgent := true } (p ++ q) else p ++ old.absorb e :: q) := by
  have hp : ∀ x ∈ p, e.same x = false := fun x hx => hn x (List.mem_append_left _ hx)
  have hq : ∀ x ∈ q, e.same x = false := fun x hx => hn x (List.mem_append_right _ hx)
  have find : (p ++ old :: q).find? (e.same ·) = some old := by
    rw [List.find?_append, List.find?_eq_none.2 (fun x hx => by simp [hp x hx]), Option.none_or, List.find?_cons, ho]
  have keep : ∀ l : List Entry, (∀ x ∈ l, e.same x = false) →
      l.filter (fun x => !e.same x) = l ∧ l.map (fun x => if e.same x then x.absorb e else x) = l := fun l hl =>
    ⟨List.filter_eq_self.2 fun x hx => by simp [hl x hx],
      (List.map_congr_left fun x hx => by simp [hl x hx]).trans (List.map_id l)⟩
  have filt : (p ++ old :: q).filter (fun x => !e.same x) = p ++ q := by
    rw [List.filter_append, List.filter_cons_of_neg (by simp [ho]), (keep p hp).1, (keep q hq).1]
  have mapd : (p ++ old :: q).map (fun x => if e.same x then x.absorb e else x) = p ++ old.absorb e :: q := by
    rw [List.map_append, List.map_cons, (keep p hp).2, (keep q hq).2, if_pos ho]
  unfold coalesce
  rw [find]
  dsimp only
  rw [filt, mapd]
  split <;> rfl

/-! ## What the originators of a displaced entry do (R138) -/

theorem State.tellRefused_none {s : State} {n : NodeId} {c : Command} {o : Origin} (h1 : o ≠ .retry)
    (h2 : ¬ (o = .commission ∧ c = .move)) (h3 : ¬ (o = .poll ∧ c = .halt)) : s.tellRefused n c o = s := by
  unfold State.tellRefused
  split
  · exact absurd rfl h1
  · exact absurd rfl h1
  · exact absurd ⟨rfl, rfl⟩ h2
  · exact absurd ⟨rfl, rfl⟩ h3
  · rfl

theorem State.tellRefused_retry (s : State) (n : NodeId) (c : Command) :
    s.tellRefused n c .retry = s.setNode n { s.node n with
      retryOwed := some (if c = .nodeReset then .reset else .check), retryStep := none } := by
  cases c <;> rfl

theorem CommWork.moveBegun_iff (w : CommWork) :
    w.moveBegun = true ↔ w ∈ [CommWork.moveAsked, .moveOwed, .moveDone] := by
  cases w <;> simp [CommWork.moveBegun]

theorem State.tellRefused_commission (s : State) (n : NodeId) :
    s.tellRefused n .move .commission =
      if s.work n ∈ [CommWork.moveAsked, .moveOwed, .moveDone] then s.setWork n .moveOwed else s := by
  show (if (s.work n).moveBegun = true then _ else _) = _
  simp only [CommWork.moveBegun_iff]

theorem State.refuseEntry_displaced (s : State) (v : Entry) : displaced s v (s.refuseEntry v) := by
  unfold State.refuseEntry
  refine ⟨fun h => ?_, fun m hm ha => ?_⟩
  · cases v.node with
    | none => rfl
    | some n =>
      dsimp only
      generalize v.origin :: v.absorbed = l at h
      induction l with
      | nil => rfl
      | cons o l ih =>
        obtain ⟨h1, h2, h3⟩ := h o List.mem_cons_self
        rw [List.foldl_cons, State.tellRefused_none h1 h2 h3]
        exact ih fun x hx => h x (List.mem_cons_of_mem _ hx)
  · rw [hm, ha]
    dsimp only [List.foldl_cons, List.foldl_nil]
    refine ⟨fun ho => ?_, fun ho hc => ?_, fun ho hc => ?_⟩
    · rw [ho, State.tellRefused_retry]
    · rw [ho, hc, State.tellRefused_commission]
    · rw [ho, hc]
      rfl

/-! ## A MOVE asked of the queue -/

/-- The request of a MOVE. -/
def State.moveEntry (s : State) (n : NodeId) (a : Nat) (o : Origin) : Entry := ⟨some n, .move, a, s.plantBound n, o, []⟩

theorem State.moveEntry_same {s : State} {n : NodeId} {a : Nat} {o : Origin} {x : Entry} :
    (s.moveEntry n a o).same x = true ↔ x.node = some n ∧ x.cmd = .move := by
  rw [Entry.same_iff]
  exact and_congr eq_comm eq_comm

theorem State.moveEntry_other {s : State} {n : NodeId} {a : Nat} {o : Origin} {x : Entry}
    (h : ¬ (x.node = some n ∧ x.cmd = .move)) : (s.moveEntry n a o).same x = false :=
  Bool.eq_false_iff.2 fun hs => h (State.moveEntry_same.1 hs)

/-- R136: a queued MOVE takes the new argument and origin. -/
theorem State.joinQueue_moveEntry {s : State} {n : NodeId} {a : Nat} {o : Origin} {p q : List Entry} {e : Entry}
    (hq : s.nodes.queue = p ++ e :: q) (he : e.node = some n) (hc : e.cmd = .move)
    (hn : ∀ x ∈ p ++ q, ¬ (x.node = some n ∧ x.cmd = .move)) :
    s.joinQueue (s.moveEntry n a o) = s.setQueue (if s.plantBound n && !e.urgent then
      insertEntry { e with argument := a, origin := o, urgent := true } (p ++ q)
      else p ++ { e with argument := a, origin := o } :: q) := by
  have hco := coalesce_one (e := s.moveEntry n a o) (State.moveEntry_same.2 ⟨he, hc⟩)
    (fun x hx => State.moveEntry_other (hn x hx))
  unfold State.joinQueue
  rw [hq, hco]
  rfl

/-- R133, R138: no MOVE of the node is queued: the request takes its place, or finds the queue full. -/
theorem State.joinQueue_newMove {s : State} {n : NodeId} (a : Nat) (o : Origin)
    (hn : ∀ x ∈ s.nodes.queue, ¬ (x.node = some n ∧ x.cmd = .move)) :
    (s.nodes.queue.length < 16 →
      s.joinQueue (s.moveEntry n a o) = s.setQueue (insertEntry (s.moveEntry n a o) s.nodes.queue)) ∧
    (16 ≤ s.nodes.queue.length → s.plantBound n = false →
      s.joinQueue (s.moveEntry n a o) = s.tellRefused n .move o) ∧
    (16 ≤ s.nodes.queue.length → s.plantBound n = true → ∀ v q, removeLastNormal s.nodes.queue = some (v, q) →
      s.joinQueue (s.moveEntry n a o) = (s.refuseEntry v).setQueue (insertEntry (s.moveEntry n a o) q)) := by
  have hco : coalesce (s.moveEntry n a o) s.nodes.queue = none :=
    (coalesce_none _ _).2 fun x hx => State.moveEntry_other (hn x hx)
  have hfl : s.absorbedInFlight (s.moveEntry n a o) = none := by
    unfold State.absorbedInFlight
    cases s.line.inFlight with
    | none => rfl
    | some x => simp [State.moveEntry]
  unfold State.joinQueue
  rw [hco, hfl]
  refine ⟨fun h => if_pos h, fun h hp => ?_, fun h hp v q hr => ?_⟩
  · dsimp only
    rw [if_neg (Nat.not_lt.2 (show Config.queueMax ≤ _ from h)), if_neg (by simp [State.moveEntry, hp])]
    rfl
  · dsimp only
    rw [if_neg (Nat.not_lt.2 (show Config.queueMax ≤ _ from h)), if_pos (by exact hp), hr]

theorem State.askMove_unasked {s : State} {n : NodeId} (h : (s.node n).state ∈ [NodeState.unknown, .offline, .fault])
    (a : Nat) (o : Origin) : s.askMove n a o = s := by
  unfold State.askMove
  cases hs : (s.node n).state <;> simp_all

theorem State.askMove_busy {s : State} {n : NodeId} (h : (s.node n).state = .busy) (a : Nat) (o : Origin) :
    s.askMove n a o = s.setNode n { s.node n with pending := some ⟨a, o⟩ } := by
  simp [State.askMove, h, State.modNode]

theorem State.askMove_queued {s : State} {n : NodeId} (h : (s.node n).state ∈ [NodeState.ready, .starting])
    (a : Nat) (o : Origin) : s.askMove n a o = s.request (s.moveEntry n a o) := by
  unfold State.askMove
  cases hs : (s.node n).state <;> simp_all [State.moveEntry]

theorem State.moveTo_asks {s : State} {n : NodeId} {a : Nat} (h : s.latestCommanded n ≠ some a) (o : Origin) :
    s.moveTo (some n) a o = s.askMove n a o := if_neg h

end Sys2Proof.Machine
end

section
/-! Settles O51: the targets of a zone's actuators and the MOVE requests they lead to (R22, R23, R138 to R141). -/
namespace Sys2Proof.Machine

/-! ## The targets (R22) -/

theorem ZoneRec.blowerTarget_rows (r : ZoneRec) (tn : ZoneTuning) (g : Option (PoolId × Nat)) :
    (r.effMode = .off → r.blowerTarget tn g = 0) ∧
    (r.effMode = .vent → r.blowerTarget tn g = tn.ventLevel) ∧
    (r.effMode ∈ [EffMode.auto, .heatOnly, .coolOnly] →
      r.blowerTarget tn g = max tn.minBlower (grantUnits g * 100 / r.wmax)) ∧
    (r.effMode ∈ [EffMode.purge, .defog, .curtain] → r.blowerTarget tn g = 100) := by
  unfold ZoneRec.blowerTarget opening
  cases r.effMode <;> simp

theorem ZoneRec.grantTarget_still {r : ZoneRec} (h : r.effMode ∈ [EffMode.off, .vent]) (i : PoolId)
    (g : Option (PoolId × Nat)) : r.grantTarget i g = 0 := by
  unfold ZoneRec.grantTarget
  cases hm : r.effMode <;> simp_all

theorem ZoneRec.grantTarget_moving {r : ZoneRec} (h : r.effMode ∉ [EffMode.off, .vent]) (i : PoolId)
    (g : Option (PoolId × Nat)) : r.grantTarget i g = grantIn i g * 100 / r.wmax := by
  unfold ZoneRec.grantTarget opening
  cases hm : r.effMode <;> simp_all

/-- R22: units within wmax open no actuator beyond 100. -/
theorem opening_le {u w : Nat} (h : u ≤ w) : u * 100 / w ≤ 100 := by
  rcases Nat.eq_zero_or_pos w with rfl | hw
  · simp
  · exact Nat.div_le_of_le_mul (Nat.mul_le_mul_right 100 h)

theorem grantIn_elsewhere {i : PoolId} {g : Option (PoolId × Nat)} (h : ∀ u, g ≠ some (i, u)) : grantIn i g = 0 := by
  cases g with
  | none => rfl
  | some x =>
    obtain ⟨p, u⟩ := x
    exact if_neg fun e => h u (by rw [e])

/-! ## The latest commanded value (R140) -/

theorem State.latestCommanded_queued {s : State} {n : NodeId} {e : Entry}
    (h : s.nodes.queue.find? (fun e => decide (e.node = some n) && decide (e.cmd = .move)) = some e) :
    s.latestCommanded n = some e.argument := by
  simp [State.latestCommanded, State.queuedMove, h]

theorem State.latestCommanded_unqueued {s : State} {n : NodeId}
    (h : s.nodes.queue.find? (fun e => decide (e.node = some n) && decide (e.cmd = .move)) = none) :
    (∀ m, (s.node n).pending = some m → s.latestCommanded n = some m.argument) ∧
    ((s.node n).pending = none → s.latestCommanded n = (s.node n).target) := by
  have hq : s.queuedMove n = none := by simp only [State.queuedMove, h]
  exact ⟨fun m hm => by simp [State.latestCommanded, hq, hm], fun hm => by simp [State.latestCommanded, hq, hm]⟩

/-! ## The MOVE at the queue (R133, R136, R138) -/

/-- R136: an equal entry takes the MOVE in, and keeps its place unless an URGENT one finds it NORMAL. -/
theorem State.request_queuedMove {s : State} {n : NodeId} (a : Nat) (o : Origin) {p q : List Entry} {e : Entry}
    (hq : s.nodes.queue = p ++ e :: q) (he : e.node = some n) (hc : e.cmd = .move)
    (hn : ∀ x ∈ p ++ q, ¬ (x.node = some n ∧ x.cmd = .move)) :
    ((s.plantBound n = false ∨ e.urgent = true) →
      queueBecomes s (p ++ { e with argument := a, origin := o } :: q) (s.request (s.moveEntry n a o))) ∧
    (∀ x y, s.plantBound n = true → e.urgent = false → p ++ q = x ++ y → (∀ b ∈ x, b.urgent = true) →
      (∀ b ∈ y, b.urgent = false) →
      queueBecomes s (x ++ { e with argument := a, origin := o, urgent := true } :: y)
        (s.request (s.moveEntry n a o))) := by
  have join := State.joinQueue_moveEntry (a := a) (o := o) hq he hc hn
  unfold State.request
  rw [join]
  refine ⟨fun h => ?_, fun x y hp hu hxy hx hy => ?_⟩
  · rw [if_neg (by rcases h with h | h <;> simp [h])]
    exact queueBecomes_handOver s _
  · rw [if_pos (by simp [hp, hu]), hxy, insertEntry_urgent rfl hx hy]
    exact queueBecomes_handOver s _

/-- R133: the MOVE finds room and takes its place. -/
theorem State.request_newMove {s : State} {n : NodeId} (a : Nat) (o : Origin)
    (hn : ∀ x ∈ s.nodes.queue, ¬ (x.node = some n ∧ x.cmd = .move)) (room : s.nodes.queue.length < 16) :
    (s.plantBound n = false →
      queueBecomes s (s.nodes.queue ++ [⟨some n, .move, a, false, o, []⟩]) (s.request (s.moveEntry n a o))) ∧
    (s.plantBound n = true → ∀ p q, s.nodes.queue = p ++ q → (∀ x ∈ p, x.urgent = true) →
      (∀ x ∈ q, x.urgent = false) →
      queueBecomes s (p ++ ⟨some n, .move, a, true, o, []⟩ :: q) (s.request (s.moveEntry n a o))) := by
  have join := (State.joinQueue_newMove a o hn).1 room
  unfold State.request
  rw [join]
  refine ⟨fun h => ?_, fun h p q hq hp hu => ?_⟩
  · rw [insertEntry_normal (by exact h), State.moveEntry, h]
    exact queueBecomes_handOver s _
  · rw [hq, insertEntry_urgent (by exact h) hp hu, State.moveEntry, h]
    exact queueBecomes_handOver s _

/-- R138: the MOVE finds the queue full: a zone's is forgotten, an URGENT one displaces the last NORMAL entry. -/
theorem State.request_fullMove {s : State} {n : NodeId} (a : Nat) (o : Origin)
    (hn : ∀ x ∈ s.nodes.queue, ¬ (x.node = some n ∧ x.cmd = .move)) (full : 16 ≤ s.nodes.queue.length) :
    (s.plantBound n = false → (∃ z, o = .zone z) →
      queueBecomes s s.nodes.queue (s.request (s.moveEntry n a o))) ∧
    (s.plantBound n = true → ∀ p q v, s.nodes.queue = p ++ (q ++ [v]) → (∀ x ∈ p, x.urgent = true) →
      (∀ x ∈ q ++ [v], x.urgent = false) →
      ∃ w, displaced s v w ∧
        queueBecomes w (p ++ ⟨some n, .move, a, true, o, []⟩ :: q) (s.request (s.moveEntry n a o))) := by
  obtain ⟨_, refused, displaces⟩ := State.joinQueue_newMove a o hn
  unfold State.request
  refine ⟨fun h ho => ?_, fun h p q v hq hp hu => ⟨s.refuseEntry v, State.refuseEntry_displaced s v, ?_⟩⟩
  · obtain ⟨z, rfl⟩ := ho
    rw [refused full h]
    exact queueBecomes_handOver s s.nodes.queue
  · have last : removeLastNormal s.nodes.queue = some (v, p ++ q) := by
      rw [hq, ← List.append_assoc]
      exact removeLastNormal_last (hu v (by simp))
    rw [displaces full h v _ last,
      insertEntry_urgent (by exact h) hp fun x hx => hu x (List.mem_append_left _ hx), State.moveEntry, h]
    exact queueBecomes_handOver _ _

/-- Settles O51: the targets by the effective mode, the comparison with the latest commanded value, and the MOVE by the
node's state and the queue it finds. -/
theorem targetsAreComputedAndAsked : Obligations.TargetsAreComputedAndAsked := by
  unfold Obligations.TargetsAreComputedAndAsked
  refine ⟨fun r tn g => ?_, fun s z r g hr hg => ?_, fun s n q hq => ?_, fun s t n a o => ⟨rfl, fun h => if_pos h, ?_⟩⟩
  · obtain ⟨off, vent, auto, full⟩ := r.blowerTarget_rows tn g
    refine ⟨off, vent, fun h => ?_, full, fun i h => ZoneRec.grantTarget_still h i g, fun i h =>
      ⟨fun u hu => ?_, fun hu => ?_⟩⟩
    · rw [auto h]
      cases g <;> rfl
    · have units : grantIn i g = u := by rw [hu]; exact if_pos rfl
      rw [ZoneRec.grantTarget_moving h, units]
      exact ⟨rfl, opening_le⟩
    · rw [ZoneRec.grantTarget_moving h, grantIn_elsewhere hu]
      simp
  · subst hr hg
    exact ⟨fun h => if_neg h, fun ho ha => if_pos ⟨ho, ha⟩⟩
  · subst hq
    exact ⟨fun e he => State.latestCommanded_queued he,
      fun m he hm => (State.latestCommanded_unqueued he).1 m hm,
      fun he hm => (State.latestCommanded_unqueued he).2 hm⟩
  · intro hl ht
    rw [State.moveTo_asks hl] at ht
    subst ht
    refine ⟨fun h => State.askMove_unasked h a o, fun h => State.askMove_busy h a o, fun h => ?_⟩
    rw [State.askMove_queued h]
    refine ⟨fun p e q hq he hc hn => (State.request_queuedMove a o hq he hc hn).1,
      fun p e q x y hq he hc hn hp hu hxy hx hy =>
        (State.request_queuedMove a o hq he hc hn).2 x y hp hu hxy hx hy,
      fun hn => ⟨fun room => (State.request_newMove a o hn room).1, fun room => (State.request_newMove a o hn room).2,
        fun full => (State.request_fullMove a o hn full).1, fun full => (State.request_fullMove a o hn full).2⟩⟩

end Sys2Proof.Machine
end

section
/-! Settles O52: the notices of an arbiter event (R21, R64, R68, R69, R80, R81, R83, R96, R102). -/
namespace Sys2Proof.Machine

/-! ## The zones (R68) -/

/-- A function of each zone in turn. -/
theorem takenInTurn_foldl (f : State → Zone → State) (l : List Zone) :
    ∀ s, takenInTurn (fun a y b => b = f a y) l s (l.foldl f s) := by
  induction l with
  | nil => exact fun s => rfl
  | cons z l ih => exact fun s => ⟨f s z, rfl, ih _⟩

/-- R68: the zones whose grant changed, but for the one that settled, in their order. -/
theorem State.grantNotices_eq (s : State) (before : Arbiter) (z : Option Zone) :
    s.grantNotices before z =
      (allZones.filter (fun y => decide (z ≠ some y) && decide (before.grantOf y ≠ s.arb.grantOf y))).foldl
        State.zoneTargets s := by
  rw [List.foldl_filter, State.grantNotices]
  refine congrArg (fun f => List.foldl f s allZones) (funext fun t => funext fun y => ?_)
  by_cases h1 : z = some y
  · simp [h1]
  · by_cases h2 : before.grantOf y = s.arb.grantOf y <;> simp [h1, h2]

/-! ## The plant controller's own changes over a request -/

theorem NodeSide.setPlant {s t : State} (h : NodeSide s t) {p q : Plant} (e : q = p) :
    NodeSide (s.setPlant p) (t.setPlant q) :=
  ⟨h.now, h.held, h.shedLine, h.key, h.zones, h.arb, e, h.cond, h.port, h.pending, h.op, h.tuning, h.pollTick, h.recs,
    h.still⟩

theorem NodeSide.setCond {s t : State} (h : NodeSide s t) {c d : CondBlock} (e : d = c) :
    NodeSide (s.setCond c) (t.setCond d) :=
  ⟨h.now, h.held, h.shedLine, h.key, h.zones, h.arb, h.plant, e, h.port, h.pending, h.op, h.tuning, h.pollTick, h.recs,
    h.still⟩

theorem NodeSide.enterHeater {s t : State} (h : NodeSide s t) (q : HeaterState) :
    NodeSide (s.enterHeater q) (t.enterHeater q) := by
  have hp : (t.enterHeater q).plant = (s.enterHeater q).plant := by
    simp only [State.enterHeater, h.plant, h.now]
  have hc : (t.enterHeater q).cond = (s.enterHeater q).cond := by simp only [State.enterHeater, h.cond]
  exact (h.setPlant hp).setCond hc

theorem NodeSide.enterSeq {s t : State} (h : NodeSide s t) (q : Seq) : NodeSide (s.enterSeq q) (t.enterSeq q) := by
  have hp : (t.enterSeq q).plant = (s.enterSeq q).plant := by
    simp only [State.enterSeq, State.setSequencer, h.plant, h.now]
  exact h.setPlant hp

/-- R78, R96: the MOVE of a READY plant node that is taken in is asked. -/
theorem State.plantMove_asks {s : State} {n : NodeId} {p : Option NodeId} (hp : p = some n)
    (hr : (s.node n).state = .ready) (ht : s.takesIn n .move) (a : Nat) (o : Origin) :
    (s.plantMove p a o).askedMove n a := by
  subst hp
  show (s.askMove n a o).askedMove n a
  rw [State.askMove_queued (by rw [hr]; simp)]
  refine (State.stands.mono (State.request_stands (e := s.moveEntry n a o) rfl ht) ?_).askedMove
  rintro m c b p os ⟨hm, hc, hb, _⟩
  exact ⟨hm, hc, (hb rfl).1⟩

theorem State.readyNode_ready {s : State} {n : NodeId} {p : Option NodeId} (hp : p = some n) (h : s.readyNode p = true) :
    (s.node n).state = .ready := by
  subst hp
  exact of_decide_eq_true h

/-! ## The view of HEAT (R69, R96, R102) -/

/-- The HEAT view taken. -/
def State.sawHeat (s : State) : State := s.setPlant { s.plant with viewHeat := s.arb.heat.view }

theorem State.hearHeat_changed {s : State} {before : Arbiter} (h : before.heat.view ≠ s.arb.heat.view) :
    s.hearHeat before =
      if before.heat.claims = [] ∧ s.arb.heat.claims ≠ [] then s.sawHeat.testStopDelay.heaterStart
      else s.sawHeat.testStopDelay := by
  have cond : (before.heat.view.nonEmpty = false ∧ s.arb.heat.view.nonEmpty = true) ↔
      (before.heat.claims = [] ∧ s.arb.heat.claims ≠ []) := by
    simp [Pool.view]
  unfold State.hearHeat
  dsimp only
  rw [if_neg h]
  simp only [cond]
  rfl

theorem State.viewHeat_quiet (s : State) :
    (s.sawHeat.plant.viewHeat.nonEmpty = false ∧ s.sawHeat.plant.viewHeat.granted ≤ s.sawHeat.plant.coolantOnly) ↔
      (s.arb.heat.claims = [] ∧ s.arb.heat.grantedTotal ≤ s.plant.coolant * s.plant.defn.coolantUnits) := by
  refine and_congr ?_ Iff.rfl
  show (!s.arb.heat.claims.isEmpty) = false ↔ _
  simp

/-- R102: the stop-delay condition in RUNNING. -/
theorem State.testStopDelay_running {s : State} (h : s.plant.heater.state = .running) :
    (s.arb.heat.claims = [] → s.arb.heat.grantedTotal ≤ s.plant.coolant * s.plant.defn.coolantUnits →
      (s.plant.heater.stopDelayTimer = none → s.sawHeat.testStopDelay = s.sawHeat.setHeater
        { s.plant.heater with stopDelayTimer := some (s.now + s.plant.stopDelay * Config.second) }) ∧
      (s.plant.heater.stopDelayTimer ≠ none → s.sawHeat.testStopDelay = s.sawHeat)) ∧
    (¬ (s.arb.heat.claims = [] ∧ s.arb.heat.grantedTotal ≤ s.plant.coolant * s.plant.defn.coolantUnits) →
      s.sawHeat.testStopDelay = s.sawHeat.setHeater { s.plant.heater with stopDelayTimer := none }) := by
  unfold State.testStopDelay
  rw [if_pos (show s.sawHeat.plant.heater.state = .running from h)]
  refine ⟨fun hc hg => ?_, fun hn => ?_⟩
  · rw [if_pos ((State.viewHeat_quiet s).2 ⟨hc, hg⟩)]
    exact ⟨fun ht => if_pos ht, fun ht => if_neg ht⟩
  · rw [if_neg fun hc => hn ((State.viewHeat_quiet s).1 hc)]
    rfl

theorem State.testStopDelay_still {s : State} (h : s.plant.heater.state ≠ .running) : s.testStopDelay = s := if_neg h

theorem State.testStopDelay_state (s : State) : s.testStopDelay.plant.heater.state = s.plant.heater.state := by
  unfold State.testStopDelay
  repeat' split
  all_goals rfl

theorem State.heaterStart_notOff {s : State} (h : s.plant.heater.state ≠ .off) : s.heaterStart = s :=
  if_neg fun hc => h hc.1

/-- R96: the start at a queue that is no longer empty. -/
theorem State.heaterStart_starts {s : State} (h : s.plant.heater.state = .off) (hp : s.plant.heater.permit = true)
    (hr : s.op.state = .run) (ha : s.auxReady = true) (hc : s.arb.heat.claims ≠ []) :
    s.sawHeat.heaterStart = (s.sawHeat.plantMove s.plant.defn.auxHeater 1 .plant).enterHeater .igniting := by
  have hv : s.sawHeat.plant.viewHeat.nonEmpty = true := by
    show (!s.arb.heat.claims.isEmpty) = true
    simpa using hc
  exact if_pos ⟨h, hp, hr, ha, hv⟩

theorem State.hearHeat_running {s : State} {before : Arbiter} (h : before.heat.view ≠ s.arb.heat.view)
    (hr : s.plant.heater.state = .running) : s.hearHeat before = s.sawHeat.testStopDelay := by
  have keep : s.sawHeat.testStopDelay.heaterStart = s.sawHeat.testStopDelay :=
    State.heaterStart_notOff (by
      rw [State.testStopDelay_state]
      show s.plant.heater.state ≠ .off
      rw [hr]
      simp)
  rw [State.hearHeat_changed h, keep, ite_self]

theorem State.hearHeat_starts {s : State} {before : Arbiter} (h : before.heat.view ≠ s.arb.heat.view)
    (hs : s.plant.heater.state = .off) (hp : s.plant.heater.permit = true) (hr : s.op.state = .run)
    (ha : s.auxReady = true) (hb : before.heat.claims = []) (hc : s.arb.heat.claims ≠ []) :
    NodeSide { s.sawHeat with
      plant := { s.sawHeat.plant with heater := s.plant.heater.still .igniting }
      cond := { s.sawHeat.cond with auxLockout := false } } (s.hearHeat before) ∧
    ∀ n, s.plant.defn.auxHeater = some n → s.takesIn n .move → (s.hearHeat before).askedMove n 1 := by
  have still : s.sawHeat.testStopDelay = s.sawHeat := State.testStopDelay_still (s := s.sawHeat) (by
    show s.plant.heater.state ≠ .running
    rw [hs]
    simp)
  rw [State.hearHeat_changed h, if_pos ⟨hb, hc⟩, still, State.heaterStart_starts hs hp hr ha hc]
  refine ⟨(NodeSide.plantMove s.sawHeat _ 1 .plant).enterHeater .igniting, fun n hn ht => ?_⟩
  exact State.plantMove_asks (s := s.sawHeat) hn (State.readyNode_ready (s := s) hn ha) ht 1 .plant

theorem State.hearHeat_still {s : State} {before : Arbiter} (h : before.heat.view ≠ s.arb.heat.view)
    (hs : s.plant.heater.state ≠ .running)
    (hn : ¬ (s.plant.heater.state = .off ∧ s.plant.heater.permit = true ∧ s.op.state = .run ∧ s.auxReady = true ∧
      before.heat.claims = [] ∧ s.arb.heat.claims ≠ [])) : s.hearHeat before = s.sawHeat := by
  have still : s.sawHeat.testStopDelay = s.sawHeat := State.testStopDelay_still (s := s.sawHeat) hs
  rw [State.hearHeat_changed h, still]
  split
  · rename_i hc
    exact if_neg fun ⟨h1, h2, h3, h4, _⟩ => hn ⟨h1, h2, h3, h4, hc⟩
  · rfl

/-! ## The view of COOL (R69, R80, R81, R83) -/

/-- The COOL view taken. -/
def State.sawCool (s : State) : State := s.setPlant { s.plant with viewCool := s.arb.cool.view }

theorem State.hearCool_changed {s : State} {before : Arbiter} (h : before.cool.view ≠ s.arb.cool.view) :
    s.hearCool before =
      if before.cool.claims = [] ∧ s.arb.cool.claims ≠ [] then s.sawCool.testHold.seqRise
      else s.sawCool.testHold := by
  have cond : (before.cool.view.nonEmpty = false ∧ s.arb.cool.view.nonEmpty = true) ↔
      (before.cool.claims = [] ∧ s.arb.cool.claims ≠ []) := by
    simp [Pool.view]
  unfold State.hearCool
  dsimp only
  rw [if_neg h]
  simp only [cond]
  rfl

theorem State.sawCool_waits {s : State} (h : s.arb.cool.claims ≠ []) : s.sawCool.plant.viewCool.nonEmpty = true := by
  show (!s.arb.cool.claims.isEmpty) = true
  simpa using h

/-- R83: the stage-down condition in RUNNING(k). -/
theorem State.holdCondition_iff (s : State) (k : Nat) :
    s.sawCool.holdCondition k = true ↔
      s.arb.cool.claims = [] ∧ s.arb.cool.grantedTotal + s.plant.defn.stageUnits k ≤ s.arb.cool.capacity := by
  show (!(!s.arb.cool.claims.isEmpty) &&
    decide (s.arb.cool.grantedTotal + s.plant.defn.stageUnits k ≤ s.arb.cool.capacity)) = true ↔ _
  simp

theorem State.testHold_running {s : State} {k : Nat} (h : s.plant.seq.state = .running k) :
    s.sawCool.testHold =
      if s.arb.cool.claims = [] ∧ s.arb.cool.grantedTotal + s.plant.defn.stageUnits k ≤ s.arb.cool.capacity then
        if s.plant.seq.holdTimer = none ∧ s.plant.seq.holdMet = false then
          s.sawCool.setSequencer
            { s.plant.seq with holdTimer := some (s.now + s.plant.defn.stageDownHold * Config.second) }
        else s.sawCool
      else s.sawCool.setSequencer { s.plant.seq with holdTimer := none, holdMet := false } := by
  have hk : s.sawCool.plant.seq.state = .running k := h
  unfold State.testHold
  rw [hk]
  simp only [State.holdCondition_iff]
  rfl

theorem State.testHold_still {s : State} (h : ∀ k, s.plant.seq.state ≠ .running k) : s.testHold = s := by
  unfold State.testHold
  split
  · rename_i k hk
    exact absurd hk (h k)
  · rfl

/-- R80, R81: a rise is the MOVE of the compressor node and the new state. -/
theorem State.seqRise_rises {s u : State} {k : Nat} {q : Sequencer} {st : Seq} (hu : u = s.plantMove s.plant.defn.compressor k .plant)
    (hq : (s.enterSeq st) = s.setSequencer q) :
    NodeSide (s.setSequencer q) (u.enterSeq st) ∧
    (s.compressorReady = true → ∀ n, s.plant.defn.compressor = some n → s.takesIn n .move →
      (u.enterSeq st).askedMove n k) := by
  subst hu
  refine ⟨?_, fun hr n hn ht => ?_⟩
  · rw [← hq]
    exact (NodeSide.plantMove s _ k .plant).enterSeq st
  · exact State.plantMove_asks (s := s) hn (State.readyNode_ready hn hr) ht k .plant

theorem State.seqRise_engages {s : State} (h : s.plant.seq.state = .off) (ha : 1 ≤ s.allowedStages)
    (hv : s.plant.viewCool.nonEmpty = true) (hr : s.compressorReady = true) :
    s.seqRise = (s.plantMove s.plant.defn.compressor 1 .plant).enterSeq .engaging := by
  unfold State.seqRise
  rw [h]
  exact if_pos ⟨ha, hv, hr⟩

theorem State.seqRise_stepsUp {s : State} {k : Nat} (h : s.plant.seq.state = .running k) (ha : k < s.allowedStages)
    (hv : s.plant.viewCool.nonEmpty = true) (hr : s.compressorReady = true) :
    s.seqRise = (s.plantMove s.plant.defn.compressor (k + 1) .plant).enterSeq (.stepUp k) := by
  unfold State.seqRise
  rw [h]
  exact if_pos ⟨ha, hv, hr⟩

theorem State.seqRise_still {s : State}
    (h0 : ¬ (s.plant.seq.state = .off ∧ 1 ≤ s.allowedStages ∧ s.compressorReady = true))
    (hk : ∀ k, ¬ (s.plant.seq.state = .running k ∧ k < s.allowedStages ∧ s.compressorReady = true)) : s.seqRise = s := by
  unfold State.seqRise
  split
  · rename_i h
    exact if_neg fun ⟨h1, _, h3⟩ => h0 ⟨h, h1, h3⟩
  · rename_i k h
    exact if_neg fun ⟨h1, _, h3⟩ => hk k ⟨h, h1, h3⟩
  · rfl

/-- The hold started afresh, in RUNNING(k) with a queue that waits. -/
theorem State.testHold_waiting {s : State} {k : Nat} (h : s.plant.seq.state = .running k) (hc : s.arb.cool.claims ≠ []) :
    s.sawCool.testHold = s.sawCool.setSequencer { s.plant.seq with holdTimer := none, holdMet := false } := by
  rw [State.testHold_running h, if_neg fun hh => hc hh.1]

theorem State.hearCool_engages {s : State} {before : Arbiter} (h : before.cool.view ≠ s.arb.cool.view)
    (hs : s.plant.seq.state = .off) (ha : 1 ≤ s.allowedStages) (hr : s.compressorReady = true)
    (hb : before.cool.claims = []) (hc : s.arb.cool.claims ≠ []) :
    NodeSide (s.sawCool.setSequencer { s.plant.seq with
      state := .engaging, holdTimer := none, holdMet := false, lockoutTimer := none, pollTimer := none
      checkAsked := false }) (s.hearCool before) ∧
    ∀ n, s.plant.defn.compressor = some n → s.takesIn n .move → (s.hearCool before).askedMove n 1 := by
  have still : s.sawCool.testHold = s.sawCool := State.testHold_still (s := s.sawCool) fun k => by
    show s.plant.seq.state ≠ _
    rw [hs]
    simp
  have rises := State.seqRise_engages (s := s.sawCool) hs ha (State.sawCool_waits hc) hr
  rw [State.hearCool_changed h, if_pos ⟨hb, hc⟩, still, rises]
  obtain ⟨side, asks⟩ := State.seqRise_rises (s := s.sawCool) (k := 1) (st := .engaging)
    (q := { s.plant.seq with
      state := .engaging, holdTimer := none, holdMet := false, lockoutTimer := none, pollTimer := none
      checkAsked := false }) rfl (by simp [State.enterSeq, State.setSequencer, State.sawCool, State.setPlant])
  exact ⟨side, asks hr⟩

theorem State.hearCool_stepsUp {s : State} {before : Arbiter} (h : before.cool.view ≠ s.arb.cool.view) {k : Nat}
    (hs : s.plant.seq.state = .running k) (hb : before.cool.claims = []) (hc : s.arb.cool.claims ≠ [])
    (ha : k < s.allowedStages) (hr : s.compressorReady = true) :
    NodeSide (s.sawCool.setSequencer { s.plant.seq with
      state := .stepUp k, holdTimer := none, holdMet := false, lockoutTimer := none, pollTimer := none
      checkAsked := false }) (s.hearCool before) ∧
    ∀ n, s.plant.defn.compressor = some n → s.takesIn n .move → (s.hearCool before).askedMove n (k + 1) := by
  rw [State.hearCool_changed h, if_pos ⟨hb, hc⟩, State.testHold_waiting hs hc]
  generalize hw : s.sawCool.setSequencer { s.plant.seq with holdTimer := none, holdMet := false } = w
  have hallow : w.allowedStages = s.allowedStages := by
    rw [← hw]
    rfl
  rw [State.seqRise_stepsUp (s := w) (k := k) (by rw [← hw]; exact hs) (by rw [hallow]; exact ha)
    (by rw [← hw]; exact State.sawCool_waits hc) (by rw [← hw]; exact hr)]
  obtain ⟨side, asks⟩ := State.seqRise_rises (s := w) (k := k + 1) (st := .stepUp k)
    (q := { s.plant.seq with
      state := .stepUp k, holdTimer := none, holdMet := false, lockoutTimer := none, pollTimer := none
      checkAsked := false }) rfl (by
        rw [← hw]
        simp [State.enterSeq, State.setSequencer, State.sawCool, State.setPlant])
  refine ⟨?_, fun n hn ht => asks (by rw [← hw]; exact hr) n (by rw [← hw]; exact hn) (by rw [← hw]; exact ht)⟩
  rw [← hw] at side ⊢
  exact side

theorem State.hearCool_running {s : State} {before : Arbiter} (h : before.cool.view ≠ s.arb.cool.view) {k : Nat}
    (hs : s.plant.seq.state = .running k)
    (hn : s.arb.cool.claims ≠ [] → ¬ (before.cool.claims = [] ∧ k < s.allowedStages ∧ s.compressorReady = true)) :
    s.hearCool before = s.sawCool.testHold := by
  rw [State.hearCool_changed h]
  split
  · rename_i hc
    rw [State.testHold_waiting hs hc.2]
    refine State.seqRise_still (fun h0 => ?_) fun j hj => hn hc.2 ?_
    · have e : s.plant.seq.state = .off := h0.1
      rw [hs] at e
      simp at e
    · obtain ⟨e, ha, hr⟩ := hj
      have e : s.plant.seq.state = .running j := e
      rw [hs] at e
      obtain rfl : k = j := by simpa using e
      exact ⟨hc.1, ha, hr⟩
  · rfl

theorem State.hearCool_still {s : State} {before : Arbiter} (h : before.cool.view ≠ s.arb.cool.view)
    (hs : ∀ k, s.plant.seq.state ≠ .running k)
    (hn : ¬ (s.plant.seq.state = .off ∧ 1 ≤ s.allowedStages ∧ s.compressorReady = true ∧ before.cool.claims = [] ∧
      s.arb.cool.claims ≠ [])) : s.hearCool before = s.sawCool := by
  have still : s.sawCool.testHold = s.sawCool := State.testHold_still (s := s.sawCool) hs
  rw [State.hearCool_changed h, still]
  split
  · rename_i hc
    exact State.seqRise_still (s := s.sawCool) (fun ⟨h1, h2, h3⟩ => hn ⟨h1, h2, h3, hc⟩) fun k hk => hs k hk.1
  · rfl

/-- Settles O52: the zones in turn, then the HEAT view by the heater's state, then the COOL view by the sequencer's. -/
theorem arbiterEventSendsItsNotices : Obligations.ArbiterEventSendsItsNotices := by
  unfold Obligations.ArbiterEventSendsItsNotices
  refine ⟨fun s before z => ?_, fun s w t before h ht => ⟨fun hv => ?_, fun hv hw hh => ?_⟩,
    fun s w t before q ht => ⟨fun hv => ?_, fun hv hw hq => ?_⟩,
    fun s i v => ⟨fun hv => if_pos hv, fun hv => if_neg hv⟩⟩
  · refine ⟨s.grantNotices before z, (s.grantNotices before z).hearHeat before, ?_, rfl, rfl⟩
    rw [State.grantNotices_eq]
    exact takenInTurn_foldl State.zoneTargets _ s
  · subst ht
    exact if_pos hv
  · subst ht hw hh
    refine ⟨fun hr => ?_, fun hs hp hr ha hb hc => State.hearHeat_starts hv hs hp hr ha hb hc,
      fun hs hn => State.hearHeat_still hv hs hn⟩
    rw [State.hearHeat_running hv hr]
    exact State.testStopDelay_running hr
  · subst ht
    exact if_pos hv
  · subst ht hw hq
    refine ⟨fun hs ha hr hb hc => State.hearCool_engages hv hs ha hr hb hc, fun k hk => ⟨fun hc hb ha hr =>
      State.hearCool_stepsUp hv hk hb hc ha hr, fun hc hn => ?_, fun hc => ?_⟩,
      fun hs hn => State.hearCool_still hv hs hn⟩
    · rw [State.hearCool_running hv hk fun _ => hn]
      exact State.testHold_waiting hk hc
    · rw [State.hearCool_running hv hk fun hne => absurd hc hne, State.testHold_running hk]
      refine ⟨fun hle => ?_, fun hlt => if_neg fun hh => Nat.not_le.2 hlt hh.2⟩
      rw [if_pos ⟨hc, hle⟩]
      exact ⟨fun h1 h2 => if_pos ⟨h1, h2⟩, fun hn => if_neg hn⟩

end Sys2Proof.Machine
end

section
/-! Settles O22: RANGE_APPLY with a PLAN action (R177). -/
namespace Sys2Proof.Machine

/-! ## The zones of a tag -/

theorem allZones_ascending : allZones.Pairwise (· < ·) := by decide

theorem tagZones_ascending (first last : Nat) : (tagZones first last).Pairwise (· < ·) := allZones_ascending.filter _

theorem mem_tagZones {first last : Nat} {z : Zone} : z ∈ tagZones first last ↔ first ≤ z.number ∧ z.number ≤ last := by
  simp [tagZones, mem_allZones]

/-! ## A zone that is written, and perhaps evaluated -/

theorem Rewritten.side {s u : State} {z : Zone} {r : ZoneRec} {p : Prop} (h : Rewritten s z r p u) :
    DemandSide (s.setZone z r) u := by
  by_cases hp : p
  · exact (h.2 hp).side
  · rw [h.1 hp]
    exact DemandSide.refl _

theorem Rewritten.self {s u : State} {z : Zone} {r : ZoneRec} {p : Prop} (h : Rewritten s z r p u) :
    u.zone z = { r with
      direction := (u.zone z).direction, want := (u.zone z).want, claimRank := (u.zone z).claimRank } := by
  have e := h.side.zone z
  rwa [State.zone_setZone, if_pos rfl] at e

theorem Rewritten.others {s u : State} {z : Zone} {r : ZoneRec} {p : Prop} (h : Rewritten s z r p u) {y : Zone}
    (hy : y ≠ z) : u.zone y = s.zone y := by
  have e : (s.setZone z r).zone y = s.zone y := by rw [State.zone_setZone, if_neg hy]
  by_cases hp : p
  · rw [(h.2 hp).others y hy, e]
  · rw [h.1 hp, e]

/-! ## The walk over the zones -/

/-- A zone's part of a PLAN action: its record by g, evaluated again where `again` says so. -/
structure PlanStep (s : State) (f : State → Zone → State) (g : ZoneRec → ZoneRec) (again : ZoneRec → Prop) : Prop where
  write : ∀ (a : State) (z : Zone), a.now = s.now → a.zones.tuning = s.zones.tuning → a.op.state = .run →
    (a.zone z).active = true → Rewritten a z (g (a.zone z)) (again (a.zone z)) (f a z)

/-- The walk has come to a state in which these zones are still to be taken. -/
structure Walking (s a : State) (zs : List Zone) : Prop where
  now : a.now = s.now
  tuning : a.zones.tuning = s.zones.tuning
  run : a.op.state = .run
  port : a.port = s.port
  zone : ∀ z ∈ zs, a.zone z = s.zone z

theorem Walking.tail {s a : State} {z : Zone} {zs : List Zone} (h : Walking s a (z :: zs)) : Walking s a zs :=
  ⟨h.now, h.tuning, h.run, h.port, fun y hy => h.zone y (List.mem_cons_of_mem _ hy)⟩

theorem Walking.applies {s a : State} {z : Zone} {zs : List Zone} (h : Walking s a (z :: zs)) (src : Source)
    (v : Option Int) : a.planApplies src v z = s.planApplies src v z := by
  have hz := h.zone z List.mem_cons_self
  have ha : ∀ v, a.setpointAllowed z src v = s.setpointAllowed z src v := fun v => by
    unfold State.setpointAllowed
    rw [hz, h.tuning]
  unfold State.planApplies
  rw [hz, h.port]
  cases v with
  | none => rfl
  | some v => dsimp only; rw [ha]

theorem Walking.next {s a b : State} {z : Zone} {zs : List Zone} {r : ZoneRec} {p : Prop} (h : Walking s a (z :: zs))
    (hz : z ∉ zs) (hw : Rewritten a z r p b) : Walking s b zs := by
  have side := hw.side
  exact ⟨side.now.trans h.now, side.zoneTuning.trans h.tuning, by rw [side.op]; exact h.run, side.port.trans h.port,
    fun y hy => (hw.others fun e => hz (e ▸ hy)).trans (h.zone y (List.mem_cons_of_mem _ hy))⟩

/-- One zone's part, as the statement has it. -/
def planRule (p : Zone → Bool) (g : ZoneRec → ZoneRec) (again : ZoneRec → Prop) (a : State) (z : Zone) (b : State) :
    Prop :=
  (p z = false → b = a) ∧ (p z = true → Rewritten a z (g (a.zone z)) (again (a.zone z)) b)

/-- R177: the walk takes each zone in turn, counts those at which it applies, and leaves every other record. -/
structure Walked (s a : State) (zs : List Zone) (p : Zone → Bool) (g : ZoneRec → ZoneRec) (again : ZoneRec → Prop)
    (n : Nat) (r : State × Nat) : Prop where
  turn : takenInTurn (planRule p g again) zs a r.1
  count : r.2 = n + (zs.filter p).length
  port : r.1.port = s.port
  zone : ∀ z, r.1.zone z =
    if z ∈ zs ∧ p z = true then
      { g (a.zone z) with
        direction := (r.1.zone z).direction, want := (r.1.zone z).want, claimRank := (r.1.zone z).claimRank }
    else a.zone z

theorem State.walk_walked {s : State} {f : State → Zone → State} {g : ZoneRec → ZoneRec} {again : ZoneRec → Prop}
    (hs : PlanStep s f g again) (src : Source) (v : Option Int) (zs : List Zone) :
    ∀ (a : State) (n : Nat), Walking s a zs → zs.Nodup →
      Walked s a zs (s.planApplies src v) g again n
        (zs.foldl (fun r z => if r.1.planApplies src v z then (f r.1 z, r.2 + 1) else r) (a, n)) := by
  induction zs with
  | nil => exact fun a n h _ => ⟨rfl, rfl, h.port, fun z => by simp⟩
  | cons z zs ih =>
    intro a n h hd
    obtain ⟨hz, hd⟩ := List.nodup_cons.1 hd
    rw [List.foldl_cons]
    dsimp only
    rw [h.applies]
    by_cases hp : s.planApplies src v z = true
    · have hact : (a.zone z).active = true := by
        rw [h.zone z List.mem_cons_self]
        simp only [State.planApplies, Bool.and_eq_true] at hp
        exact hp.1.1
      have hw := hs.write a z h.now h.tuning h.run hact
      have w := ih (f a z) (n + 1) (h.next hz hw) hd
      rw [if_pos hp]
      refine ⟨⟨f a z, ⟨fun hf => ?_, fun _ => hw⟩, w.turn⟩, ?_, w.port, fun y => ?_⟩
      · rw [hp] at hf
        simp at hf
      · rw [w.count, List.filter_cons_of_pos hp, List.length_cons]
        omega
      · have wy := w.zone y
        by_cases hy : y = z
        · subst hy
          rw [if_neg fun hh => hz hh.1] at wy
          rw [if_pos ⟨List.mem_cons_self, hp⟩, wy]
          exact hw.self
        · rw [hw.others hy] at wy
          have hm : (y ∈ z :: zs ∧ s.planApplies src v y = true) ↔ (y ∈ zs ∧ s.planApplies src v y = true) := by
            simp [hy]
          rw [if_congr hm rfl rfl]
          exact wy
    · have w := ih a n h.tail hd
      have hf : s.planApplies src v z = false := Bool.eq_false_iff.2 hp
      rw [if_neg hp]
      refine ⟨⟨a, ⟨fun _ => rfl, fun ht => absurd ht hp⟩, w.turn⟩, ?_, w.port, fun y => ?_⟩
      · rw [w.count, List.filter_cons_of_neg hp]
      · have hm : (y ∈ z :: zs ∧ s.planApplies src v y = true) ↔ (y ∈ zs ∧ s.planApplies src v y = true) := by
          refine and_congr_left fun hy => ?_
          rw [List.mem_cons]
          exact or_iff_right fun e => hp (e ▸ hy)
        rw [if_congr hm rfl rfl]
        exact w.zone y

/-! ## The two PLAN actions -/

theorem PlanStep.planMode (s : State) (m : BaseMode) :
    PlanStep s (fun a z => a.changePlan z m (fun r => r)) (fun r => { r with baseMode := m })
      (fun r => r.baseMode ≠ m ∧ r.effMode ≠ .curtain) :=
  ⟨fun a z _ _ hr ha => by simpa using State.changePlan_rewritten m (fun r => r) hr ha⟩

theorem PlanStep.planSetpoint (s : State) (src : Source) (v : Int) :
    PlanStep s (fun a z => a.changeSetpointBy z src v) (s.setpointChange src v) (fun r => r.setpoint ≠ v) :=
  ⟨fun a z hn ht hr ha => by
    have e : a.setpointChange src v (a.zone z) = s.setpointChange src v (a.zone z) := by
      rw [State.setpointChange_eq, State.setpointChange_eq, hn, ht]
    rw [← e]
    exact State.changeSetpointBy_rewritten src v hr ha⟩

/-- R177: where a PLAN action applies. -/
theorem State.planApplies_iff (s : State) (src : Source) (v : Option Int) (z : Zone) :
    s.planApplies src v z = true ↔
      (s.zone z).active = true ∧ s.port.protection.bars z.number src = false ∧
      ∀ x, v = some x → src = .panel →
        (s.zone z).planSetpoint - s.zones.tuning.panelBand ≤ x ∧
        x ≤ (s.zone z).planSetpoint + s.zones.tuning.panelBand := by
  unfold State.planApplies
  cases v with
  | none => simp
  | some x =>
    simp only [Bool.and_eq_true, Bool.not_eq_true', State.setpointAllowed_iff, Option.some.injEq, and_assoc,
      forall_eq']

/-! ## The request -/

/-- A RANGE_APPLY with a CLOSED tag, whose owner accepts it with the state u. -/
theorem State.applies_accepted {s u : State} (tag : Byte) {p payload : List Byte} {first last : Nat} (hf : s.portFree)
    (hr : s.op.state = .run) (ht : s.port.tag = .closed first last) (hl : p.length = 4)
    (ho : s.untagged.ownerTakes .rangeApply s.port.tag p = (u, .ok payload)) (hu : u.port = s.untagged.port) :
    ∃ t, s.answer (·.hostRequest .rangeApply tag p) = .next t ∧ t.repliesOk 0xA4#8 tag payload ∧
      t.replyFlag 1 = false ∧ Replied s u t := by
  have o := State.takeRequest_owner s .rangeApply p
    (by rw [hr]; rfl) (by rw [ht]; rfl) hl
  have e : s.takeRequest .rangeApply p = (u, .ok payload) := o.trans ho
  have hrep := State.reply_answered s u 0xA4#8 tag false (.ok payload) hu
  refine ⟨u.reply 0xA4#8 tag false (.ok payload), ?_, State.reply_replies _ _ _ _ _ _ rfl, State.reply_replyFlag _ _ _ _ _, ?_⟩
  · have h1 := State.hostRequest_free s .rangeApply tag p hf
    have h2 := State.takeGood_code s .rangeApply tag p
    have hc : (Kind.tagEffect .rangeApply).cleared s.port.tag (.ok payload) = false := by
      rw [ht]
      rfl
    rw [e] at h2
    simp only [hc] at h2
    simp only [State.answer, hf.1, Bool.false_eq_true, if_false, h1, h2]
    rfl
  · show u.reply 0xA4#8 tag false (.ok payload) = _
    rw [← hrep]
    rfl

theorem rangeAction_planMode {w : Word} {m : BaseMode} (h : w.toNat = m.code) :
    rangeAction 1#8 w = some (.planMode m) := by
  simp [rangeAction, h, baseModeOfNat_code]

theorem rangeAction_planSetpoint {v : Word} (h : setpointIn v) : rangeAction 2#8 v = some (.planSetpoint v.toInt) := by
  simp [rangeAction, setpointField_ok h]

theorem State.rangeApply_owner {s : State} {first last : Nat} {source action : Byte} {src : Source} {w : Word}
    {a : RangeAction} (hs : source = src.code) (ha : rangeAction action w = some a) :
    s.ownerTakes .rangeApply (.closed first last) ([source, action] ++ wordBytes w) = s.applyAction src a first last := by
  subst hs
  simp only [wordBytes, List.cons_append, List.nil_append, State.ownerTakes, joinBytes_split, State.takeRangeApply,
    withField, sourceField_code, ha]

/-- R177: a PLAN action on the zones of a CLOSED tag. -/
theorem State.applyPlan_answered {s : State} {c : Instr} (tag : Byte) {p : List Byte} {src : Source} {first last : Nat}
    {v : Option Int} {f : State → Zone → State} {g : ZoneRec → ZoneRec} {again : ZoneRec → Prop} (hf : s.portFree)
    (hr : s.op.state = .run) (ht : s.port.tag = .closed first last) (hl : p.length = 4)
    (hc : exec c s = s.answer (·.hostRequest .rangeApply tag p)) (hstep : PlanStep s f g again)
    (ho : s.untagged.ownerTakes .rangeApply s.port.tag p = s.untagged.applyPlan src v f first last) :
    ∃ t u, exec c s = .next t ∧
      t.repliesOk 0xA4#8 tag (countBytes (tagZones first last) (fun z => s.planApplies src v z)) ∧
      t.replyFlag 1 = false ∧ Replied s u t ∧
      takenInTurn (planRule (s.planApplies src v) g again) (tagZones first last) s.untagged u ∧
      (∀ z, t.zone z =
        if z ∈ tagZones first last ∧ s.planApplies src v z = true then
          { g (s.zone z) with
            direction := (t.zone z).direction, want := (t.zone z).want, claimRank := (t.zone z).claimRank }
        else s.zone z) := by
  have hd : (tagZones first last).Nodup := (tagZones_ascending first last).imp fun h => h.ne
  have w := State.walk_walked (s := s.untagged) ⟨hstep.write⟩ src v (tagZones first last) s.untagged 0
    ⟨rfl, rfl, hr, rfl, fun _ _ => rfl⟩ hd
  have ha : s.untagged.applyPlan src v f first last =
      ((s.untagged.walkTag (tagZones first last) (fun s z => s.planApplies src v z) f).1,
        .ok (countBytes (tagZones first last) (fun z => s.planApplies src v z))) := by
    have hcount := w.count
    rw [Nat.zero_add] at hcount
    unfold State.applyPlan countsAnswer countBytes
    dsimp only
    rw [show (s.untagged.walkTag (tagZones first last) (fun s z => s.planApplies src v z) f).2 = _ from hcount]
    rfl
  obtain ⟨t, he, hok, hflag, hrep⟩ := State.applies_accepted tag hf hr ht hl (ho.trans ha) w.port
  refine ⟨t, _, hc.trans he, hok, hflag, hrep, w.turn, fun z => ?_⟩
  have hz : t.zone z = (s.untagged.walkTag (tagZones first last) (fun s z => s.planApplies src v z) f).1.zone z := by
    rw [hrep]
    rfl
  rw [hz]
  exact w.zone z

/-- Settles O22: the walk keeps what the zones still to come are judged by, and each zone it applies at is written as by a
PLAN or a SETPOINT. -/
theorem rangeApplyPlans : Obligations.RangeApplyPlans := by
  unfold Obligations.RangeApplyPlans
  refine ⟨fun first last => ⟨tagZones_ascending first last, fun z => mem_tagZones⟩,
    fun s tag source src first last hf hr hs ht => ⟨State.planApplies_iff s src, State.setpointChange_eq s src,
      fun w m hm => ?_, fun v hv => ?_⟩⟩
  · exact State.applyPlan_answered (c := .rangeApplyPlanMode tag source w) tag hf hr ht rfl rfl (PlanStep.planMode s m)
      (by rw [ht]; exact State.rangeApply_owner hs (rangeAction_planMode hm))
  · exact State.applyPlan_answered (c := .rangeApplyPlanSetpoint tag source v) tag hf hr ht rfl rfl
      (PlanStep.planSetpoint s src v.toInt) (by rw [ht]; exact State.rangeApply_owner hs (rangeAction_planSetpoint hv))

end Sys2Proof.Machine
end

section
/-! SUPPORT for O35. A request that is taken in changes the queue and the line alone (R133, R136), and takes no mark of
commissioning (R160). -/
namespace Sys2Proof.Machine

/-! ## Requests that are not refused -/

/-- Only the queue and the line's record differ. -/
def OnlyQueue (s t : State) : Prop := t = (s.setQueue t.nodes.queue).setLine t.line

theorem OnlyQueue.refl (s : State) : OnlyQueue s s := rfl

theorem OnlyQueue.trans {s t u : State} (a : OnlyQueue s t) (b : OnlyQueue t u) : OnlyQueue s u := by
  unfold OnlyQueue at a b ⊢
  rw [b, a]
  rfl

theorem OnlyQueue.setQueue (s : State) (q : List Entry) : OnlyQueue s (s.setQueue q) := rfl
theorem OnlyQueue.setLine (s : State) (l : Line) : OnlyQueue s (s.setLine l) := rfl

theorem OnlyQueue.handOver (s : State) : OnlyQueue s s.handOver := by
  rcases s.handOver_cases with e | ⟨_, a, e, b, _, ht⟩
  · rw [e]
    exact OnlyQueue.refl s
  · rw [ht]
    rfl

section
variable {s t : State} (h : OnlyQueue s t)
include h

theorem OnlyQueue.node (m : NodeId) : t.node m = s.node m := by rw [h]; rfl
theorem OnlyQueue.op : t.op = s.op := by rw [h]; rfl
theorem OnlyQueue.plant : t.plant = s.plant := by rw [h]; rfl
theorem OnlyQueue.now : t.now = s.now := by rw [h]; rfl
theorem OnlyQueue.tuning : t.nodes.tuning = s.nodes.tuning := by rw [h]; rfl
theorem OnlyQueue.work (m : NodeId) : t.work m = s.work m := by rw [h]; rfl
theorem OnlyQueue.commissions : t.commissions = s.commissions := by rw [h]; rfl
theorem OnlyQueue.stopWatched (m : NodeId) : t.stopWatched m = s.stopWatched m := by rw [h]; rfl

theorem OnlyQueue.nodeSide : NodeSide s t := by
  rw [h]
  exact (NodeSide.setQueue s _).trans (NodeSide.setLine _ _)

end

/-- R133, R136: a request that is not refused, and displaces nothing. -/
theorem State.request_kept {s : State} {e : Entry} {n : NodeId} (hn : e.node = some n) (ht : s.takesIn n e.cmd)
    (hu : e.urgent = false ∨ e.cmd ∉ [Command.read, .status, .wake, .ident]) : OnlyQueue s (s.request e) := by
  refine OnlyQueue.trans ?_ (OnlyQueue.handOver _)
  have j := s.joinQueue_joins e
  generalize s.joinQueue e = t at j
  have queuedOr : (∀ y ∈ s.nodes.queue, e.same y = false) → Config.queueMax ≤ s.nodes.queue.length →
      s.inFlight n e.cmd = true ∧ e.cmd ∈ [Command.read, .status, .wake, .ident] := fun none full => by
    rcases ht with h | h | h
    · obtain ⟨y, hy, h1, h2⟩ := (s.queued_iff n e.cmd).1 h
      have := none y hy
      rw [(Entry.same_iff e y).2 ⟨by rw [hn, h1], h2.symm⟩] at this
      simp at this
    · exact h
    · exact absurd h (Nat.not_lt.2 full)
  cases j with
  | entry old q => exact OnlyQueue.setQueue s q
  | flight x fl => exact OnlyQueue.setLine s _
  | place => exact OnlyQueue.setQueue s _
  | displaces v q full urgent _ none =>
    rcases hu with hu | hu
    · rw [urgent] at hu
      simp at hu
    · exact absurd (queuedOr none full).2 hu
  | refused full _ none flight =>
    obtain ⟨hf, hk⟩ := queuedOr none full
    obtain ⟨x, hx, h1, h2⟩ := (s.inFlight_iff n e.cmd).1 hf
    exact absurd ⟨by rw [hn, h1], h2, by simpa using hk⟩ (flight x hx)

/-- The request of a node's own command: it is then queued or in flight. -/
theorem State.request_asked {s : State} {e : Entry} {n : NodeId} (hn : e.node = some n) (ht : s.takesIn n e.cmd) :
    (s.request e).asked n e.cmd :=
  (State.asked_iff_stands _ _ _).2 ((State.request_stands hn ht).mono fun _ _ _ _ _ p => ⟨p.1.trans hn, p.2.1⟩)

/-- A command that is asked takes another request of its own in. -/
theorem State.asked.takesIn {s : State} {n : NodeId} {c : Command} (h : s.asked n c)
    (hc : c ∈ [Command.read, .status, .wake, .ident]) : s.takesIn n c :=
  h.imp id fun h => .inl ⟨h, hc⟩

/-- R136: what is asked already makes the queue no longer. -/
theorem State.request_length_asked {s : State} {e : Entry} {n : NodeId} (hn : e.node = some n) (h : s.asked n e.cmd)
    (hc : e.cmd ∈ [Command.read, .status, .wake, .ident]) :
    (s.request e).nodes.queue.length ≤ s.nodes.queue.length := by
  refine (State.handOver_length _).trans ?_
  unfold State.joinQueue
  split
  · rename_i q hq
    exact length_coalesce hq
  · rename_i hq
    have none := (coalesce_none e _).1 hq
    rcases h with h | h
    · obtain ⟨y, hy, h1, h2⟩ := (s.queued_iff n e.cmd).1 h
      have := none y hy
      rw [(Entry.same_iff e y).2 ⟨by rw [hn, h1], h2.symm⟩] at this
      simp at this
    · obtain ⟨x, hx, h1, h2⟩ := (s.inFlight_iff n e.cmd).1 h
      have hf : s.absorbedInFlight e = some
          (s.setLine { s.line with txn := some { x with origins := x.origins ++ [e.origin] } }) := by
        simp only [State.absorbedInFlight, hx]
        exact if_pos ⟨by rw [hn, h1], h2, by simpa using hc⟩
      rw [hf]
      exact Nat.le_refl _

/-- A request of another node or command that finds room leaves what is asked. -/
theorem State.asked.request {s : State} {n : NodeId} {c : Command} {e : Entry} (h : s.asked n c)
    (he : ¬ (e.node = some n ∧ e.cmd = c)) (room : s.nodes.queue.length < Config.queueMax) :
    (s.request e).asked n c :=
  (State.asked_iff_stands _ _ _).2
    (((State.asked_iff_stands _ _ _).1 h).request (fun _ _ _ hp => absurd hp he) room)

/-! ## Settled nodes keep their marks (R160) -/

theorem State.moveLeft_iff (s : State) (n : NodeId) :
    s.moveLeft n = true ↔ s.asked n .move ∨ (s.node n).pending.isSome = true := by
  unfold State.moveLeft State.asked
  rw [Bool.or_eq_true, Bool.or_eq_true]
  tauto

/-- Nothing that R160 looks at has changed to the worse: no node is newly waiting for its mark, and those that wait stand
as before, with their MOVEs. -/
theorem State.followed.of {s t : State} (h : s.followed) (hop : t.op.state = .commissioning → s.op.state = .commissioning)
    (hk : ∀ m, t.work m = .moveDone → s.work m = .moveDone ∧ (t.node m).state = (s.node m).state ∧
      ((s.node m).pending.isSome = true → (t.node m).pending.isSome = true) ∧
      (s.asked m .move → t.asked m .move)) : t.followed := by
  intro hc m hw hr
  obtain ⟨hw', hst, hp, ha⟩ := hk m hw
  have left := (s.moveLeft_iff m).1 (h (hop hc) m hw' (hst ▸ hr))
  exact (t.moveLeft_iff m).2 (left.imp ha hp)

/-- No node becomes one whose initial MOVE has had its outcome. -/
def WorkKept (s t : State) : Prop := ∀ m, t.work m = .moveDone → s.work m = .moveDone

theorem WorkKept.refl (s : State) : WorkKept s s := fun _ h => h

theorem WorkKept.trans {s t u : State} (a : WorkKept s t) (b : WorkKept t u) : WorkKept s u := fun m h => a m (b m h)

theorem WorkKept.of_op {s t : State} (h : t.op = s.op) : WorkKept s t := fun m hw => by
  have e : t.op.work[m] = .moveDone := hw
  rw [h] at e
  exact e

theorem WorkKept.setWork (s : State) (n : NodeId) {w : CommWork} (hw : w ≠ .moveDone) : WorkKept s (s.setWork n w) :=
  fun m h => by
    rw [State.work_setWork] at h
    split at h
    · exact absurd h hw
    · exact h

theorem WorkKept.tellRefused (s : State) (n : NodeId) (c : Command) (o : Origin) : WorkKept s (s.tellRefused n c o) := by
  unfold State.tellRefused
  split
  · exact WorkKept.of_op rfl
  · exact WorkKept.of_op rfl
  · split
    · exact WorkKept.setWork s n (by simp)
    · exact WorkKept.refl s
  · exact WorkKept.of_op rfl
  · exact WorkKept.refl s

theorem WorkKept.refuseEntry (s : State) (e : Entry) : WorkKept s (s.refuseEntry e) := by
  unfold State.refuseEntry
  split
  · exact WorkKept.refl s
  · rename_i n _
    generalize e.origin :: e.absorbed = l
    induction l generalizing s with
    | nil => exact WorkKept.refl s
    | cons o l ih => exact (WorkKept.tellRefused s n e.cmd o).trans (ih _)

theorem WorkKept.request (s : State) (e : Entry) : WorkKept s (s.request e) := by
  refine WorkKept.trans ?_ (WorkKept.of_op (OnlyQueue.handOver _).op)
  have j := s.joinQueue_joins e
  generalize s.joinQueue e = t at j
  cases j with
  | entry | flight | place => exact WorkKept.of_op rfl
  | displaces v q => exact (WorkKept.refuseEntry s v).trans (WorkKept.of_op rfl)
  | refused => exact WorkKept.refuseEntry s e

/-! ## What is due at a poll (R125) -/

theorem WorkKept.askMove (s : State) (n : NodeId) (a : Nat) (o : Origin) : WorkKept s (s.askMove n a o) := by
  unfold State.askMove
  split
  · exact WorkKept.request s _
  · exact WorkKept.request s _
  · exact WorkKept.of_op rfl
  all_goals exact WorkKept.refl s

theorem WorkKept.askStatus (s : State) (n : NodeId) (o : Origin) : WorkKept s (s.askStatus n o) := by
  unfold State.askStatus
  split
  · exact WorkKept.request s _
  · exact WorkKept.request s _
  all_goals exact WorkKept.refl s

theorem WorkKept.dueAtPoll (s : State) (n : NodeId) : WorkKept s (s.dueAtPoll n) := by
  have halt : ∀ u : State, WorkKept u (u.owedHalt n) := fun u => by
    unfold State.owedHalt
    split
    · exact (WorkKept.of_op rfl).trans (WorkKept.request _ _)
    · exact WorkKept.refl u
  have retry : ∀ u : State, WorkKept u (u.owedRetry n) := fun u => by
    unfold State.owedRetry State.startRetry
    split
    · exact WorkKept.refl u
    · split
      · split
        · exact (WorkKept.of_op rfl).trans (WorkKept.request _ _)
        · exact (WorkKept.of_op rfl).trans (WorkKept.request _ _)
      · exact WorkKept.refl u
  have move : ∀ u : State, WorkKept u (u.owedMove n) := fun u => by
    unfold State.owedMove
    split
    · exact (WorkKept.setWork u n (by simp)).trans (WorkKept.askMove _ _ _ _)
    · exact WorkKept.refl u
  have watched : WorkKept s (if s.stopWatched n then s.askStatus n .shutdown else s) := by
    split
    · exact WorkKept.askStatus s n _
    · exact WorkKept.refl s
  exact ((watched.trans (halt _)).trans (retry _)).trans (move _)

/-- R125: a node for which nothing is due. -/
theorem State.dueAtPoll_idle {s : State} {n : NodeId} (h1 : s.stopWatched n = false) (h2 : (s.node n).haltOwed = false)
    (h3 : (s.node n).retryOwed = none) (h4 : ¬ (s.commissions = true ∧ s.work n = .moveOwed)) : s.dueAtPoll n = s := by
  have halt : s.owedHalt n = s := if_neg (by simp [h2])
  have retry : s.owedRetry n = s := by simp only [State.owedRetry, h3]
  have move : s.owedMove n = s := if_neg h4
  unfold State.dueAtPoll
  simp only [h1, Bool.false_eq_true, if_false, halt, retry, move]

theorem State.stopWatched_outside {s : State} (h : s.op.state ≠ .stopping) (n : NodeId) : s.stopWatched n = false := by
  simp [State.stopWatched, h]

end Sys2Proof.Machine
end

section
/-! SUPPORT for O35 and O2. What an evaluation, the plant controller's decisions, an entry to RUN and the notices of a
node that goes down carry on: any relation that is kept by changes outside the node manager, by a MOVE asked of it and by a
revival timer started. -/
namespace Sys2Proof.Machine

/-- A relation between the states before and after, kept by what the zone controller, the arbiter, the plant controller, the
operating-state controller and the condition block do. -/
structure Carried (R : State → State → Prop) : Prop where
  refl : ∀ s, R s s
  trans : ∀ {s t u}, R s t → R t u → R s u
  write : ∀ (s : State) (z : ZoneBlock) (a : Arbiter) (p : Plant) (o : OpControl) (c : CondBlock),
    R s { s with zones := z, arb := a, plant := p, op := o, cond := c }
  move : ∀ (s : State) (n : NodeId) (a : Nat) (o : Origin), o ≠ .retry → R s (s.askMove n a o)
  revive : ∀ (s : State) (n : NodeId), R s (s.startRevival n)

section
variable {R : State → State → Prop} (h : Carried R)
include h

theorem Carried.foldl {α : Type} (f : State → α → State) (hf : ∀ s a, R s (f s a)) (l : List α) :
    ∀ s, R s (l.foldl f s) := by
  induction l with
  | nil => exact h.refl
  | cons a l ih => exact fun s => h.trans (hf s a) (ih (f s a))

theorem Carried.setArb (s : State) (a : Arbiter) : R s (s.setArb a) := h.write s _ _ _ _ _
theorem Carried.setPlant (s : State) (p : Plant) : R s (s.setPlant p) := h.write s _ _ _ _ _
theorem Carried.setSequencer (s : State) (q : Sequencer) : R s (s.setSequencer q) := h.write s _ _ _ _ _
theorem Carried.setHeater (s : State) (q : Heater) : R s (s.setHeater q) := h.write s _ _ _ _ _
theorem Carried.setOp (s : State) (o : OpControl) : R s (s.setOp o) := h.write s _ _ _ _ _
theorem Carried.setWork (s : State) (n : NodeId) (w : CommWork) : R s (s.setWork n w) := h.write s _ _ _ _ _
theorem Carried.modZone (s : State) (z : Zone) (f : ZoneRec → ZoneRec) : R s (s.modZone z f) := h.write s _ _ _ _ _
theorem Carried.raise (s : State) (c : StickyCond) (i : Option Nat) : R s (s.raise c i) := h.write s _ _ _ _ _
theorem Carried.enterPart (s : State) (p : PartState) : R s (s.enterPart p) := h.write s _ _ _ _ _
theorem Carried.enterHeater (s : State) (q : HeaterState) : R s (s.enterHeater q) := h.write s _ _ _ _ _
theorem Carried.enterSeq (s : State) (q : Seq) : R s (s.enterSeq q) := h.setSequencer s _

/-! ## The targets and the notices -/

theorem Carried.moveTo (s : State) (n : Option NodeId) (a : Nat) {o : Origin} (ho : o ≠ .retry) : R s (s.moveTo n a o) := by
  unfold State.moveTo
  split
  · exact h.refl s
  · split
    · exact h.refl s
    · exact h.move s _ a o ho

theorem Carried.plantMove (s : State) (n : Option NodeId) (a : Nat) : R s (s.plantMove n a .plant) := by
  unfold State.plantMove
  split
  · exact h.refl s
  · exact h.move s _ a _ (by simp)

theorem Carried.zoneTargets (s : State) (z : Zone) : R s (s.zoneTargets z) := by
  unfold State.zoneTargets
  dsimp only
  split
  · exact h.trans (h.trans (h.moveTo s _ _ (by simp)) (h.moveTo _ _ _ (by simp))) (h.moveTo _ _ _ (by simp))
  · exact h.refl s

theorem Carried.grantNotices (s : State) (b : Arbiter) (z : Option Zone) : R s (s.grantNotices b z) := by
  unfold State.grantNotices
  refine h.foldl _ (fun t y => ?_) allZones s
  split
  · exact h.refl t
  · exact h.zoneTargets t y

theorem Carried.testHold (s : State) : R s s.testHold := by
  unfold State.testHold
  split
  · split
    · split
      · exact h.setSequencer s _
      · exact h.refl s
    · exact h.setSequencer s _
  · exact h.refl s

theorem Carried.seqRise (s : State) : R s s.seqRise := by
  unfold State.seqRise
  split
  · split
    · exact h.trans (h.plantMove s _ _) (h.enterSeq _ _)
    · exact h.refl s
  · split
    · exact h.trans (h.plantMove s _ _) (h.enterSeq _ _)
    · exact h.refl s
  · exact h.refl s

theorem Carried.heaterStart (s : State) : R s s.heaterStart := by
  unfold State.heaterStart
  split
  · exact h.trans (h.plantMove s _ _) (h.enterHeater _ _)
  · exact h.refl s

theorem Carried.testStopDelay (s : State) : R s s.testStopDelay := by
  unfold State.testStopDelay
  split
  · split
    · split
      · exact h.setHeater s _
      · exact h.refl s
    · exact h.setHeater s _
  · exact h.refl s

theorem Carried.hearCool (s : State) (b : Arbiter) : R s (s.hearCool b) := by
  unfold State.hearCool
  dsimp only
  split
  · exact h.refl s
  · have seen := h.trans (h.setPlant s { s.plant with viewCool := s.arb.cool.view }) (h.testHold _)
    split
    · exact h.trans seen (h.seqRise _)
    · exact seen

theorem Carried.hearHeat (s : State) (b : Arbiter) : R s (s.hearHeat b) := by
  unfold State.hearHeat
  dsimp only
  split
  · exact h.refl s
  · have seen := h.trans (h.setPlant s { s.plant with viewHeat := s.arb.heat.view }) (h.testStopDelay _)
    split
    · exact h.trans seen (h.heaterStart _)
    · exact seen

theorem Carried.notices (s : State) (b : Arbiter) (z : Option Zone) : R s (s.notices b z) :=
  h.trans (h.trans (h.grantNotices s b z) (h.hearHeat _ b)) (h.hearCool _ b)

theorem Carried.writeCapacity (s : State) (i : PoolId) (v : Nat) : R s (s.writeCapacity i v) := by
  unfold State.writeCapacity
  split
  · exact h.refl s
  · exact h.trans (h.setArb s _) (h.notices _ _ _)

/-! ## An evaluation (R11) -/

theorem Carried.evaluate (s : State) (z : Zone) : R s (s.evaluate z) := by
  unfold State.evaluate
  dsimp only
  split
  · split
    · exact h.zoneTargets s z
    · exact h.trans (h.trans (h.trans (h.modZone s z _) (h.setArb _ _)) (h.zoneTargets _ z)) (h.notices _ _ _)
  · exact h.refl s

/-! ## The plant controller -/

theorem Carried.shedStage (s : State) (k : Nat) : R s (s.shedStage k) := by
  unfold State.shedStage
  split <;> exact h.trans (h.trans (h.plantMove s _ _) (h.enterSeq _ _)) (h.writeCapacity _ _ _)

theorem Carried.seqDecide (s : State) : R s s.seqDecide := by
  unfold State.seqDecide
  split
  · exact h.seqRise s
  · split
    · split
      · exact h.shedStage s _
      · split
        · exact h.seqRise s
        · split
          · exact h.shedStage s _
          · exact h.refl s
    · exact h.refl s
  · exact h.refl s

theorem Carried.intakeCompare (s : State) : R s s.intakeCompare := by
  unfold State.intakeCompare
  split
  · exact h.refl s
  · split
    · exact h.refl s
    · exact h.moveTo s _ _ (by simp)

theorem Carried.restReport (s : State) : R s s.restReport := by
  unfold State.restReport
  split
  · exact h.enterPart s _
  · exact h.refl s

theorem Carried.heaterNodeDown (s : State) : R s s.heaterNodeDown := by
  unfold State.heaterNodeDown
  split
  · exact h.enterHeater s _
  · exact h.trans (h.enterHeater s _) (h.writeCapacity _ _ _)
  · exact h.enterHeater s _
  all_goals exact h.refl s

theorem Carried.plantNodeDown (s : State) (n : NodeId) (role : PlantRole) : R s (s.plantNodeDown n role) := by
  cases role with
  | compressor =>
    unfold State.plantNodeDown
    dsimp only
    split
    · exact h.refl s
    · exact h.trans (h.trans (h.trans (h.enterSeq s _) (h.writeCapacity _ _ _)) (h.raise _ _ _)) (h.restReport _)
  | auxHeater => exact h.trans (h.heaterNodeDown s) (h.restReport _)
  | intake => exact h.refl s

/-! ## The entry to RUN, and the marks of commissioning (R160, R161) -/

theorem Carried.startZone (s : State) (z : Zone) : R s (s.startZone z) := by
  unfold State.startZone
  split
  · exact h.modZone s z _
  · exact h.refl s

theorem Carried.startZones (s : State) : R s s.startZones :=
  h.trans (h.foldl _ h.startZone allZones s) (h.foldl _ h.evaluate allZones _)

theorem Carried.plantRun (s : State) : R s s.plantRun :=
  h.trans (h.trans (h.trans (h.trans (h.writeCapacity s _ _) (h.seqDecide _)) (h.heaterStart _)) (h.setPlant _ _))
    (h.intakeCompare _)

theorem Carried.enterRun (s : State) : R s s.enterRun :=
  h.trans (h.trans (h.trans (h.trans (h.trans (h.enterPart s _) (h.setOp _ _)) (h.startZones _)) (h.plantRun _))
    (h.foldl _ h.revive allNodes _)) (h.raise _ _ _)

theorem Carried.markDone (s : State) (n : NodeId) : R s (s.markDone n) := by
  unfold State.markDone State.testCommissioned
  have marked := h.trans (h.setOp s { s.op with done := s.op.done.set n.val true n.isLt }) (h.setWork _ n .idle)
  split
  · exact h.trans marked (h.enterRun _)
  · exact marked

theorem Carried.opFollow (s : State) : R s s.opFollow := by
  unfold State.opFollow
  split
  · refine h.foldl _ (fun t m => ?_) allNodes s
    unfold State.opSettled
    split
    · exact h.markDone t m
    · exact h.refl t
  · exact h.refl s

theorem Carried.opNodeDown (s : State) (n : NodeId) : R s (s.opNodeDown n) := by
  unfold State.opNodeDown
  split
  · exact h.markDone s n
  · exact h.refl s

/-! ## A node goes down (R151) -/

theorem Carried.zoneNodeDown (s : State) (z : Zone) (role : ZoneRole) : R s (s.zoneNodeDown z role) := by
  unfold State.zoneNodeDown
  split
  · exact h.refl s
  · exact h.trans (h.modZone s z _) (h.evaluate _ z)

theorem Carried.downNotice (s : State) (n : NodeId) : R s (s.downNotice n) := by
  unfold State.downNotice
  split
  · exact h.refl s
  · exact h.zoneNodeDown s _ _
  · exact h.plantNodeDown s n _

theorem Carried.faultNotices (s : State) (n : NodeId) : R s (s.faultNotices n) :=
  h.trans (h.trans (h.downNotice s n) (h.raise _ _ _)) (h.opNodeDown _ n)

theorem Carried.offlineNotices (s : State) (n : NodeId) : R s (s.offlineNotices n) :=
  h.trans (h.trans (h.downNotice s n) (h.raise _ _ _)) (h.opNodeDown _ n)

end

/-! ## What no operation inside the part changes -/

/-- Clock, hold, input lines, port and the commands waiting as before. -/
structure Ambient (s t : State) : Prop where
  now : t.now = s.now
  held : t.held = s.held
  shedLine : t.shedLine = s.shedLine
  key : t.key = s.key
  port : t.port = s.port
  pending : t.pending = s.pending

theorem Ambient.ofZone {s t : State} (h : ZoneSide s t) : Ambient s t :=
  ⟨h.now, h.held, h.shedLine, h.key, h.port, h.pending⟩

theorem Ambient.ofNode {s t : State} (h : NodeSide s t) : Ambient s t := Ambient.ofZone (ZoneSide.ofNode h)

/-- Any change of the part's own blocks. -/
theorem Ambient.write (s : State) (z : ZoneBlock) (a : Arbiter) (p : Plant) (n : NodeManager) (l : Line) (o : OpControl)
    (c : CondBlock) : Ambient s { s with zones := z, arb := a, plant := p, nodes := n, line := l, op := o, cond := c } :=
  ⟨rfl, rfl, rfl, rfl, rfl, rfl⟩

theorem Ambient.refl (s : State) : Ambient s s := ⟨rfl, rfl, rfl, rfl, rfl, rfl⟩

theorem Ambient.trans {s t u : State} (a : Ambient s t) (b : Ambient t u) : Ambient s u :=
  ⟨b.now.trans a.now, b.held.trans a.held, b.shedLine.trans a.shedLine, b.key.trans a.key, b.port.trans a.port,
    b.pending.trans a.pending⟩

theorem Ambient.startRevival (s : State) (n : NodeId) : Ambient s (s.startRevival n) := by
  unfold State.startRevival
  split
  · exact Ambient.write s _ _ _ _ _ _ _
  · exact Ambient.refl s

theorem Ambient.carried : Carried Ambient where
  refl := Ambient.refl
  trans := Ambient.trans
  write s z a p o c := Ambient.write s z a p s.nodes s.line o c
  move s n a o _ := Ambient.ofNode (NodeSide.askMove s n a o)
  revive := Ambient.startRevival

/-! ## What a node in FAULT keeps (R146, R147) -/

/-- No request that waits for the node is of a retry. -/
def State.unretried (s : State) (n : NodeId) : Prop :=
  ∀ e ∈ s.nodes.queue, e.node = some n → Origin.retry ∉ e.origin :: e.absorbed

/-- A node in FAULT without a retry that waits stays so, and its record is kept but for an owed HALT. -/
def FaultRecKept (n : NodeId) (s t : State) : Prop :=
  (s.node n).state = .fault → s.unretried n →
    t.unretried n ∧ t.node n = { s.node n with haltOwed := (t.node n).haltOwed }

theorem FaultRecKept.refl (n : NodeId) (s : State) : FaultRecKept n s s := fun _ h => ⟨h, rfl⟩

theorem FaultRecKept.trans {n : NodeId} {s t u : State} (a : FaultRecKept n s t) (b : FaultRecKept n t u) :
    FaultRecKept n s u := by
  intro hf hu
  obtain ⟨hu', e⟩ := a hf hu
  obtain ⟨hu'', e'⟩ := b (by rw [e]; exact hf) hu'
  exact ⟨hu'', by rw [e', e]⟩

/-- Queue and record of the node as before. -/
theorem FaultRecKept.of {n : NodeId} {s t : State} (hq : t.nodes.queue = s.nodes.queue) (hn : t.node n = s.node n) :
    FaultRecKept n s t := fun _ hu => by
  refine ⟨?_, by rw [hn]⟩
  unfold State.unretried
  rw [hq]
  exact hu

theorem FaultRecKept.handOver (n : NodeId) (s : State) : FaultRecKept n s s.handOver := fun _ hu => by
  refine ⟨fun e he => hu e ?_, by rw [(OnlyQueue.handOver s).node]⟩
  rcases s.handOver_cases with h | ⟨_, a, x, b, hq, ht⟩
  · rwa [h] at he
  · rw [ht] at he
    rw [hq]
    have he : e ∈ a ++ b := he
    rcases List.mem_append.1 he with he | he
    · exact List.mem_append_left _ he
    · exact List.mem_append_right _ (List.mem_cons_of_mem _ he)

theorem FaultRecKept.tellRefused {n m : NodeId} (s : State) (c : Command) {o : Origin} (h : m = n → o ≠ .retry) :
    FaultRecKept n s (s.tellRefused m c o) := by
  intro hf hu
  unfold State.tellRefused
  split
  · exact ⟨hu, by rw [State.node_modNode, if_neg fun e => h e.symm rfl]⟩
  · exact ⟨hu, by rw [State.node_modNode, if_neg fun e => h e.symm rfl]⟩
  · split
    · exact ⟨hu, rfl⟩
    · exact ⟨hu, rfl⟩
  · refine ⟨hu, ?_⟩
    rw [State.node_modNode]
    split
    · rename_i e
      rw [e]
    · rfl
  · exact ⟨hu, rfl⟩

theorem FaultRecKept.refuseEntry {n : NodeId} (s : State) {e : Entry}
    (h : e.node = some n → Origin.retry ∉ e.origin :: e.absorbed) : FaultRecKept n s (s.refuseEntry e) := by
  unfold State.refuseEntry
  split
  · exact FaultRecKept.refl n s
  · rename_i m hm
    generalize e.origin :: e.absorbed = l at h
    induction l generalizing s with
    | nil => exact FaultRecKept.refl n s
    | cons o l ih =>
      refine (FaultRecKept.tellRefused s e.cmd fun em ho => ?_).trans (ih _ fun en hr => h en (List.mem_cons_of_mem _ hr))
      exact h (by rw [hm, em]) (by rw [ho]; exact List.mem_cons_self)

theorem Entry.absorb_origins (old e : Entry) :
    ∀ o ∈ (old.absorb e).origin :: (old.absorb e).absorbed, o ∈ old.origin :: old.absorbed ∨ o = e.origin := by
  unfold Entry.absorb
  intro o ho
  split at ho
  · rcases List.mem_cons.1 ho with ho | ho
    · exact .inr ho
    · exact .inl (List.mem_cons_of_mem _ ho)
  · rcases List.mem_cons.1 ho with ho | ho
    · exact .inl (ho ▸ List.mem_cons_self)
    · rcases List.mem_append.1 ho with ho | ho
      · exact .inl (List.mem_cons_of_mem _ ho)
      · exact .inr (by simpa using ho)

/-- R136: every entry of the queue after it has taken a request in is one of before, or one that has taken it in. -/
theorem mem_coalesced {e x : Entry} {q r : List Entry} (h : coalesce e q = some r) (hx : x ∈ r) :
    x ∈ q ∨ ∃ old ∈ q, x.node = old.node ∧ x.origin = (old.absorb e).origin ∧ x.absorbed = (old.absorb e).absorbed := by
  unfold coalesce at h
  split at h
  · simp at h
  · rename_i old hf
    split at h
    · obtain rfl := Option.some.inj h
      rcases (mem_insertEntry _ _ _).1 hx with rfl | hx
      · exact .inr ⟨old, List.mem_of_find?_eq_some hf, Entry.absorb_node old e, rfl, rfl⟩
      · exact .inl (List.mem_filter.1 hx).1
    · obtain rfl := Option.some.inj h
      obtain ⟨y, hy, rfl⟩ := List.mem_map.1 hx
      split
      · exact .inr ⟨y, hy, Entry.absorb_node y e, rfl, rfl⟩
      · exact .inl hy

theorem mem_removeLastNormal {v x : Entry} {q r : List Entry} (h : removeLastNormal q = some (v, r)) :
    v ∈ q ∧ (x ∈ r → x ∈ q) := by
  unfold removeLastNormal at h
  dsimp only at h
  split at h
  · simp at h
  · rename_i w rest hd
    obtain ⟨rfl, rfl⟩ := Prod.mk.injEq _ _ _ _ ▸ Option.some.inj h
    have sub : ∀ y ∈ w :: rest, y ∈ q := fun y hy =>
      List.mem_reverse.1 ((List.dropWhile_suffix _).subset (hd ▸ hy))
    refine ⟨sub w List.mem_cons_self, fun hx => ?_⟩
    rcases List.mem_append.1 hx with hx | hx
    · exact sub x (List.mem_cons_of_mem _ (List.mem_reverse.1 hx))
    · exact List.mem_reverse.1 ((List.takeWhile_prefix _).subset (List.mem_reverse.1 hx))

/-- R133, R138: a request that is of no retry. -/
theorem FaultRecKept.request (n : NodeId) (s : State) {e : Entry} (h : Origin.retry ∉ e.origin :: e.absorbed) :
    FaultRecKept n s (s.request e) := by
  refine FaultRecKept.trans ?_ (FaultRecKept.handOver n _)
  have j := s.joinQueue_joins e
  generalize s.joinQueue e = t at j
  have ho : e.origin ≠ .retry := fun ho => h (ho ▸ List.mem_cons_self)
  cases j with
  | entry old q _ _ heq =>
    refine fun hf hu => ⟨fun x hx hxn hr => ?_, rfl⟩
    rcases mem_coalesced heq hx with hx | ⟨y, hy, h1, h2, h3⟩
    · exact hu x hx hxn hr
    · rw [h2, h3] at hr
      rcases Entry.absorb_origins y e _ hr with hr | hr
      · exact hu y hy (by rw [← h1, hxn]) hr
      · exact ho hr.symm
  | flight x fl => exact FaultRecKept.of rfl rfl
  | place =>
    refine fun hf hu => ⟨fun x hx hxn => ?_, rfl⟩
    rcases (mem_insertEntry _ _ _).1 hx with rfl | hx
    · exact h
    · exact hu x hx hxn
  | displaces v q full urgent heq none =>
    intro hf hu
    have hv := mem_removeLastNormal (x := v) heq
    obtain ⟨hu', e'⟩ := FaultRecKept.refuseEntry (n := n) s (e := v) (fun hn => hu v hv.1 hn) hf hu
    refine ⟨fun x hx hxn => ?_, e'⟩
    rcases (mem_insertEntry _ _ _).1 hx with rfl | hx
    · exact h
    · exact hu x ((mem_removeLastNormal heq).2 hx) hxn
  | refused => exact FaultRecKept.refuseEntry s fun _ => h

theorem FaultRecKept.askMove (n : NodeId) (s : State) (m : NodeId) (a : Nat) {o : Origin} (ho : o ≠ .retry) :
    FaultRecKept n s (s.askMove m a o) := by
  have hr : ∀ u, Origin.retry ∉ (⟨some m, .move, a, u, o, []⟩ : Entry).origin ::
      (⟨some m, .move, a, u, o, []⟩ : Entry).absorbed := fun u => by simpa using Ne.symm ho
  unfold State.askMove
  split
  · exact FaultRecKept.request n s (hr _)
  · exact FaultRecKept.request n s (hr _)
  · rename_i hb
    intro hf hu
    have hne : n ≠ m := by
      rintro rfl
      rw [hf] at hb
      simp at hb
    exact ⟨hu, by rw [State.node_modNode, if_neg hne]⟩
  all_goals exact FaultRecKept.refl n s

theorem FaultRecKept.startRevival (n : NodeId) (s : State) (m : NodeId) : FaultRecKept n s (s.startRevival m) := by
  unfold State.startRevival
  split
  · rename_i hb
    intro hf hu
    have hne : n ≠ m := by
      rintro rfl
      rw [hf] at hb
      simp at hb
    exact ⟨hu, by rw [State.node_modNode, if_neg hne]⟩
  · exact FaultRecKept.refl n s

theorem FaultRecKept.carried (n : NodeId) : Carried (FaultRecKept n) where
  refl := FaultRecKept.refl n
  trans := FaultRecKept.trans
  write _ _ _ _ _ _ := FaultRecKept.of rfl rfl
  move s m a _ ho := FaultRecKept.askMove n s m a ho
  revive := FaultRecKept.startRevival n

end Sys2Proof.Machine
end

section
/-! SUPPORT for O35. A node's own poll (R142, R125) and its travel timer (R143). -/
namespace Sys2Proof.Machine

/-! ## A settled node keeps its mark through the requests of a poll (R160) -/

theorem State.followed.request {s : State} {e : Entry} {n : NodeId} (h : s.followed) (hn : e.node = some n)
    (hm : e.cmd ≠ .move) (hu : e.urgent = false ∨ e.cmd ∉ [Command.read, .status, .wake, .ident])
    (room : s.nodes.queue.length < Config.queueMax) : (s.request e).followed := by
  have kept := State.request_kept hn (.inr (.inr room)) hu
  refine h.of (by rw [kept.op]; exact id) fun m hw => ⟨by rw [← kept.work]; exact hw, by rw [kept.node], ?_, fun ha => ?_⟩
  · rw [kept.node]
    exact id
  · exact ha.request (fun hc => hm hc.2) room

/-- What a request of a poll keeps: the settled nodes' marks, the part's state, the node's state, and one place more of the
queue at most. -/
structure Polled (n : NodeId) (s t : State) : Prop where
  followed : s.followed → t.followed
  part : t.op.state = s.op.state
  state : (t.node n).state = (s.node n).state
  length : t.nodes.queue.length ≤ s.nodes.queue.length + 1

theorem Polled.refl (n : NodeId) (s : State) : Polled n s s := ⟨id, rfl, rfl, Nat.le_succ _⟩

theorem Polled.request {s : State} {e : Entry} {n : NodeId} (hn : e.node = some n) (hm : e.cmd ≠ .move)
    (hu : e.urgent = false ∨ e.cmd ∉ [Command.read, .status, .wake, .ident])
    (room : s.nodes.queue.length < Config.queueMax) : Polled n s (s.request e) := by
  have kept := State.request_kept hn (.inr (.inr room)) hu
  exact ⟨fun h => h.request hn hm hu room, by rw [kept.op], by rw [kept.node], s.request_length e room⟩

/-- A change of the node's record in what R160 does not look at. -/
theorem Polled.modNode {n : NodeId} {s t : State} {f : NodeRec → NodeRec} (hs : ∀ r, (f r).state = r.state)
    (hp : ∀ r, (f r).pending = r.pending) (h : Polled n (s.modNode n f) t) : Polled n s t := by
  have same : ∀ m, ((s.modNode n f).node m).state = (s.node m).state ∧
      ((s.modNode n f).node m).pending = (s.node m).pending := fun m => by
    rw [State.node_modNode]
    split
    · rename_i e
      rw [e]
      exact ⟨hs _, hp _⟩
    · exact ⟨rfl, rfl⟩
  refine ⟨fun hf => h.followed (hf.of id fun m hw => ⟨hw, (same m).1, ?_, id⟩), h.part, h.state.trans (same n).1, h.length⟩
  rw [(same m).2]
  exact id

theorem Polled.askStatus {s : State} (n : NodeId) (o : Origin) (room : s.nodes.queue.length < Config.queueMax) :
    Polled n s (s.askStatus n o) := by
  unfold State.askStatus
  split
  · exact Polled.request rfl (by simp) (.inl rfl) room
  · exact Polled.request rfl (by simp) (.inl rfl) room
  all_goals exact Polled.refl n s

theorem Polled.askHalt {s : State} (n : NodeId) (room : s.nodes.queue.length < Config.queueMax) :
    Polled n s (s.askHalt n) :=
  Polled.request (e := ⟨some n, .halt, 0, s.plantBound n, .poll, []⟩) rfl (by simp) (.inr (by simp)) room

theorem Polled.askOwn {s : State} (n : NodeId) {c : Command} (o : Origin) (hc : c ≠ .move)
    (room : s.nodes.queue.length < Config.queueMax) : Polled n s (s.askOwn n c o) :=
  Polled.request (e := ⟨some n, c, 0, false, o, []⟩) rfl hc (.inl rfl) room

theorem Polled.owedHalt {s : State} (n : NodeId) (room : s.nodes.queue.length < Config.queueMax) :
    Polled n s (s.owedHalt n) := by
  unfold State.owedHalt
  split
  · exact Polled.modNode (f := fun r => { r with haltOwed := false }) (fun _ => rfl) (fun _ => rfl) (Polled.askHalt n room)
  · exact Polled.refl n s

theorem Polled.owedRetry {s : State} (n : NodeId) (room : s.nodes.queue.length < Config.queueMax) :
    Polled n s (s.owedRetry n) := by
  unfold State.owedRetry State.startRetry
  split
  · exact Polled.refl n s
  · split
    · split
      · exact Polled.modNode (f := fun r => { r with retryOwed := none, retryStep := some .status }) (fun _ => rfl)
          (fun _ => rfl) (Polled.askOwn n (c := .status) _ (by simp) room)
      · exact Polled.modNode (f := fun r => { r with retryOwed := none, retryStep := some .reset }) (fun _ => rfl)
          (fun _ => rfl) (Polled.askOwn n (c := .nodeReset) _ (by simp) room)
    · exact Polled.refl n s

theorem State.owedRetry_still {s : State} {n : NodeId} (h : (s.node n).state ≠ .fault) : s.owedRetry n = s := by
  unfold State.owedRetry
  split
  · rfl
  · exact if_neg h

/-- R160: the initial MOVE of the node takes no other node's mark. -/
theorem State.followed.owedMove {s : State} (n : NodeId) (h : s.followed)
    (room : (s.node n).state ≠ .fault → s.nodes.queue.length < Config.queueMax) : (s.owedMove n).followed := by
  unfold State.owedMove
  split
  · generalize hw : s.setWork n .moveAsked = w
    have work : ∀ m, w.work m = .moveDone → m ≠ n ∧ s.work m = .moveDone := fun m hm => by
      rw [← hw, State.work_setWork] at hm
      split at hm
      · simp at hm
      · exact ⟨by assumption, hm⟩
    have same : ∀ t : State, OnlyQueue w t → (∀ m, m ≠ n → w.asked m .move → t.asked m .move) → t.followed :=
      fun t hk ha => h.of (by rw [hk.op, ← hw]; exact id) fun m hm => by
        obtain ⟨hmn, hs⟩ := work m (by rw [← hk.work]; exact hm)
        refine ⟨hs, by rw [hk.node, ← hw]; rfl, ?_, fun hh => ha m hmn ?_⟩
        · rw [hk.node, ← hw]
          exact id
        · rw [← hw]
          exact hh
    have asks : ∀ o a, (s.node n).state = .ready ∨ (s.node n).state = .starting →
        (w.request ⟨some n, .move, a, w.plantBound n, o, []⟩).followed := fun o a hs => by
      have room' : w.nodes.queue.length < Config.queueMax := by
        rw [← hw]
        exact room (by rcases hs with hs | hs <;> simp [hs])
      exact same _ (State.request_kept rfl (.inr (.inr room')) (.inr (by simp))) fun m hm hh =>
        hh.request (fun hc => hm (Option.some.inj hc.1).symm) room'
    have hst : (w.node n).state = (s.node n).state := by rw [← hw]; rfl
    have done : ∀ a o, (w.askMove n a o).followed := fun a o => by
      unfold State.askMove
      split
      · rename_i hs
        exact asks _ _ (.inl (hst.symm.trans hs))
      · rename_i hs
        exact asks _ _ (.inr (hst.symm.trans hs))
      · refine h.of (by rw [← hw]; exact id) fun m hm => ?_
        obtain ⟨hmn, hs⟩ := work m hm
        rw [State.node_modNode, if_neg hmn, ← hw]
        exact ⟨hs, rfl, id, id⟩
      all_goals exact same w (OnlyQueue.refl w) fun _ _ hh => hh
    have e : s.initialMove n = w.askMove n (s.initialTarget n) .commission := by
      rw [← hw]
      rfl
    rw [e]
    exact done _ _
  · exact h

/-- R125, R142: in COMMISSIONING every settled node still has its mark after the poll's requests. -/
theorem State.followed.polled {s : State} (n : NodeId) (h : s.followed) (hc : s.op.state = .commissioning)
    (room : s.nodes.queue.length < 14) : ((s.askStatus n .poll).dueAtPoll n).followed := by
  have queue : ∀ k, k < 16 → k < Config.queueMax := fun k hk => hk
  have status := Polled.askStatus (s := s) n .poll (queue _ (by omega))
  have unwatched : (s.askStatus n .poll).stopWatched n = false :=
    State.stopWatched_outside (by rw [status.part, hc]; simp) n
  have l1 := status.length
  have halt := Polled.owedHalt (s := s.askStatus n .poll) n (queue _ (by omega))
  have l2 := halt.length
  have retry := Polled.owedRetry (s := (s.askStatus n .poll).owedHalt n) n (queue _ (by omega))
  unfold State.dueAtPoll
  simp only [unwatched, Bool.false_eq_true, if_false]
  refine (retry.followed (halt.followed (status.followed h))).owedMove n fun hf => queue _ ?_
  have still : ((s.askStatus n .poll).owedHalt n).owedRetry n = (s.askStatus n .poll).owedHalt n :=
    State.owedRetry_still fun hh => hf (retry.state.trans hh)
  rw [still]
  omega

/-- R142, R125: nothing is to be followed after a poll for which the queue has room. -/
theorem State.polled_unfollowed {s : State} (n : NodeId)
    (h : s.op.state = .commissioning → s.followed ∧ s.nodes.queue.length < 14) :
    ((s.askStatus n .poll).dueAtPoll n).opFollow = (s.askStatus n .poll).dueAtPoll n := by
  have side := (NodeSide.askStatus s n .poll).trans (NodeSide.dueAtPoll _ n)
  by_cases hc : s.op.state = .commissioning
  · exact State.opFollow_followed ((h hc).1.polled n hc (h hc).2)
  · exact State.opFollow_outside _ (by rw [side.op]; exact hc)

/-! ## A BUSY node's poll (R142) -/

theorem State.askStatus_busy {s : State} {n : NodeId} (h : (s.node n).state = .busy) (o : Origin) :
    s.askStatus n o = s.request ⟨some n, .status, 0, false, o, []⟩ := by
  simp only [State.askStatus, h]

/-- R142: the STATUS of the poll stands, and a watched one asks it again. -/
theorem State.pollStatus_asked {s : State} {n : NodeId} (hb : (s.node n).state = .busy) (ht : s.takesIn n .status)
    {w : State} (hw : w = if (s.askStatus n .poll).stopWatched n then (s.askStatus n .poll).askStatus n .shutdown
      else s.askStatus n .poll) :
    OnlyQueue s w ∧ w.asked n .status ∧
      (s.nodes.queue.length < 15 → w.nodes.queue.length < Config.queueMax) := by
  have e1 := State.askStatus_busy hb .poll
  have kept := State.request_kept (e := ⟨some n, .status, 0, false, .poll, []⟩) rfl ht (.inl rfl)
  have asked := State.request_asked (e := ⟨some n, .status, 0, false, .poll, []⟩) rfl ht
  have len := s.request_length ⟨some n, .status, 0, false, .poll, []⟩
  rw [← e1] at kept asked len
  have room : s.nodes.queue.length < 15 → (s.askStatus n .poll).nodes.queue.length < Config.queueMax := fun hl => by
    have := len (Nat.lt_succ_of_lt hl)
    show _ < 16
    omega
  subst hw
  split
  · have e2 := State.askStatus_busy (s := s.askStatus n .poll) (n := n) (by rw [kept.node]; exact hb) .shutdown
    have ht2 : (s.askStatus n .poll).takesIn n .status := asked.takesIn (by simp)
    rw [e2]
    exact ⟨kept.trans (State.request_kept rfl ht2 (.inl rfl)), State.request_asked rfl ht2, fun hl =>
      Nat.lt_of_le_of_lt (State.request_length_asked rfl asked (by simp)) (room hl)⟩
  · exact ⟨kept, asked, room⟩

/-- R160: of a BUSY node an owed initial MOVE becomes the pending one. -/
theorem State.owedMove_busy {s : State} {n : NodeId} (h : (s.node n).state = .busy) {m : NodeId} {c : Command}
    (ha : s.asked m c) : (s.owedMove n).asked m c := by
  unfold State.owedMove State.initialMove
  split
  · rw [State.askMove_busy (s := s.setWork n .moveAsked) h]
    exact ha
  · exact ha

/-- R142, R138: what a BUSY node is asked at its poll. -/
theorem State.polled_busy {s : State} {n : NodeId} (hb : (s.node n).state = .busy) (ht : s.takesIn n .status) :
    ((s.node n).haltOwed = false → ((s.askStatus n .poll).dueAtPoll n).asked n .status) ∧
    ((s.node n).haltOwed = true → s.nodes.queue.length < 15 →
      ((s.askStatus n .poll).dueAtPoll n).asked n .status ∧ ((s.askStatus n .poll).dueAtPoll n).asked n .halt) := by
  obtain ⟨kept, asked, room⟩ := State.pollStatus_asked hb ht rfl
  unfold State.dueAtPoll
  generalize hw : (if (s.askStatus n .poll).stopWatched n then (s.askStatus n .poll).askStatus n .shutdown
    else s.askStatus n .poll) = w at kept asked room
  have hwb : (w.node n).state = .busy := by rw [kept.node]; exact hb
  dsimp only
  refine ⟨fun ho => ?_, fun ho hl => ?_⟩
  · have halt : w.owedHalt n = w := if_neg (by rw [kept.node, ho]; simp)
    rw [halt, State.owedRetry_still (by rw [hwb]; simp)]
    exact State.owedMove_busy hwb asked
  · have halt : w.owedHalt n = (w.modNode n (fun r => { r with haltOwed := false })).askHalt n :=
      if_pos (by rw [kept.node, ho])
    generalize hm : w.modNode n (fun r => { r with haltOwed := false }) = u at halt
    have hroom : u.nodes.queue.length < Config.queueMax := by
      rw [← hm]
      exact room hl
    have hasked : u.asked n .status := by
      rw [← hm]
      exact asked
    have hkept := State.request_kept (s := u) (e := ⟨some n, .halt, 0, u.plantBound n, .poll, []⟩) rfl
      (.inr (.inr hroom)) (.inr (by simp))
    have hstate : ((u.askHalt n).node n).state = .busy := by
      have e := congrArg NodeRec.state (hkept.node n)
      refine e.trans ?_
      rw [← hm, State.node_modNode, if_pos rfl]
      exact hwb
    rw [halt, State.owedRetry_still (by rw [hstate]; simp)]
    exact ⟨State.owedMove_busy hstate (hasked.request (fun hc => by simp at hc) hroom),
      State.owedMove_busy hstate (State.request_asked (e := ⟨some n, .halt, 0, u.plantBound n, .poll, []⟩) rfl
        (.inr (.inr hroom)))⟩

/-! ## The travel timeout (R143, R146) -/

theorem State.faultRecord_halt (s : State) (n : NodeId) :
    s.faultRecord n .travelTimeout = (s.downAt n (faultedRecord (s.node n) .travelTimeout)).askHalt n := by
  simp only [State.faultRecord, if_true, State.dropEntries_all]
  rfl

theorem State.downAt_unretried (s : State) (n : NodeId) (r : NodeRec) : (s.downAt n r).unretried n := by
  intro e he hn
  have he : e ∈ s.nodes.queue.filter (fun e => e.node ≠ some n) := he
  have := (List.mem_filter.1 he).2
  simp [hn] at this

/-- R143: a BUSY node whose travel timer has expired, at the time it is taken at. -/
def State.timedOut (s : State) (n : NodeId) : State := s.downAt n (faultedRecord (s.node n) .travelTimeout)

theorem State.travelExpiry_eq {s : State} {n : NodeId} (h : (s.node n).state = .busy) :
    s.travelExpiry n = (((s.timedOut n).askHalt n).faultNotices n).opFollow := by
  unfold State.travelExpiry State.enterFault
  rw [if_pos h, State.faultRecord_halt]
  rfl

theorem State.timedOut_node (s : State) (n : NodeId) :
    (s.timedOut n).node n = faultedRecord (s.node n) .travelTimeout := State.downAt_node s n _

theorem State.timedOut_other (s : State) {n m : NodeId} (h : m ≠ n) : (s.timedOut n).node m = s.node m := by
  have e := State.node_setNode { s with nodes := { s.nodes with queue := s.nodes.queue.filter (fun e => e.node ≠ some n) } }
    n m (faultedRecord (s.node n) .travelTimeout)
  rw [if_neg h] at e
  exact e

/-- R143, R146: what follows a travel timeout leaves of the node's record, of the other nodes, and of all that is not the
part's. -/
theorem State.travelExpiry_kept {s t : State} {n : NodeId} (h : (s.node n).state = .busy) (ht : t = s.travelExpiry n) :
    t.node n = { faultedRecord (s.node n) .travelTimeout with haltOwed := (t.node n).haltOwed } ∧
    (∀ m, m ≠ n → (t.node m).state = (s.node m).state) ∧
    t.cond.nodeFault = ⟨true, min 255 (s.cond.nodeFault.count + 1), some n.address⟩ ∧ Ambient s t := by
  rw [State.travelExpiry_eq h] at ht
  have wn := s.timedOut_node n
  have record : FaultRecKept n (s.timedOut n) t := by
    rw [ht]
    exact ((FaultRecKept.request n _ (by simp)).trans ((FaultRecKept.carried n).faultNotices _ n)).trans
      ((FaultRecKept.carried n).opFollow _)
  have outside : Ambient s t := by
    have down : Ambient s (s.timedOut n) := Ambient.write s _ _ _ _ _ _ _
    rw [ht]
    exact ((down.trans (Ambient.ofNode (NodeSide.askHalt _ n))).trans (Ambient.carried.faultNotices _ n)).trans
      (Ambient.carried.opFollow _)
  have halt : FaultKept (s.timedOut n) ((s.timedOut n).askHalt n) := FaultKept.ofNode (NodeSide.askHalt _ n)
  generalize (s.timedOut n).askHalt n = v at ht halt
  have notice := halt.trans (FaultKept.downNotice v n)
  have after : FaultKept ((v.downNotice n).faultRaised n) t := by
    rw [ht]
    exact (FaultKept.opNodeDown ((v.downNotice n).faultRaised n) n).trans (FaultKept.opFollow _)
  refine ⟨?_, fun m hm => ?_, ?_, outside⟩
  · have e := (record (by rw [wn]; rfl) (State.downAt_unretried s n _)).2
    rw [wn] at e
    exact e
  · rw [after.state m]
    refine (notice.state m).trans ?_
    rw [s.timedOut_other hm]
  · rw [after.raised]
    show Sticky.mk true (min 255 ((v.downNotice n).cond.nodeFault.count + 1)) (some n.address) = _
    rw [notice.raised]
    rfl

/-- R19: the flag of the zone of a valve, damper or blower. -/
theorem State.travelExpiry_flag {s t : State} {n : NodeId} (h : (s.node n).state = .busy) (ht : t = s.travelExpiry n)
    {z : Zone} {role : ZoneRole} (hb : (s.node n).binding = some (.zone z role)) (hr : role ≠ .sensor)
    (hc : s.op.state ≠ .commissioning) : (t.zone z).flags.actuatorFault = true := by
  rw [State.travelExpiry_eq h] at ht
  have side : NodeSide (s.timedOut n) ((s.timedOut n).askHalt n) := NodeSide.askHalt _ n
  generalize (s.timedOut n).askHalt n = v at ht side
  have hvb : (v.node n).binding = some (.zone z role) := by
    rw [side.recs n, s.timedOut_node n]
    exact hb
  have hvc : v.op.state ≠ .commissioning := by
    rw [side.op]
    exact hc
  generalize hu : v.modZone z (fun r => { r with flags := { r.flags with actuatorFault := true } }) = u
  have hd : v.downNotice n = u.evaluate z := by
    simp only [State.downNotice, hvb, State.zoneNodeDown, hr, hvc, false_or, if_false, hu]
  have huc : u.op.state ≠ .commissioning := by
    rw [← hu]
    exact hvc
  have hec : ((u.evaluate z).faultRaised n).op.state ≠ .commissioning := by
    show (u.evaluate z).op.state ≠ _
    rw [(ZoneSide.evaluate u z).opState]
    exact huc
  have e : t = (u.evaluate z).faultRaised n := by
    rw [ht, State.faultNotices, hd]
    rw [show (u.evaluate z).raise .nodeFault (some n.address) = (u.evaluate z).faultRaised n from rfl,
      State.opNodeDown_outside n hec, State.opFollow_outside _ hec]
  rw [e]
  show ((u.evaluate z).zone z).flags.actuatorFault = true
  rw [(DemandSide.evaluate u z).zone z, ← hu, State.zone_modZone, if_pos rfl]

/-- R143: a node without an owner: the HALT is asked, and NODE_FAULT raised. -/
theorem State.travelExpiry_unbound {s : State} {n : NodeId} (h : (s.node n).state = .busy)
    (hb : (s.node n).binding = none) (hc : s.op.state ≠ .commissioning) :
    s.travelExpiry n = ((s.timedOut n).askHalt n).faultRaised n := by
  have side : NodeSide (s.timedOut n) ((s.timedOut n).askHalt n) := NodeSide.askHalt _ n
  have hvc : ((s.timedOut n).askHalt n).op.state ≠ .commissioning := by
    rw [side.op]
    exact hc
  have hvb : (((s.timedOut n).askHalt n).node n).untold := by
    refine .inl ?_
    rw [side.recs n, s.timedOut_node n]
    exact hb
  rw [State.travelExpiry_eq h, State.faultNotices_untold hvb hvc]
  exact State.opFollow_outside (((s.timedOut n).askHalt n).faultRaised n) hvc

theorem State.travelExpiry_halts {s t : State} {n : NodeId} (h : (s.node n).state = .busy) (ht : t = s.travelExpiry n)
    (hb : (s.node n).binding = none) (hc : s.op.state ≠ .commissioning) (room : s.nodes.queue.length < 16) :
    t.asked n .halt ∧ (t.node n).haltOwed = false ∧ t.zones = s.zones ∧ t.arb = s.arb ∧ t.plant = s.plant ∧
      t.op.state = s.op.state := by
  rw [State.travelExpiry_unbound h hb hc] at ht
  have hroom : (s.timedOut n).nodes.queue.length < Config.queueMax :=
    Nat.lt_of_le_of_lt (List.length_filter_le _ _) room
  have kept : OnlyQueue (s.timedOut n) ((s.timedOut n).askHalt n) :=
    State.request_kept rfl (.inr (.inr hroom)) (.inr (by simp))
  have asked : ((s.timedOut n).askHalt n).asked n .halt :=
    State.request_asked (e := ⟨some n, .halt, 0, (s.timedOut n).plantBound n, .poll, []⟩) rfl (.inr (.inr hroom))
  have side := kept.nodeSide
  subst ht
  refine ⟨asked, ?_, side.zones, side.arb, side.plant, congrArg OpControl.state kept.op⟩
  have e := congrArg NodeRec.haltOwed (kept.node n)
  refine e.trans ?_
  rw [s.timedOut_node n]
  rfl

/-- R138: a HALT that finds the queue full of others is owed. -/
theorem State.travelExpiry_owes {s t : State} {n : NodeId} (h : (s.node n).state = .busy) (ht : t = s.travelExpiry n)
    (hb : (s.node n).binding = none) (hc : s.op.state ≠ .commissioning) (full : 16 ≤ s.nodes.queue.length)
    (hn : ∀ e ∈ s.nodes.queue, e.node ≠ some n) : (t.node n).haltOwed = true := by
  rw [State.travelExpiry_unbound h hb hc] at ht
  subst ht
  show (((s.timedOut n).askHalt n).node n).haltOwed = true
  have hq : (s.timedOut n).nodes.queue = s.nodes.queue :=
    List.filter_eq_self.2 fun e he => by simpa using hn e he
  have hp : (s.timedOut n).plantBound n = false := by
    have e : ((s.timedOut n).node n).binding = none := by
      rw [s.timedOut_node n]
      exact hb
    simp [State.plantBound, e]
  generalize s.timedOut n = w at hq hp
  have hco : coalesce ⟨some n, .halt, 0, w.plantBound n, .poll, []⟩ w.nodes.queue = none := by
    rw [coalesce_none, hq]
    exact fun y hy => Entry.same_false fun hh => hn y hy hh.1
  have hfl : w.absorbedInFlight ⟨some n, .halt, 0, w.plantBound n, .poll, []⟩ = none := by
    unfold State.absorbedInFlight
    split
    · rfl
    · exact if_neg (by simp)
  have join : w.joinQueue ⟨some n, .halt, 0, w.plantBound n, .poll, []⟩ =
      w.modNode n (fun r => { r with haltOwed := true }) := by
    unfold State.joinQueue
    rw [hco, hfl]
    dsimp only
    rw [if_neg (Nat.not_lt.2 (show Config.queueMax ≤ _ by rw [hq]; exact full)), hp]
    rfl
  show ((w.request _).node n).haltOwed = true
  unfold State.request
  rw [(OnlyQueue.handOver _).node, join, State.node_modNode, if_pos rfl]

end Sys2Proof.Machine
end

section
/-! Settles O35: the nodes' timers and the poll tick (R125, R142, R143, R145, R147, R148). -/
namespace Sys2Proof.Machine

/-! ## The wake and revival timers (R145, R148) -/

/-- R148: the command of a start-up's step. -/
def StartStep.command : StartStep → Command
  | .wake => .wake
  | .ident => .ident

theorem State.askStart_eq (s : State) (n : NodeId) :
    s.askStart n = s.askOwn n (s.node n).startStep.command (startOrigin (s.node n).cause) := by
  unfold State.askStart
  cases (s.node n).startStep <;> rfl

/-- R148: the wake timer restarts. -/
def State.rewoken (s : State) (n : NodeId) : State :=
  s.modNode n (fun r => { r with wakeTimer := some (s.now + Config.wakePeriod) })

theorem State.wakeExpiry_eq (s : State) (n : NodeId) :
    s.wakeExpiry n =
      if s.asked n (s.node n).startStep.command then s.rewoken n else (s.rewoken n).askStart n := by
  have e : s.wakeExpiry n =
      if (s.queued n (s.node n).startStep.command || s.inFlight n (s.node n).startStep.command) = true then s.rewoken n
      else (s.rewoken n).askStart n := by
    unfold State.wakeExpiry
    cases (s.node n).startStep <;> rfl
  rw [e]
  simp only [Bool.or_eq_true]

theorem State.rewoken_node (s : State) (n : NodeId) :
    (s.rewoken n).node n = { s.node n with wakeTimer := some (s.now + Config.wakePeriod) } := by
  rw [State.rewoken, State.node_modNode, if_pos rfl]

theorem State.askStart_rewoken {s : State} {n : NodeId} (room : s.nodes.queue.length < 16) :
    ((s.rewoken n).askStart n).asked n (s.node n).startStep.command := by
  rw [State.askStart_eq, s.rewoken_node n]
  exact State.request_asked
    (e := ⟨some n, (s.node n).startStep.command, 0, false, startOrigin (s.node n).cause, []⟩) rfl (.inr (.inr room))

/-! ## The poll tick (R125) -/

theorem foldl_fixed {α : Type} {f : State → α → State} {s : State} (l : List α) (h : ∀ a ∈ l, f s a = s) :
    l.foldl f s = s := by
  induction l with
  | nil => rfl
  | cons a l ih =>
    rw [List.foldl_cons, h a List.mem_cons_self]
    exact ih fun b hb => h b (List.mem_cons_of_mem _ hb)

/-- A walk that changes something for one node alone. -/
theorem State.eachNode_one {f : State → NodeId → State} {s : State} {n : NodeId} (h : ∀ m, m ≠ n → f s m = s)
    (h' : ∀ m, m ≠ n → f (f s n) m = f s n) : s.eachNode f = f s n := by
  have walk : ∀ l : List NodeId, l.Nodup → n ∈ l → l.foldl f s = f s n := by
    intro l
    induction l with
    | nil => exact fun _ hn => absurd hn List.not_mem_nil
    | cons m l ih =>
      intro hd hn
      obtain ⟨hm, hd⟩ := List.nodup_cons.1 hd
      rw [List.foldl_cons]
      by_cases e : m = n
      · subst e
        exact foldl_fixed l fun k hk => h' k fun e => hm (e ▸ hk)
      · rw [h m e]
        exact ih hd ((List.mem_cons.1 hn).resolve_left (Ne.symm e))
  exact walk allNodes allNodes_nodup (mem_allNodes n)

theorem State.tickNode_idle {s : State} {n : NodeId} (h1 : s.stopWatched n = false)
    (h2 : (s.node n).retryOwed = none ∧ (s.node n).haltOwed = false)
    (h3 : ¬ (s.commissions = true ∧ s.work n = .moveOwed)) : s.tickNode n = s := by
  unfold State.tickNode
  rw [State.dueAtPoll_idle h1 h2.2 h2.1 h3, ite_self]

theorem WorkKept.tickNode (s : State) (n : NodeId) : WorkKept s (s.tickNode n) := by
  unfold State.tickNode
  split
  · exact WorkKept.dueAtPoll s n
  · exact WorkKept.refl s

theorem WorkKept.ticked (l : List NodeId) : ∀ s, WorkKept s (l.foldl State.tickNode s) := by
  induction l with
  | nil => exact WorkKept.refl
  | cons n l ih => exact fun s => (WorkKept.tickNode s n).trans (ih _)

/-- R125: the poll tick restarts. -/
def State.reticked (s : State) : State :=
  { s with nodes := { s.nodes with pollTick := some (s.now + s.nodes.tuning.pollInterval * Config.ms) } }

theorem State.pollTickExpiry_eq (s : State) : s.pollTickExpiry = (s.reticked.eachNode State.tickNode).opFollow := rfl

theorem State.ticked_nodeSide {u : State} (h : u.op.state = .commissioning → ∀ m, u.work m ≠ .moveDone) :
    NodeSide u (u.eachNode State.tickNode).opFollow := by
  have side : NodeSide u (u.eachNode State.tickNode) := NodeSide.foldl _ NodeSide.tickNode allNodes u
  have kept : WorkKept u (u.eachNode State.tickNode) := WorkKept.ticked allNodes u
  rwa [State.opFollow_followed fun hc m hw => absurd (kept m hw) (h (by rw [side.op] at hc; exact hc) m)]

/-- R125: with nothing due the tick changes nothing. -/
theorem State.ticked_idle {u : State} (ho : ∀ m, (u.node m).retryOwed = none ∧ (u.node m).haltOwed = false)
    (hs : ∀ m, u.stopWatched m = false) (hm : u.commissions = true → (∀ m, u.work m ≠ .moveOwed) ∧ u.followed) :
    (u.eachNode State.tickNode).opFollow = u := by
  have walk : u.eachNode State.tickNode = u :=
    foldl_fixed allNodes fun m _ => State.tickNode_idle (hs m) (ho m) fun hc => (hm hc.1).1 m hc.2
  rw [walk]
  by_cases hc : u.commissions = true
  · exact State.opFollow_followed (hm hc).2
  · unfold State.opFollow
    rw [if_neg hc]

/-! ### In STOPPING: the nodes whose stop is watched (R90, R106) -/

/-- The node's stop is watched at the tick. -/
def State.tickWatched (s : State) (n : NodeId) : Bool := s.stopWatched n && decide ((s.node n).pollTimer = none)

theorem State.tickWatched_two (s : State) : (allNodes.filter s.tickWatched).length ≤ 2 := by
  have sub : allNodes.filter s.tickWatched ⊆ s.plant.defn.compressor.toList ++ s.plant.defn.auxHeater.toList := by
    intro m hm
    have := (List.mem_filter.1 hm).2
    simp only [State.tickWatched, State.stopWatched, Bool.and_eq_true, Bool.or_eq_true, decide_eq_true_eq] at this
    rw [List.mem_append, Option.mem_toList, Option.mem_toList]
    exact this.1.2.imp And.left And.left
  have len := (List.subperm_of_subset (allNodes_nodup.filter _) sub).length_le
  have one : ∀ o : Option NodeId, o.toList.length ≤ 1 := fun o => by cases o <;> simp
  rw [List.length_append] at len
  have := one s.plant.defn.compressor
  have := one s.plant.defn.auxHeater
  omega

section
variable {u : State} (hs : u.op.state = .stopping)
  (ho : ∀ m, (u.node m).retryOwed = none ∧ (u.node m).haltOwed = false)
include hs ho

/-- R125: the tick in STOPPING, with nothing owed. -/
theorem State.tickNode_stopping {a : State} (ha : OnlyQueue u a) (m : NodeId)
    (room : u.tickWatched m = true → a.nodes.queue.length < Config.queueMax) :
    a.tickNode m = if u.tickWatched m then a.askStatus m .shutdown else a := by
  have idle : ∀ b : State, OnlyQueue u b → ((b.owedHalt m).owedRetry m).owedMove m = b := fun b hb => by
    have halt : b.owedHalt m = b := if_neg (by rw [hb.node, (ho m).2]; simp)
    have retry : b.owedRetry m = b := by simp only [State.owedRetry, hb.node, (ho m).1]
    have move : b.owedMove m = b := if_neg (by
      rw [hb.commissions, State.commissions_outside (by rw [hs]; simp)]
      simp)
    rw [halt, retry, move]
  have status : u.tickWatched m = true → OnlyQueue u (a.askStatus m .shutdown) := fun hw => by
    unfold State.askStatus
    split
    · exact ha.trans (State.request_kept rfl (.inr (.inr (room hw))) (.inl rfl))
    · exact ha.trans (State.request_kept rfl (.inr (.inr (room hw))) (.inl rfl))
    all_goals exact ha
  unfold State.tickNode State.dueAtPoll
  dsimp only
  rw [ha.node, ha.stopWatched]
  by_cases hp : (u.node m).pollTimer = none
  · cases hw : u.stopWatched m
    · simp [State.tickWatched, hw, hp, idle a ha]
    · simp [State.tickWatched, hw, hp, idle _ (status (by simp [State.tickWatched, hw, hp]))]
  · simp [State.tickWatched, hp]

/-- A STATUS asked for SHUTDOWN. -/
def shutdownMark (n : NodeId) : Mark := fun m c _ _ os => m = some n ∧ c = .status ∧ Origin.shutdown ∈ os

omit hs ho in
/-- A watched node that is READY or BUSY is asked its STATUS, which takes nothing of what has been asked. -/
theorem State.askStatus_shutdown {a : State} (n m : NodeId) (room : a.nodes.queue.length < Config.queueMax) :
    OnlyQueue a (a.askStatus m .shutdown) ∧
    (a.askStatus m .shutdown).nodes.queue.length ≤ a.nodes.queue.length + 1 ∧
    (a.stands (shutdownMark n) → (a.askStatus m .shutdown).stands (shutdownMark n)) ∧
    (n = m → (a.node n).state = .ready → (a.askStatus m .shutdown).stands (shutdownMark n)) := by
  have asks : OnlyQueue a (a.request ⟨some m, .status, 0, false, .shutdown, []⟩) ∧
      (a.request ⟨some m, .status, 0, false, .shutdown, []⟩).nodes.queue.length ≤ a.nodes.queue.length + 1 ∧
      (a.stands (shutdownMark n) → (a.request ⟨some m, .status, 0, false, .shutdown, []⟩).stands (shutdownMark n)) :=
    ⟨State.request_kept rfl (.inr (.inr room)) (.inl rfl), a.request_length _ room, fun h =>
      h.request (fun _ _ os h => ⟨rfl, by simp, h.1, h.2.1, List.mem_append_left _ h.2.2⟩) room⟩
  have stands : n = m → (a.request ⟨some m, .status, 0, false, .shutdown, []⟩).stands (shutdownMark n) := by
    rintro rfl
    refine (State.request_stands (e := ⟨some n, .status, 0, false, .shutdown, []⟩) rfl (.inr (.inr room))).mono ?_
    rintro k c b o os ⟨hk, hc, _, hos⟩
    exact ⟨hk, hc, hos⟩
  have still : OnlyQueue a a ∧ a.nodes.queue.length ≤ a.nodes.queue.length + 1 ∧
      (a.stands (shutdownMark n) → a.stands (shutdownMark n)) := ⟨OnlyQueue.refl a, Nat.le_succ _, id⟩
  unfold State.askStatus
  cases hst : (a.node m).state
  case ready => exact ⟨asks.1, asks.2.1, asks.2.2, fun e _ => stands e⟩
  case busy => exact ⟨asks.1, asks.2.1, asks.2.2, fun e _ => stands e⟩
  all_goals
    refine ⟨still.1, still.2.1, still.2.2, ?_⟩
    rintro rfl hr
    rw [hst] at hr
    simp at hr

/-- The walk in STOPPING: a watched READY node is asked its STATUS, and what has been asked stands. -/
theorem State.ticked_stopping {n : NodeId} (hr : (u.node n).state = .ready) (l : List NodeId) :
    ∀ a, OnlyQueue u a → a.nodes.queue.length + (l.filter u.tickWatched).length ≤ 16 →
      (a.stands (shutdownMark n) ∨ (n ∈ l ∧ u.tickWatched n = true)) →
      OnlyQueue u (l.foldl State.tickNode a) ∧ (l.foldl State.tickNode a).stands (shutdownMark n) := by
  induction l with
  | nil => exact fun a ha _ h => ⟨ha, h.resolve_right fun hn => List.not_mem_nil hn.1⟩
  | cons m l ih =>
    intro a ha hlen h
    rw [List.foldl_cons]
    by_cases hw : u.tickWatched m = true
    · rw [List.filter_cons_of_pos hw, List.length_cons] at hlen
      have room : a.nodes.queue.length < Config.queueMax := by
        show _ < 16
        omega
      rw [State.tickNode_stopping hs ho ha m fun _ => room, if_pos hw]
      obtain ⟨kept, len, stays, asked⟩ := State.askStatus_shutdown n m room
      refine ih _ (ha.trans kept) (by omega) ?_
      rcases h with h | ⟨hn, hnw⟩
      · exact .inl (stays h)
      · rcases List.mem_cons.1 hn with e | hn
        · exact .inl (asked e (by rw [ha.node]; exact hr))
        · exact .inr ⟨hn, hnw⟩
    · rw [State.tickNode_stopping hs ho ha m fun h => absurd h hw, if_neg hw]
      rw [List.filter_cons_of_neg hw] at hlen
      refine ih a ha hlen (h.imp id fun ⟨hn, hnw⟩ => ⟨(List.mem_cons.1 hn).resolve_left ?_, hnw⟩)
      rintro rfl
      exact hw hnw

end

end Sys2Proof.Machine
end

section
/-! SETTLES O35. What the poll tick asks of one node (R125, R138, R147, R160), and the obligation. -/
namespace Sys2Proof.Machine

/-! ## One node with something owed -/

theorem State.tickNode_due {s : State} {n : NodeId} (hp : (s.node n).pollTimer = none) (hw : s.stopWatched n = false) :
    s.tickNode n = ((s.owedHalt n).owedRetry n).owedMove n := by
  unfold State.tickNode State.dueAtPoll
  simp only [hp, if_true, hw, Bool.false_eq_true, if_false]

theorem State.owedMove_none {s : State} (h : s.commissions = false) (n : NodeId) : s.owedMove n = s :=
  if_neg (by simp [h])

theorem State.owedHalt_none {s : State} {n : NodeId} (h : (s.node n).haltOwed = false) : s.owedHalt n = s :=
  if_neg (by simp [h])

theorem State.owedRetry_none {s : State} {n : NodeId} (h : (s.node n).retryOwed = none) : s.owedRetry n = s := by
  simp only [State.owedRetry, h]

/-- What one node's poll leaves of the other nodes and of what the part is in. -/
structure OneDue (n : NodeId) (u v : State) : Prop where
  others : ∀ m, m ≠ n → v.node m = u.node m
  op : v.op = u.op
  plant : v.plant = u.plant

theorem OneDue.of {n : NodeId} {u w v : State} {r : NodeRec} (hw : u.setNode n r = w) (h : OnlyQueue w v) :
    OneDue n u v ∧ v.node n = r := by
  subst hw
  exact ⟨⟨fun m hm => by rw [h.node, State.node_setNode, if_neg hm], h.op, h.plant⟩, by rw [h.node, State.node_setNode_same]⟩

/-- R125: outside COMMISSIONING and STOPPING, where one node alone has something owed, the tick is that node's. -/
theorem State.ticked_one {u v : State} {n : NodeId} (hs : u.op.state ∈ [PartState.config, .run, .stopped])
    (ho : ∀ m, m ≠ n → (u.node m).retryOwed = none ∧ (u.node m).haltOwed = false) (hv : u.tickNode n = v)
    (h : OneDue n u v) : (u.eachNode State.tickNode).opFollow = v := by
  have part : ∀ w : State, w.op = u.op → w.op.state ≠ .commissioning ∧ w.op.state ≠ .stopping := fun w hw => by
    rw [hw]
    simp only [List.mem_cons, List.not_mem_nil, or_false] at hs
    rcases hs with hs | hs | hs <;> simp [hs]
  have idle : ∀ w : State, w.op = u.op → (∀ m, m ≠ n → w.node m = u.node m) → ∀ m, m ≠ n → w.tickNode m = w :=
    fun w hw hn m hm => State.tickNode_idle (State.stopWatched_outside (part w hw).2 m) (by rw [hn m hm]; exact ho m hm)
      (by rw [State.commissions_outside (part w hw).1]; simp)
  have walk : u.eachNode State.tickNode = u.tickNode n :=
    State.eachNode_one (idle u rfl fun _ _ => rfl) (by rw [hv]; exact idle v h.op h.others)
  rw [walk, hv, State.opFollow_outside v (part v h.op).1]

section
variable {u : State} {n : NodeId} (hs : u.op.state ∈ [PartState.config, .run, .stopped])
  (hp : (u.node n).pollTimer = none)
include hs hp

theorem State.tickNode_settled : u.tickNode n = (u.owedHalt n).owedRetry n := by
  have part : u.op.state ≠ .commissioning ∧ u.op.state ≠ .stopping := by
    simp only [List.mem_cons, List.not_mem_nil, or_false] at hs
    rcases hs with hs | hs | hs <;> simp [hs]
  rw [State.tickNode_due hp (State.stopWatched_outside part.2 n)]
  refine State.owedMove_none (State.commissions_outside ?_) n
  rw [(NodeSide.owedRetry _ n).op, (NodeSide.owedHalt u n).op]
  exact part.1

variable (ho : ∀ m, m ≠ n → (u.node m).retryOwed = none ∧ (u.node m).haltOwed = false)
include ho

/-- R147: an owed retry of a node in FAULT is asked. -/
theorem State.ticked_retry (hh : (u.node n).haltOwed = false) (hf : (u.node n).state = .fault) :
    ((u.node n).retryOwed = some .check → u.takesIn n .status →
      (u.eachNode State.tickNode).opFollow.asked n .status ∧
      (u.eachNode State.tickNode).opFollow.node n =
        { u.node n with retryOwed := none, retryStep := some .status }) ∧
    ((u.node n).retryOwed = some .reset → u.takesIn n .nodeReset →
      (u.eachNode State.tickNode).opFollow.asked n .nodeReset ∧
      (u.eachNode State.tickNode).opFollow.node n =
        { u.node n with retryOwed := none, retryStep := some .reset }) := by
  have due := State.tickNode_settled hs hp
  rw [State.owedHalt_none hh] at due
  refine ⟨fun hr ht => ?_, fun hr ht => ?_⟩
  · have e : u.tickNode n =
        (u.setNode n { u.node n with retryOwed := none, retryStep := some .status }).askOwn n .status .retry := by
      rw [due]
      simp only [State.owedRetry, hr]
      exact if_pos hf
    obtain ⟨one, hn⟩ := OneDue.of (u := u) (n := n) rfl (State.request_kept
      (s := u.setNode n { u.node n with retryOwed := none, retryStep := some .status })
      (e := ⟨some n, .status, 0, false, .retry, []⟩) rfl ht (.inl rfl))
    rw [State.ticked_one hs ho e one]
    exact ⟨State.request_asked (e := ⟨some n, .status, 0, false, .retry, []⟩) rfl ht, hn⟩
  · have e : u.tickNode n =
        (u.setNode n { u.node n with retryOwed := none, retryStep := some .reset }).askOwn n .nodeReset .retry := by
      rw [due]
      simp only [State.owedRetry, hr]
      exact if_pos hf
    obtain ⟨one, hn⟩ := OneDue.of (u := u) (n := n) rfl (State.request_kept
      (s := u.setNode n { u.node n with retryOwed := none, retryStep := some .reset })
      (e := ⟨some n, .nodeReset, 0, false, .retry, []⟩) rfl ht (.inl rfl))
    rw [State.ticked_one hs ho e one]
    exact ⟨State.request_asked (e := ⟨some n, .nodeReset, 0, false, .retry, []⟩) rfl ht, hn⟩

/-- R138: an owed HALT is asked. -/
theorem State.ticked_halt (hh : (u.node n).haltOwed = true) (hr : (u.node n).retryOwed = none)
    (ht : u.takesIn n .halt) :
    (u.eachNode State.tickNode).opFollow.asked n .halt ∧
      (u.eachNode State.tickNode).opFollow.node n = { u.node n with haltOwed := false } := by
  generalize hw : u.setNode n { u.node n with haltOwed := false } = w
  have htw : w.takesIn n .halt := by
    rw [← hw]
    exact ht
  have kept : OnlyQueue w (w.askHalt n) :=
    State.request_kept (e := ⟨some n, .halt, 0, w.plantBound n, .poll, []⟩) rfl htw (.inr (by simp))
  obtain ⟨one, hn⟩ := OneDue.of hw kept
  have e : u.tickNode n = w.askHalt n := by
    have halt : u.owedHalt n = w.askHalt n := by
      rw [← hw]
      exact if_pos hh
    rw [State.tickNode_settled hs hp, halt]
    exact State.owedRetry_none (by rw [hn]; exact hr)
  rw [State.ticked_one hs ho e one]
  exact ⟨State.request_asked (e := ⟨some n, .halt, 0, w.plantBound n, .poll, []⟩) rfl htw, hn⟩

end

/-! ## In COMMISSIONING: an owed initial MOVE (R160) -/

theorem State.ticked_move {u : State} {n : NodeId}
    (ho : ∀ m, (u.node m).retryOwed = none ∧ (u.node m).haltOwed = false) (hc : u.op.state = .commissioning)
    (hsoft : u.op.soft = .none) (hp : (u.node n).pollTimer = none) (hr : (u.node n).state = .ready)
    (hcf : (u.node n).configured = true) (hd : u.op.done[n] = false) (hw : u.work n = .moveOwed)
    (hm : ∀ m, m ≠ n → u.work m ≠ .moveOwed) (ht : u.takesIn n .move) :
    (u.eachNode State.tickNode).opFollow.op.state = .commissioning ∧
    (u.eachNode State.tickNode).opFollow.work n = .moveAsked ∧
    (u.eachNode State.tickNode).opFollow.askedMoveBy n
      (if (u.node n).binding = some (.plant .intake) then u.plant.minFreshAir else 0) .commission := by
  have hcm : u.commissions = true := State.commissions_of hc hsoft
  have unwatched : ∀ m, u.stopWatched m = false := State.stopWatched_outside (by rw [hc]; simp)
  generalize hg : u.setWork n .moveAsked = w
  have htw : w.takesIn n .move := by
    rw [← hg]
    exact ht
  have kept : OnlyQueue w (w.request (w.moveEntry n (u.initialTarget n) .commission)) :=
    State.request_kept (n := n) rfl htw (.inr (by simp [State.moveEntry]))
  have stands := State.request_stands (s := w) (e := w.moveEntry n (u.initialTarget n) .commission) rfl htw
  generalize hv : w.request (w.moveEntry n (u.initialTarget n) .commission) = v at kept stands
  have due : u.tickNode n = v := by
    rw [State.tickNode_due hp (unwatched n), State.owedHalt_none (ho n).2, State.owedRetry_none (ho n).1, ← hv, ← hg]
    unfold State.owedMove
    rw [if_pos ⟨hcm, hw⟩]
    exact State.askMove_queued (s := u.setWork n .moveAsked) (by
      show (u.node n).state ∈ _
      rw [hr]
      simp) _ _
  have vwork : ∀ m, v.work m = if m = n then .moveAsked else u.work m := fun m => by
    rw [kept.work, ← hg, State.work_setWork]
  have vnode : ∀ m, v.node m = u.node m := fun m => by
    rw [kept.node, ← hg]
    rfl
  have vop : v.op = w.op := kept.op
  have walk : u.eachNode State.tickNode = v := by
    rw [← due]
    refine State.eachNode_one (fun m hmn => ?_) fun m hmn => ?_
    · exact State.tickNode_idle (unwatched m) (ho m) fun h => hm m hmn h.2
    · rw [due]
      refine State.tickNode_idle (State.stopWatched_outside ?_ m) (by rw [vnode]; exact ho m) fun h => hm m hmn ?_
      · rw [vop, ← hg]
        show u.op.state ≠ _
        rw [hc]
        simp
      · have := h.2
        rwa [vwork, if_neg hmn] at this
  have unfinished : v.unfinished := .inr ⟨n, by rw [vnode]; exact hcf, by rw [vop, ← hg]; exact hd, by
    rw [vwork, if_pos rfl]
    simp⟩
  obtain ⟨o, e, marks, _⟩ := State.opFollow_marks unfinished
  have hwn : v.work n = .moveAsked := by rw [vwork, if_pos rfl]
  rw [walk, e]
  refine ⟨marks.state.trans ?_, ((marks.kept n (by rw [hwn]; simp)).2).trans hwn, ?_⟩
  · rw [vop, ← hg]
    exact hc
  · refine (State.stands.mono stands ?_).askedMoveBy
    rintro m c a p os ⟨h1, h2, h3, _⟩
    exact ⟨h1, h2, h3 rfl⟩

/-! ## The obligation -/

/-- R125: with nothing owed, the tick by the part's state. -/
theorem State.ticked_rows {u : State} (n : NodeId)
    (ho : ∀ m, (u.node m).retryOwed = none ∧ (u.node m).haltOwed = false) :
    (u.op.state = .commissioning → (∀ m, u.work m ≠ .moveOwed) → u.followed →
      (u.eachNode State.tickNode).opFollow = u) ∧
    (u.op.state = .commissioning → u.op.soft ≠ .none → (u.eachNode State.tickNode).opFollow = u) ∧
    (u.op.state = .stopping → u.plant.seq.state ≠ .disengaging → u.plant.heater.state ≠ .stopping →
      (u.eachNode State.tickNode).opFollow = u) ∧
    (u.op.state ∈ [PartState.config, .run, .stopped] → (u.eachNode State.tickNode).opFollow = u) ∧
    (u.op.state = .stopping → (u.node n).pollTimer = none → (u.node n).state = .ready →
      ((u.plant.defn.compressor = some n ∧ u.plant.seq.state = .disengaging) ∨
        (u.plant.defn.auxHeater = some n ∧ u.plant.heater.state = .stopping)) →
      u.nodes.queue.length < 15 → (u.eachNode State.tickNode).opFollow.askedBy n .status .shutdown) := by
  have outside : u.op.state ≠ .stopping → ∀ m, u.stopWatched m = false := fun h => State.stopWatched_outside h
  have still : u.op.state ≠ .commissioning → u.commissions = true → (∀ m, u.work m ≠ .moveOwed) ∧ u.followed :=
    fun h hc => absurd hc (by rw [State.commissions_outside h]; simp)
  refine ⟨fun hc hw hf => ?_, fun hc hsoft => ?_, fun hs hq hh => ?_, fun hs => ?_, fun hs hp hr hwatch hl => ?_⟩
  · exact State.ticked_idle ho (outside (by rw [hc]; simp)) fun _ => ⟨hw, hf⟩
  · exact State.ticked_idle ho (outside (by rw [hc]; simp)) fun h => by
      rw [State.commissions_ended hsoft] at h
      simp at h
  · exact State.ticked_idle ho (fun m => by simp [State.stopWatched, hq, hh]) (still (by rw [hs]; simp))
  · have part : u.op.state ≠ .commissioning ∧ u.op.state ≠ .stopping := by
      simp only [List.mem_cons, List.not_mem_nil, or_false] at hs
      rcases hs with hs | hs | hs <;> simp [hs]
    exact State.ticked_idle ho (outside part.2) (still part.1)
  · have watched : u.tickWatched n = true := by
      simp only [State.tickWatched, State.stopWatched, hs, hp, decide_true, Bool.true_and, Bool.and_true, Bool.or_eq_true,
        Bool.and_eq_true, decide_eq_true_eq]
      exact hwatch
    have two := u.tickWatched_two
    obtain ⟨kept, stands⟩ := State.ticked_stopping hs ho hr allNodes u (OnlyQueue.refl u) (by omega)
      (.inr ⟨mem_allNodes n, watched⟩)
    have walk : OnlyQueue u (u.eachNode State.tickNode) := kept
    rw [State.opFollow_outside (u.eachNode State.tickNode) (by rw [walk.op, hs]; simp)]
    exact stands.askedBy

/-- R142, R125: what is asked at the expiry of a node's own poll timer. -/
theorem State.polled_rows {s w : State} {n : NodeId} {d : Time}
    (hw : State.setNode { s with now := max s.now d } n
      { s.node n with pollTimer := some (max s.now d + s.nodes.tuning.pollInterval * Config.ms) } = w)
    (hroom : s.op.state = .commissioning → s.followed ∧ s.nodes.queue.length < 14) :
    NodeSide w ((s.reach d).nodePoll n) ∧
      ((s.node n).state = .busy → (s.node n).haltOwed = false → s.takesIn n .status →
        ((s.reach d).nodePoll n).asked n .status) ∧
      ((s.node n).state = .busy → (s.node n).haltOwed = true → s.nodes.queue.length < 15 →
        ((s.reach d).nodePoll n).asked n .status ∧ ((s.reach d).nodePoll n).asked n .halt) := by
  have e : (s.reach d).nodePoll n = ((w.askStatus n .poll).dueAtPoll n).opFollow := by
    rw [← hw]
    rfl
  have wn : w.node n =
      { s.node n with pollTimer := some (max s.now d + s.nodes.tuning.pollInterval * Config.ms) } := by
    rw [← hw, State.node_setNode_same]
  have wq : w.nodes.queue = s.nodes.queue := by rw [← hw]; rfl
  have hroom' : w.op.state = .commissioning → w.followed ∧ w.nodes.queue.length < 14 := fun hc => by
    have hs := hroom (by rw [← hw] at hc; exact hc)
    refine ⟨hs.1.of (by rw [← hw]; exact id) fun m hm => ?_, by rw [wq]; exact hs.2⟩
    have same : (w.node m).state = (s.node m).state ∧ (w.node m).pending = (s.node m).pending := by
      by_cases em : m = n
      · subst em
        rw [wn]
        exact ⟨rfl, rfl⟩
      · rw [← hw, State.node_setNode, if_neg em]
        exact ⟨rfl, rfl⟩
    refine ⟨by rw [← hw] at hm; exact hm, same.1, by rw [same.2]; exact id, fun ha => ?_⟩
    rw [← hw]
    exact ha
  have takes : s.takesIn n .status → w.takesIn n .status := fun ht => by
    rw [← hw]
    exact ht
  rw [e, State.polled_unfollowed n hroom']
  refine ⟨(NodeSide.askStatus w n .poll).trans (NodeSide.dueAtPoll _ n), fun hb ho ht => ?_, fun hb ho hl => ?_⟩
  · exact (State.polled_busy (by rw [wn]; exact hb) (takes ht)).1 (by rw [wn]; exact ho)
  · exact (State.polled_busy (by rw [wn]; exact hb) (takes (.inr (.inr (Nat.lt_succ_of_lt hl))))).2
      (by rw [wn]; exact ho) (by rw [wq]; exact hl)

/-- Settles O35, timer by timer: the nodes' own requests, the poll and the tick, and the travel timeout. -/
theorem nodeTimersExpire : Obligations.NodeTimersExpire := by
  intro s n hh
  have wake : exec (.wakeTimerExpiry n.address) s = .next (s.expire (s.node n).wakeTimer (·.wakeExpiry n)) :=
    State.nodeEvent_free n _ hh
  have poll : exec (.nodePollTimerExpiry n.address) s = .next (s.expire (s.node n).pollTimer (·.nodePoll n)) :=
    State.nodeEvent_free n _ hh
  have travel : exec (.travelTimerExpiry n.address) s = .next (s.expire (s.node n).travelTimer (·.travelExpiry n)) :=
    State.nodeEvent_free n _ hh
  have revival : exec (.revivalTimerExpiry n.address) s =
      .next (s.expire (s.node n).revivalTimer (·.revivalExpiry n)) := State.nodeEvent_free n _ hh
  have tick : exec .pollTickExpiry s = .next (s.expire s.nodes.pollTick State.pollTickExpiry) :=
    State.answer_free (fun t => t.expire t.nodes.pollTick State.pollTickExpiry) hh
  refine ⟨fun h => by rw [wake, h]; rfl, fun h => by rw [poll, h]; rfl, fun h => by rw [revival, h]; rfl,
    fun h => by rw [tick, h]; rfl, fun d u c hd hu hc => ?_, fun d hd => ?_, fun d hd => ?_, fun d u hd hu => ?_,
    fun h => by rw [travel, h]; rfl, fun d hd hb => ?_⟩
  · have hc' : c = (s.node n).startStep.command := by
      rw [hc]
      cases (s.node n).startStep <;> rfl
    have e := (s.reach d).wakeExpiry_eq n
    have hu' : (s.reach d).rewoken n = u := hu.symm
    refine ⟨(s.reach d).wakeExpiry n, by rw [wake, hd]; rfl, fun ha => ?_, fun ha => ⟨?_, fun room => ?_⟩⟩
    · rw [hc'] at ha
      exact (e.trans (if_pos ha)).trans hu'
    · rw [hc'] at ha
      rw [e.trans (if_neg ha), hu']
      exact NodeSide.askStart u n
    · rw [hc'] at ha ⊢
      rw [e.trans (if_neg ha)]
      exact State.askStart_rewoken (s := s.reach d) room
  · refine ⟨(s.reach d).nodePoll n, by rw [poll, hd]; rfl, fun hroom => ?_⟩
    generalize hw : State.setNode { s with now := max s.now d } n
      { s.node n with pollTimer := some (max s.now d + s.nodes.tuning.pollInterval * Config.ms) } = w
    exact State.polled_rows (d := d) hw hroom
  · refine ⟨(s.reach d).revivalExpiry n, by rw [revival, hd]; rfl, NodeSide.askOwn _ n _ _, fun ht => ?_⟩
    exact State.request_asked (e := ⟨some n, .wake, 0, false, .wake, []⟩) rfl ht
  · refine ⟨(s.reach d).pollTickExpiry, by rw [tick, hd]; rfl, fun hw => ?_, fun ho => ?_, fun hs hp ho => ?_⟩
    · subst hu
      exact State.ticked_nodeSide hw
    · have rows := State.ticked_rows (u := u) n (by rw [hu]; exact ho)
      have e : (s.reach d).pollTickExpiry = (u.eachNode State.tickNode).opFollow := by
        rw [hu]
        rfl
      rw [e]
      obtain ⟨idle, ended, stopping, settled, watched⟩ := rows
      refine ⟨fun hc hm hf => idle (by rw [hu]; exact hc) (by rw [hu]; exact hm) (by rw [hu]; exact hf),
        fun hc hsoft => ended (by rw [hu]; exact hc) (by rw [hu]; exact hsoft),
        fun hst hq hhe => stopping (by rw [hu]; exact hst) (by rw [hu]; exact hq) (by rw [hu]; exact hhe),
        fun hst => settled (by rw [hu]; exact hst),
        fun hst hp hr hwatch hl => watched (by rw [hu]; exact hst) (by rw [hu]; exact hp) (by rw [hu]; exact hr)
          (by rw [hu]; exact hwatch) (by rw [hu]; exact hl),
        fun hc hsoft hp hr hcf hdn hwk hm ht => ?_⟩
      subst hu
      exact State.ticked_move (n := n) ho hc hsoft hp hr hcf hdn hwk hm ht
    · subst hu
      refine ⟨fun hho hf => ?_, fun hho hr ht => ?_⟩
      · exact State.ticked_retry (u := (s.reach d).reticked) hs hp ho hho hf
      · exact State.ticked_halt (u := (s.reach d).reticked) hs hp ho hho hr ht
  · have kept := State.travelExpiry_kept (s := s.reach d) (n := n) hb rfl
    obtain ⟨record, others, raised, outside⟩ := kept
    refine ⟨(s.reach d).travelExpiry n, by rw [travel, hd]; rfl, outside.now, record, others, raised,
      fun z role hbd hr hc => State.travelExpiry_flag (s := s.reach d) hb rfl hbd hr hc,
      fun hbd hc room => State.travelExpiry_halts (s := s.reach d) hb rfl hbd hc room,
      fun hbd hc full hn => State.travelExpiry_owes (s := s.reach d) hb rfl hbd hc full hn,
      outside.port, outside.held, outside.shedLine, outside.key, outside.pending⟩

end Sys2Proof.Machine
end

section
/-! SUPPORT for O2. No event loses a command that waits or takes the clock back: the zone controller, and the node manager's
changes of a node's state. -/
namespace Sys2Proof.Machine

/-- The commands waiting as before, and the clock not taken back. -/
def Later (s t : State) : Prop := t.pending = s.pending ∧ s.now ≤ t.now

theorem Later.refl (s : State) : Later s s := ⟨rfl, le_rfl⟩

theorem Later.trans {s t u : State} (a : Later s t) (b : Later t u) : Later s u := ⟨b.1.trans a.1, a.2.trans b.2⟩

theorem Ambient.later {s t : State} (h : Ambient s t) : Later s t := ⟨h.pending, h.now.ge⟩
theorem NodeSide.later {s t : State} (h : NodeSide s t) : Later s t := (Ambient.ofNode h).later
theorem ZoneSide.later {s t : State} (h : ZoneSide s t) : Later s t := (Ambient.ofZone h).later
theorem ShareSide.later {s t : State} (h : ShareSide s t) : Later s t :=
  (Ambient.ofZone (ZoneSide.ofDemand (DemandSide.ofShare h))).later
theorem PlantSide.later {s t : State} (h : PlantSide s t) : Later s t := (ShareSide.ofPlant h).later

/-- All that the zones, the arbiter, the plant, the operating-state controller and the condition block do among themselves. -/
theorem Later.carried : Carried Later where
  refl := Later.refl
  trans := Later.trans
  write s z a p o c := (Ambient.write s z a p s.nodes s.line o c).later
  move s n a o _ := (NodeSide.askMove s n a o).later
  revive s n := (Ambient.startRevival s n).later

theorem Later.ite {c : Prop} [Decidable c] {s t u : State} (a : Later s t) (b : Later s u) :
    Later s (if c then t else u) := by
  split
  · exact a
  · exact b

theorem Later.foldl {α : Type} (f : State → α → State) (h : ∀ s a, Later s (f s a)) (l : List α) (s : State) :
    Later s (l.foldl f s) := Later.carried.foldl f h l s

theorem Later.eachZone {f : State → Zone → State} (h : ∀ s z, Later s (f s z)) (s : State) : Later s (s.eachZone f) :=
  Later.foldl f h allZones s

theorem Later.eachNode {f : State → NodeId → State} (h : ∀ s n, Later s (f s n)) (s : State) : Later s (s.eachNode f) :=
  Later.foldl f h allNodes s

theorem Later.modNode (s : State) (n : NodeId) (f : NodeRec → NodeRec) : Later s (s.modNode n f) := ⟨rfl, le_rfl⟩
theorem Later.modZone (s : State) (z : Zone) (f : ZoneRec → ZoneRec) : Later s (s.modZone z f) := ⟨rfl, le_rfl⟩
theorem Later.setLine (s : State) (l : Line) : Later s (s.setLine l) := ⟨rfl, le_rfl⟩
theorem Later.setOp (s : State) (o : OpControl) : Later s (s.setOp o) := ⟨rfl, le_rfl⟩
theorem Later.setWork (s : State) (n : NodeId) (w : CommWork) : Later s (s.setWork n w) := ⟨rfl, le_rfl⟩
theorem Later.setPort (s : State) (p : Port) : Later s (s.setPort p) := ⟨rfl, le_rfl⟩
theorem Later.raise (s : State) (c : StickyCond) (i : Option Nat) : Later s (s.raise c i) := (ZoneSide.raise s c i).later
theorem Later.evaluate (s : State) (z : Zone) : Later s (s.evaluate z) := Later.carried.evaluate s z
theorem Later.request (s : State) (e : Entry) : Later s (s.request e) := (NodeSide.request s e).later

/-! ## Zones (chapters 1 and 2) -/

theorem Later.changeStack (s : State) (z : Zone) (f : ZoneRec → ZoneRec) : Later s (s.changeStack z f) :=
  (Later.modZone s z f).trans (PlantSide.modeNotice _ _ _).later

theorem Later.changeMode (s : State) (z : Zone) (f : ZoneRec → ZoneRec) : Later s (s.changeMode z f) :=
  .ite (.changeStack s z f) ((Later.changeStack s z f).trans (.evaluate _ z))

theorem Later.startOverride (s : State) (z : Zone) (k : EntryKind) (c : Option PurgeCause) :
    Later s (s.startOverride z k c) := .ite (.refl s) (.changeMode s z _)

theorem Later.endOverride (s : State) (z : Zone) (k : EntryKind) : Later s (s.endOverride z k) :=
  .ite (.changeMode s z _) (.refl s)

theorem Later.changeSetpoint (s : State) (z : Zone) (f : ZoneRec → ZoneRec) : Later s (s.changeSetpoint z f) :=
  .ite (.modZone s z f) ((Later.modZone s z f).trans (.evaluate _ z))

theorem Later.changePlan (s : State) (z : Zone) (m : BaseMode) (f : ZoneRec → ZoneRec) : Later s (s.changePlan z m f) :=
  .ite ((ZoneSide.setZone s z _).later.trans (.evaluate _ z)) (ZoneSide.setZone s z _).later

theorem Later.readFailed (s : State) (z : Zone) : Later s (s.readFailed z) :=
  .ite (ZoneSide.failedRead s z).later (.refl s)

theorem Later.readGood (s : State) (z : Zone) (t : Int) (c : Nat) : Later s (s.readGood z t c) :=
  .ite (ZoneSide.takeReading s z t c).later (.refl s)

theorem Later.loopExpiry (s : State) (z : Zone) : Later s (s.loopExpiry z) := by
  refine (Later.modZone s z fun r => { r with loopTimer := some (s.now + r.loopPeriod * Config.second) }).trans ?_
  unfold State.loopExpiry
  dsimp only
  split
  · exact (ZoneSide.failedRead _ z).later
  · exact .ite (.ite (.refl _) (NodeSide.askRead _ _ _).later) (ZoneSide.failedRead _ z).later

theorem Later.doorOpened (s : State) (d : Door) (z : Zone) : Later s (s.doorOpened d z) := by
  have marked := (ZoneSide.setZone s z { s.zone z with openDoors := (s.zone z).openDoors ||| BitVec.twoPow 4 d.val }).later
  exact .ite (.refl s) (.ite (.ite marked (marked.trans (.changeMode _ z _))) marked)

theorem Later.doorClosed (s : State) (d : Door) (z : Zone) : Later s (s.doorClosed d z) := by
  have marked := (ZoneSide.setZone s z
    { s.zone z with openDoors := (s.zone z).openDoors &&& ~~~ BitVec.twoPow 4 d.val }).later
  exact .ite (.ite (marked.trans ((Later.endOverride _ z _).trans (.modZone _ z _))) marked) (.refl s)

theorem Later.curtainExpiry (s : State) (z : Zone) : Later s (s.curtainExpiry z) :=
  ((Later.endOverride s z _).trans (.modZone _ z _)).trans (.raise _ _ _)

/-! ## The changes of a node's state (R144 to R149, R132) -/

theorem Later.dropEntries (s : State) (n : NodeId) (p : Command → Bool) : Later s (s.dropEntries n p) :=
  (NodeSide.dropEntries s n p).later

theorem Later.offlineRecord (s : State) (n : NodeId) : Later s (s.offlineRecord n) :=
  (Later.modNode s n _).trans (.dropEntries _ n _)

theorem Later.faultRecord (s : State) (n : NodeId) (why : FaultReason) : Later s (s.faultRecord n why) :=
  ((Later.modNode s n _).trans (.dropEntries _ n _)).trans (.ite (NodeSide.askHalt _ n).later (.refl _))

theorem Later.enterFault (s : State) (n : NodeId) (why : FaultReason) : Later s (s.enterFault n why) :=
  (Later.faultRecord s n why).trans (Later.carried.faultNotices _ n)

theorem Later.unexpectedValue (s : State) (n : NodeId) : Later s (s.unexpectedValue n) :=
  .ite (.refl s) (.enterFault s n _)

theorem Later.startingRecord (s : State) (n : NodeId) (c : StartCause) (w : Nat) (q : StartStep) :
    Later s (s.startingRecord n c w q) := (Later.modNode s n _).trans (.dropEntries _ n _)

theorem Later.startUp (s : State) (n : NodeId) (c : StartCause) : Later s (s.startUp n c) :=
  (Later.startingRecord s n c _ _).trans (NodeSide.askStart _ n).later

theorem Later.revive (s : State) (n : NodeId) (b : Bool) : Later s (s.revive n b) :=
  .ite (.startingRecord s n _ _ _) ((Later.startingRecord s n _ _ _).trans (NodeSide.askStart _ n).later)

theorem Later.startFailed (s : State) (n : NodeId) (b : Bool) : Later s (s.startFailed n b) :=
  (Later.modNode s n _).trans
    (.ite ((Later.offlineRecord _ n).trans (Later.carried.offlineNotices _ n)) (.refl _))

theorem Later.pendQueued (s : State) (n : NodeId) : Later s (s.pendQueued n) := by
  unfold State.pendQueued
  split
  · exact .refl s
  · exact (Later.dropEntries s n _).trans (.modNode _ n _)

theorem Later.enterBusy (s : State) (n : NodeId) (b : Bool) : Later s (s.enterBusy n b) :=
  (Later.modNode s n _).trans (.pendQueued _ n)

end Sys2Proof.Machine
end

section
/-! SUPPORT for O2, continued: the plant controller's reports, and what the node manager makes of an outcome. -/
namespace Sys2Proof.Machine

/-! ## The plant controller on a node's reports (chapters 4 and 5) -/

theorem Later.askMove (s : State) (n : NodeId) (a : Nat) (o : Origin) : Later s (s.askMove n a o) :=
  (NodeSide.askMove s n a o).later
theorem Later.enterSeq (s : State) (q : Seq) : Later s (s.enterSeq q) := (PlantSide.enterSeq s q).later
theorem Later.enterHeater (s : State) (q : HeaterState) : Later s (s.enterHeater q) := (PlantSide.enterHeater s q).later
theorem Later.heaterStart (s : State) : Later s s.heaterStart := (PlantSide.heaterStart s).later
theorem Later.flameOut (s : State) : Later s s.flameOut := (ShareSide.flameOut s).later
theorem Later.restReport (s : State) : Later s s.restReport := Later.carried.restReport s
theorem Later.refreshCool (s : State) : Later s s.refreshCool := (ShareSide.refreshCool s).later
theorem Later.refreshHeat (s : State) : Later s s.refreshHeat := (ShareSide.refreshHeat s).later
theorem Later.seqDecide (s : State) : Later s s.seqDecide := (ShareSide.seqDecide s).later

theorem Later.leaveFault (s : State) (n : NodeId) : Later s (s.leaveFault n) :=
  .ite (((Later.askMove s n _ _).trans (.enterSeq _ _)).trans (.refreshCool _))
    ((Later.enterSeq s _).trans (.refreshCool _))

theorem Later.watchReport (s : State) (n : NodeId) : Later s (s.watchReport n) :=
  .ite (.ite (.enterSeq s _) (.ite (.unexpectedValue s n) (.refl s))) (.refl s)

theorem Later.seqReport (s : State) (n : NodeId) : Later s (s.seqReport n) := by
  refine .ite ?_ (.refl s)
  split
  · exact .ite ((ShareSide.completeStep s).later.trans (.restReport _)) (.ite (.refl s) (.unexpectedValue s n))
  · exact .refl s

theorem Later.seqStopAgain (s : State) (n : NodeId) : Later s (s.seqStopAgain n) := .ite (.askMove s n _ _) (.refl s)

theorem Later.compressorNodeReady (s : State) (n : NodeId) (q : NodeState) (c : Option StartCause) :
    Later s (s.compressorNodeReady n q c) :=
  .ite (.ite (.leaveFault s n) (.refl s))
    (((Later.seqReport s n).trans (.watchReport _ n)).trans
      ((Later.ite (.seqStopAgain _ n) (.refl _)).trans (.seqDecide _)))

theorem Later.seqSteadyCheck (s : State) (n : NodeId) (b : Bool) (v : Nat) : Later s (s.seqSteadyCheck n b v) := by
  unfold State.seqSteadyCheck
  split
  · exact .ite (.unexpectedValue s n) (.refl s)
  · exact .refl s

theorem Later.heaterStopReport (s : State) (n : NodeId) (o : Origin) : Later s (s.heaterStopReport n o) :=
  .ite (.ite (((Later.enterHeater s _).trans (.heaterStart _)).trans (.restReport _))
    (.ite (.askMove s n _ _) (.refl s))) (.refl s)

theorem Later.ignitionReport (s : State) (n : NodeId) : Later s (s.ignitionReport n) :=
  .ite (.enterHeater s _)
    (.ite
      (.ite (.ite ((Later.enterHeater s _).trans (.heaterStopReport _ n _)) (ShareSide.heaterLit s).later)
        (.ite (.enterHeater s _) (PlantSide.heaterFailure s).later))
      (.refl s))

theorem Later.flameCheck (s : State) (b : Bool) (v : Nat) : Later s (s.flameCheck b v) := .ite (.flameOut s) (.refl s)

theorem Later.heaterReport (s : State) (n : NodeId) : Later s (s.heaterReport n) := by
  unfold State.heaterReport
  split
  case h_1 => exact .ignitionReport s n
  case h_2 => exact .heaterStopReport s n _
  all_goals exact .refl s

theorem Later.auxNodeReady (s : State) (n : NodeId) (q : NodeState) (c : Option StartCause) :
    Later s (s.auxNodeReady n q c) := by
  unfold State.auxNodeReady
  split
  · exact (Later.ignitionReport s n).trans (.heaterStart _)
  · exact .heaterStopReport s n _
  · exact .ite (.flameOut s) (.refl s)
  · exact .ite ((Later.askMove s n _ _).trans (.enterHeater _ _)) (.heaterStart s)
  all_goals exact .ite (.askMove s n _ _) (.refl s)

theorem Later.plantNodeReady (s : State) (n : NodeId) (role : PlantRole) (q : NodeState) (c : Option StartCause) :
    Later s (s.plantNodeReady n role q c) := by
  cases role with
  | compressor => exact .compressorNodeReady s n q c
  | auxHeater => exact .auxNodeReady s n q c
  | intake => exact (NodeSide.intakeNodeReady s n).later

theorem Later.zoneNodeReady (s : State) (z : Zone) (role : ZoneRole) (q : NodeState) (c : Option StartCause) :
    Later s (s.zoneNodeReady z role q c) :=
  .ite (.refl s) (.ite (.evaluate s z) (.ite (Later.carried.zoneTargets s z) (.refl s)))

theorem Later.readyNotice (s : State) (n : NodeId) (q : NodeState) (c : Option StartCause) :
    Later s (s.readyNotice n q c) := by
  unfold State.readyNotice
  split
  · exact .refl s
  · exact .zoneNodeReady s _ _ q c
  · exact .plantNodeReady s n _ q c

theorem Later.plantMoved (s : State) (n : NodeId) (role : PlantRole) (t : Txn) (res : MoveResult) :
    Later s (s.plantMoved n role t res) := by
  cases role with
  | compressor =>
    have watched (b : Bool) :
        Later s (if b then s.setSequencer { s.plant.seq with watch := true } else s) :=
      .ite (PlantSide.setSequencer s _).later (.refl s)
    exact ((watched _).trans (.seqReport _ n)).trans (.ite (.watchReport _ n) (.refl _))
  | auxHeater => exact .ite (.enterHeater s _) (.ite (.enterHeater s _) (.heaterReport s n))
  | intake => exact .refl s

theorem Later.plantStatus (s : State) (n : NodeId) (role : PlantRole) (t : Txn) (b : Bool) (v : Nat) :
    Later s (s.plantStatus n role t b v) := by
  cases role with
  | compressor =>
    exact (Later.ite (.seqSteadyCheck s n b v) (.refl s)).trans
      (.ite ((Later.seqReport _ n).trans (.seqStopAgain _ n)) (.refl _))
  | auxHeater => exact (Later.ite (.flameCheck s b v) (.refl s)).trans (.ite (.heaterStopReport _ n _) (.refl _))
  | intake => exact .refl s

/-! ## Commissioning a node, and the reports of an outcome -/

theorem Later.initialMove (s : State) (n : NodeId) : Later s (s.initialMove n) := (NodeSide.initialMove s n).later
theorem Later.markDone (s : State) (n : NodeId) : Later s (s.markDone n) := Later.carried.markDone s n
theorem Later.opFollow (s : State) : Later s s.opFollow := Later.carried.opFollow s

theorem Later.opNodeCheck (s : State) (n : NodeId) : Later s (s.opNodeCheck n) := by
  refine .ite ?_ (.refl s)
  split
  · exact (Later.setWork s n _).trans (.startUp _ n _)
  · exact .ite (.markDone s n) (.initialMove s n)
  all_goals exact .refl s

theorem Later.opMoved (s : State) (n : NodeId) (res : MoveResult) : Later s (s.opMoved n res) :=
  .ite (.ite (.ite (.initialMove s n) (.refl s)) (.setWork s n _)) (.refl s)

theorem Later.reportFailure (s : State) (t : Txn) : Later s (s.reportFailure t) := by
  refine .ite (.foldl _ (fun u o => ?_) _ s) (.refl s)
  split
  · exact .readFailed u _
  · exact .refl u

theorem Later.reportReading (s : State) (t : Txn) (temp : Int) (c : Nat) : Later s (s.reportReading t temp c) := by
  refine .foldl _ (fun u o => ?_) _ s
  split
  · exact .readGood u _ _ _
  · exact .refl u

theorem Later.reportMove (s : State) (t : Txn) (n : NodeId) (res : MoveResult) : Later s (s.reportMove t n res) := by
  unfold State.reportMove
  split
  · exact (Later.plantMoved s n _ t res).trans (.ite (.opMoved _ n res) (.refl _))
  all_goals exact .ite (.opMoved s n res) (.refl s)

theorem Later.reportStatus (s : State) (t : Txn) (n : NodeId) (b : Bool) (v : Nat) :
    Later s (s.reportStatus t n b v) := by
  unfold State.reportStatus
  split
  · exact .plantStatus s n _ t b v
  all_goals exact .refl s

/-! ## A failed transaction (R144, R147, R148) -/

theorem Later.failedActive (s : State) (t : Txn) (n : NodeId) : Later s (s.failedActive t n) := by
  have reported (u : State) (b : Bool) : Later u
      (let v := (if b then u.offlineRecord n else u).reportFailure t
       let w := if t.cmd = .move then v.reportMove t n .failed else v
       if b then w.offlineNotices n else w) :=
    ((Later.ite (.offlineRecord u n) (.refl u)).trans (.reportFailure _ t)).trans
      ((Later.ite (.reportMove _ t n _) (.refl _)).trans (.ite (Later.carried.offlineNotices _ n) (.refl _)))
  exact (Later.modNode s n _).trans (reported _ _)

theorem Later.outcomeFailed (s : State) (t : Txn) (n : NodeId) : Later s (s.outcomeFailed t n) := by
  unfold State.outcomeFailed
  split
  · exact .refl s
  · exact .failedActive s t n
  · exact .failedActive s t n
  · exact .ite (.startFailed s n _) (.ite (.startFailed s n _) (.refl s))
  · exact .refl s
  · exact .ite (.modNode s n _) (.refl s)

/-! ## Replies (R130 to R134, R142, R145, R147 to R149) -/

theorem Later.replyFault (s : State) (t : Txn) (n : NodeId) (why : FaultReason) : Later s (s.replyFault t n why) :=
  ((Later.faultRecord s n why).trans (.reportFailure _ t)).trans (Later.carried.faultNotices _ n)

theorem Later.replyRestart (s : State) (t : Txn) (n : NodeId) : Later s (s.replyRestart t n) :=
  ((Later.startingRecord s n _ _ _).trans (.reportFailure _ t)).trans
    ((Later.ite (.reportMove _ t n _) (.refl _)).trans (NodeSide.askStart _ n).later)

theorem Later.endBusy (s : State) (n : NodeId) : Later s (s.endBusy n) := by
  have ready : Later s (s.setNode n { s.node n with
      state := .ready, pending := none, busySince := none, busyFromFault := false, pollTimer := none
      travelTimer := none }) := ⟨rfl, le_rfl⟩
  unfold State.endBusy
  dsimp only
  split
  · exact ready
  · exact .ite ready (ready.trans (.request _ _))

theorem Later.stillNotice (s : State) (n : NodeId) (b : Bool) : Later s (s.stillNotice n b) :=
  .ite (.readyNotice s n _ _) (.refl s)

theorem Later.statusReply (s : State) (t : Txn) (n : NodeId) (b : Bool) (v g : Nat) :
    Later s (s.statusReply t n b v g) := by
  have recorded := Later.modNode s n fun r => r.withStatus v g
  exact .ite ((recorded.trans (.ite (.enterBusy _ n _) (.refl _))).trans (.reportStatus _ t n b v))
    (.ite (((recorded.trans (.endBusy _ n)).trans (.reportStatus _ t n b v)).trans (.stillNotice _ n _))
      (recorded.trans (.reportStatus _ t n b v)))

theorem Later.readReply (s : State) (t : Txn) (n : NodeId) (b : Bool) (temp : Int) (c : Nat) :
    Later s (s.readReply t n b temp c) :=
  ((Later.modNode s n _).trans (.ite (.enterBusy _ n _) (.refl _))).trans (.reportReading _ t temp c)

theorem Later.moveReply (s : State) (t : Txn) (n : NodeId) (b q : Bool) (x : Byte) :
    Later s (s.moveReply t n b q x) := by
  refine .ite ?_ (.replyFault s t n _)
  split
  · exact ((Later.modNode s n _).trans (.enterBusy _ n _)).trans (.reportMove _ t n _)
  · exact (Later.modNode s n _).trans (.reportMove _ t n _)
  · exact ((Later.modNode s n _).trans (.enterBusy _ n _)).trans (.reportMove _ t n _)
  · exact .ite (.reportMove s t n _) (.replyFault s t n _)

theorem Later.moveReplyStarting (s : State) (t : Txn) (n : NodeId) (b q : Bool) (x : Byte) :
    Later s (s.moveReplyStarting t n b q x) := by
  refine .ite ?_ (.replyFault s t n _)
  split
  · exact .modNode s n _
  · exact .modNode s n _
  · exact .refl s
  · exact .ite (.refl s) (.replyFault s t n _)

theorem Later.replyActive (s : State) (t : Txn) (n : NodeId) (st : Byte) (data : List Byte) :
    Later s (s.replyActive t n st data) := by
  refine .ite (.replyRestart s t n) (.ite (.replyFault s t n _) (.ite (.replyFault s t n _) ?_))
  split
  · exact .ite (.statusReply s t n _ _ _) (.replyFault s t n _)
  · exact .readReply s t n _ _ _
  · exact .moveReply s t n _ _ _
  · exact .refl s

theorem Later.restore (s : State) (n : NodeId) : Later s (s.restore n) := by
  unfold State.restore
  split
  · exact .refl s
  · exact .ite (.refl s) (.request s _)

theorem Later.startEnds (s : State) (n : NodeId) (v : Byte) : Later s (s.startEnds n v) :=
  ((Later.modNode s n _).trans (.ite (.restore _ n) (.refl _))).trans (.readyNotice _ n _ _)

theorem Later.replyStarting (s : State) (t : Txn) (n : NodeId) (st : Byte) (data : List Byte) :
    Later s (s.replyStarting t n st data) := by
  refine .ite (.ite (.startFailed s n _) (.ite (.startFailed s n _) (.refl s)))
    (.ite (.replyFault s t n _) (.ite (.replyFault s t n _) ?_))
  split
  · exact .ite ((Later.modNode s n _).trans (NodeSide.askStart _ n).later) (.refl s)
  · exact .ite (.startEnds s n _) (.replyFault s t n _)
  · exact .ite (.modNode s n _) (.replyFault s t n _)
  · exact .modNode s n _
  · exact .moveReplyStarting s t n _ _ _
  · exact .refl s

theorem Later.replyOffline (s : State) (t : Txn) (n : NodeId) (st : Byte) : Later s (s.replyOffline t n st) :=
  .ite (.replyFault s t n _) (.ite (.replyFault s t n _) (.ite (.revive s n _) (.refl s)))

theorem Later.retrySucceeds (s : State) (n : NodeId) (v : Byte) : Later s (s.retrySucceeds n v) :=
  (Later.modNode s n _).trans (.ite (.enterBusy _ n _) ((Later.modNode _ n _).trans (.readyNotice _ n _ _)))

theorem Later.replyRetry (s : State) (t : Txn) (n : NodeId) (st : Byte) (data : List Byte) :
    Later s (s.replyRetry t n st data) := by
  have ended (why : FaultReason) : Later s (s.retryEnds n why) := .modNode s n _
  refine .ite (.startUp s n _) (.ite (.startUp s n _) (.ite (ended _) (.ite (ended _) ?_)))
  split
  · exact .ite ((Later.modNode s n _).trans (NodeSide.askOwn _ n _ _).later) (ended _)
  · exact .ite (.retrySucceeds s n _) (ended _)
  · exact .refl s

theorem Later.outcomeOk (s : State) (t : Txn) (n : NodeId) (st : Byte) (data : List Byte) :
    Later s (s.outcomeOk t n st data) := by
  have heard := Later.modNode s n fun r => { r with failCount := 0 }
  unfold State.outcomeOk
  split
  · exact .refl s
  · exact heard.trans (.replyActive _ t n st data)
  · exact heard.trans (.replyActive _ t n st data)
  · exact heard.trans (.replyStarting _ t n st data)
  · exact heard.trans (.replyOffline _ t n st)
  · exact heard.trans (.ite (.replyRetry _ t n st data) (.refl _))

theorem Later.takeOutcome (s : State) (t : Txn) (n : NodeId) (res : TxnResult) : Later s (s.takeOutcome t n res) := by
  cases res with
  | ok st data => exact ((Later.outcomeOk s t n st data).trans (.opNodeCheck _ n)).trans (.opFollow _)
  | failed a b => exact ((Later.outcomeFailed s t n).trans (.opNodeCheck _ n)).trans (.opFollow _)

end Sys2Proof.Machine
end

section
/-! SUPPORT for O2, continued: the changes of part state, the field line, and the timers. -/
namespace Sys2Proof.Machine

/-! ## Entry to COMMISSIONING and to STOPPING (R157, R159, R163) -/

theorem Later.setPlant (s : State) (p : Plant) : Later s (s.setPlant p) := ⟨rfl, le_rfl⟩

theorem Later.beginWork (s : State) (n : NodeId) : Later s (s.beginWork n) := by
  have started : Later s ((s.setWork n .startUp).startUp n .commission) :=
    (Later.setWork s n _).trans (.startUp _ n _)
  refine .ite ?_ (.refl s)
  split
  · exact started
  · exact started
  · exact started
  · exact (Later.setWork s n _).trans (.modNode _ n _)
  · exact .setWork s n _
  · exact .markDone s n

theorem Later.seqCommissioning (s : State) (w : Bool) : Later s (s.seqCommissioning w) :=
  (Later.ite (.enterSeq s _) (.refl s)).trans (PlantSide.setSequencer _ _).later

theorem Later.intakeCommissioning (s : State) : Later s s.intakeCommissioning := .setPlant s _

theorem Later.enterCommissioning (s : State) : Later s s.enterCommissioning := by
  have entered : Later s
      ((s.setOp { s.op with configChanged := false, lastRefusal := none, haltSent := false }).clearMarks.enterPart
        .commissioning) := ⟨rfl, le_rfl⟩
  have bound := entered.trans (.eachNode (f := State.bind) (fun u n => .modNode u n _) _)
  have planned := (bound.trans (.seqCommissioning _ s.compressorBound)).trans (.intakeCommissioning _)
  exact (planned.trans (NodeSide.askBroadcast _ _ _).later).trans (.eachNode Later.beginWork _)

theorem Later.quietNode (s : State) (n : NodeId) : Later s (s.quietNode n) := ⟨rfl, le_rfl⟩

theorem Later.quietNodes (s : State) : Later s s.quietNodes := by
  have emptied : Later s ((s.setQueue []).setLine { s.line with txn := s.line.txn.map Txn.cutOff }) := ⟨rfl, le_rfl⟩
  exact emptied.trans (.eachNode Later.quietNode _)

theorem Later.quietZones (s : State) : Later s s.quietZones :=
  .eachZone (fun u z => .modZone u z ZoneRec.quieted) s

theorem Later.quietSequencer (s : State) : Later s s.quietSequencer :=
  (Later.ite (.enterSeq s _) (.refl s)).trans (PlantSide.setSequencer _ _).later

theorem Later.quietHeater (s : State) : Later s s.quietHeater := by
  unfold State.quietHeater
  split
  · exact .enterHeater s _
  · exact .enterHeater s _
  all_goals exact .refl s

theorem Later.quietPlant (s : State) : Later s s.quietPlant :=
  (((Later.quietSequencer s).trans (.quietHeater _)).trans (.setPlant _ _)).trans
    ((Later.refreshCool _).trans (.refreshHeat _))

theorem Later.enterStopping (s : State) : Later s s.enterStopping := by
  have entered : Later s (s.clearMarks.enterPart .stopping) := ⟨rfl, le_rfl⟩
  have dropped := entered.trans (Later.carried.setArb _ (s.clearMarks.enterPart .stopping).arb.dropAll)
  have quiet := ((dropped.trans (.quietZones _)).trans (.quietNodes _)).trans (.quietPlant _)
  exact (quiet.trans (NodeSide.askBroadcast _ _ _).later).trans (.restReport _)

theorem Later.orderCut (s : State) : Later s s.orderCut := by
  unfold State.orderCut
  dsimp only
  split <;> exact ⟨rfl, le_rfl⟩

/-! ## The field line (chapter 6) -/

theorem Later.reach (s : State) (t : Time) : Later s (s.reach t) := ⟨rfl, le_max_left _ _⟩

theorem Later.phaseEnd (s : State) (p : LinePhase) {f : State → State} (h : ∀ u, Later u (f u)) :
    Later s (s.phaseEnd p f) := by
  unfold State.phaseEnd
  split
  · exact .refl s
  · exact .ite ((Later.reach s _).trans (h _)) (.refl s)

theorem Later.enterPhase (s : State) (p : LinePhase) (w : Nat) : Later s (s.enterPhase p w) := .setLine s _

theorem Later.freeLine (s : State) : Later s s.freeLine := (NodeSide.freeLine s).later

theorem Later.deliver (s : State) (t : Txn) (res : TxnResult) : Later s (s.deliver t res) := by
  have ended := Later.setLine s { s.line with timer := none }
  unfold State.deliver
  dsimp only
  split
  · exact ended.trans (.freeLine _)
  · exact (ended.trans (.takeOutcome _ t _ res)).trans (.freeLine _)

theorem Later.attemptFailed (s : State) (k : FailKind) : Later s (s.attemptFailed k) := by
  unfold State.attemptFailed
  split
  · exact .freeLine s
  · exact .ite (.setLine s _) (.deliver s _ _)

theorem Later.beginFrame (s : State) : Later s s.beginFrame := by
  unfold State.beginFrame
  split
  · exact .refl s
  · exact .enterPhase s _ _

theorem Later.endTrail (s : State) : Later s s.endTrail := by
  unfold State.endTrail
  split
  · exact .refl s
  · split
    · exact .enterPhase s _ _
    · exact .enterPhase s _ _

theorem Later.testCommissioned (s : State) : Later s s.testCommissioned :=
  .ite (Later.carried.enterRun s) (.refl s)

theorem Later.afterReset (s : State) (c : ResetCause) : Later s (s.afterReset c) := ⟨rfl, le_rfl⟩

theorem Later.reportSent (s : State) (t : Txn) : Later s (s.reportSent t) :=
  .ite (.afterReset s _)
    (((Later.setLine s { s.line with timer := none }).trans
      (.ite ((Later.setOp _ _).trans (.testCommissioned _)) (.refl _))).trans (.freeLine _))

theorem Later.takeChar (s : State) (start : Time) (c : Command) (d : Byte) : Later s (s.takeChar start c d) :=
  .ite (.setLine s _) (.ite (.setLine s _) (.setLine s _))

theorem Later.charArrives (s : State) : Later s s.charArrives := by
  unfold State.charArrives
  split
  case h_5 => exact .refl s
  all_goals exact .reach s _

theorem Later.receiveChar (s : State) (d : Byte) (m p q : Bool) : Later s (s.receiveChar d m p q) := by
  unfold State.receiveChar
  dsimp only
  split
  · exact (Later.setLine s { s.line with chars := [] }).trans (.ite (.takeChar _ _ _ d) (.setLine _ _))
  · exact .ite (.takeChar s _ _ d) (.setLine s _)
  · exact .setLine s _
  · exact .setLine s _
  · exact .refl s

theorem Later.replyComplete (s : State) : Later s s.replyComplete := by
  unfold State.replyComplete
  split
  · exact .ite (.attemptFailed s _) (.deliver s _ _)
  · exact .refl s

theorem Later.drained (s : State) : Later s s.drained := .ite (.enterPhase s _ _) (.attemptFailed s _)

theorem Later.drainEnd (s : State) : Later s s.drainEnd := by
  unfold State.drainEnd
  split
  · exact .refl s
  · exact .ite ((Later.reach s _).trans (.drained _)) (.refl s)

theorem Later.gapEnded (s : State) : Later s s.gapEnded :=
  .ite ((Later.setLine s _).trans (.ite ((Later.setOp _ _).trans (NodeSide.startTxn _ _).later) (NodeSide.handOver _).later))
    (.enterPhase s _ _)

theorem Later.broadcastEnds (s : State) : Later s (match s.line.txn with
    | none => s.freeLine
    | some t => s.reportSent t) := by
  split
  · exact .freeLine s
  · exact .reportSent s _

/-! ## The timers -/

theorem Later.expire (s : State) (t : Timer) {f : State → State} (h : ∀ u, Later u (f u)) : Later s (s.expire t f) := by
  unfold State.expire
  split
  · exact .refl s
  · exact (Later.reach s _).trans (h _)

theorem Later.claimAges (s : State) (z : Zone) : Later s (s.claimAges z) := by
  have marked (u : State) (i : PoolId) : Later u (u.saturate z i) :=
    Later.trans (t := (u.setArb (u.arb.setPool i ((u.arb.pool i).markSaturated z))).modZone z
      fun r => { r with flags := { r.flags with saturated := true } }) ⟨rfl, le_rfl⟩ (.raise _ _ _)
  unfold State.claimAges
  split
  · exact .refl s
  · exact .ite (.refl s) ((Later.reach s _).trans (marked _ _))

theorem Later.shedStage (s : State) (k : Nat) : Later s (s.shedStage k) := (ShareSide.shedStage s k).later

theorem Later.setSequencer (s : State) (q : Sequencer) : Later s (s.setSequencer q) := (PlantSide.setSequencer s q).later

theorem Later.minRunExpiry (s : State) : Later s s.minRunExpiry :=
  (Later.setSequencer s { s.plant.seq with minRunTimer := none, minRunExpired := true }).trans
    (.ite (.shedStage _ _) (.refl _))

theorem Later.holdDone (s : State) : Later s s.holdDone := by
  refine (Later.setSequencer s { s.plant.seq with holdTimer := none }).trans ?_
  unfold State.holdDone
  dsimp only
  split
  · exact .ite (.shedStage _ _) (.setSequencer _ _)
  · exact .refl _

theorem Later.compressorPoll (s : State) : Later s s.compressorPoll :=
  (Later.setSequencer s _).trans (NodeSide.steadyStatus _ _).later

theorem Later.flamePoll (s : State) : Later s s.flamePoll :=
  (PlantSide.setHeater s _).later.trans (NodeSide.steadyStatus _ _).later

theorem Later.wakeExpiry (s : State) (n : NodeId) : Later s (s.wakeExpiry n) :=
  (Later.modNode s n fun r => { r with wakeTimer := some (s.now + Config.wakePeriod) }).trans
    (.ite (.refl _) (NodeSide.askStart _ n).later)

theorem Later.nodePoll (s : State) (n : NodeId) : Later s (s.nodePoll n) :=
  (((Later.modNode s n _).trans (NodeSide.askStatus _ n _).later).trans (NodeSide.dueAtPoll _ n).later).trans (.opFollow _)

theorem Later.travelExpiry (s : State) (n : NodeId) : Later s (s.travelExpiry n) :=
  .ite ((Later.enterFault s n _).trans (.opFollow _)) (.refl s)

theorem Later.revivalExpiry (s : State) (n : NodeId) : Later s (s.revivalExpiry n) :=
  (Later.modNode s n _).trans (NodeSide.askOwn _ n _ _).later

theorem Later.pollTickExpiry (s : State) : Later s s.pollTickExpiry :=
  (Later.trans (t := { s with
      nodes := { s.nodes with pollTick := some (s.now + s.nodes.tuning.pollInterval * Config.ms) } }) ⟨rfl, le_rfl⟩
    (.eachNode (fun u n => (NodeSide.tickNode u n).later) _)).trans (.opFollow _)

end Sys2Proof.Machine
end

section
/-! SUPPORT for O2, continued: what the owners do with a request, and the port. -/
namespace Sys2Proof.Machine

/-! ## The owners (chapters 1 to 8) -/

/-- What an owner gives back stands later. -/
def Taken.later (s : State) (x : Taken) : Prop := Later s x.1

theorem Taken.later.answer (s : State) (a : Answer) : Taken.later s (s, a) := Later.refl s

theorem Taken.later.accepted {s t : State} (h : Later s t) : Taken.later s (accept t) := h

theorem Taken.later.ite {s : State} {c : Prop} [Decidable c] {x y : Taken} (a : Taken.later s x) (b : Taken.later s y) :
    Taken.later s (if c then x else y) := by
  split
  · exact a
  · exact b

theorem Taken.later.field {α : Type} {s : State} (v : Option α) {f : α → Taken} (h : ∀ a, Taken.later s (f a)) :
    Taken.later s (withField s v f) := by
  unfold withField
  split
  · exact .answer s _
  · exact h _

theorem Taken.later.zone {s : State} (zone : Byte) {f : Zone → Taken} (h : ∀ z, Taken.later s (f z)) :
    Taken.later s (s.withZone zone f) := .field _ fun z => .ite (h z) (.answer s _)

theorem Taken.later.source {s : State} (zone source : Byte) {f : Source → Taken} (h : ∀ q, Taken.later s (f q)) :
    Taken.later s (s.withSource zone source f) := .field _ fun q => .ite (.answer s _) (h q)

/-- An accepted change of the definitions. -/
theorem Taken.later.configured {s t : State} (h : Later s t) : Taken.later s (accept t.configChange) :=
  .accepted (h.trans (.setOp t _))

theorem Later.unbindZone (s : State) (z : Zone) : Later s (s.unbindZone z) := by
  refine .eachNode (fun u n => ?_) s
  split
  · exact .ite (.modNode u n _) (.refl u)
  · exact .refl u
  · exact .refl u

theorem Later.defined (s : State) (z : Zone) (r : ZoneRec) : Later s ((s.setZone z r).unbindZone z) :=
  (ZoneSide.setZone s z r).later.trans (.unbindZone _ z)

theorem Taken.later.defineZone (s : State) (a : ZoneDefArgs) : Taken.later s (s.defineZone a) :=
  .field _ fun z => .field _ fun _ => .field _ fun _ => .field _ fun _ => .field _ fun _ => .field _ fun _ =>
  .field _ fun _ => .field _ fun _ => .field _ fun _ => .field _ fun _ => .field _ fun _ =>
  .configured (.defined s z _)

theorem Taken.later.takeZoneDef (s : State) (act : Byte) (a : ZoneDefArgs) : Taken.later s (s.takeZoneDef act a) :=
  .field _ fun _ => .field _ fun _ => .ite (.defineZone s a) (.field _ fun z => .configured (.defined s z _))

theorem Later.defineNode (s : State) (n : NodeId) (b : Bool) (k : Option NodeKind) : Later s (s.defineNode n b k) := by
  have written : Later s (s.setNode n { NodeRec.reset with configured := b, kind := k }) := ⟨rfl, le_rfl⟩
  exact (written.trans (.dropEntries _ n _)).trans (.setOp _ _)

theorem Taken.later.takeNodeDef (s : State) (a c k : Byte) : Taken.later s (s.takeNodeDef a c k) :=
  .field _ fun n => .field _ fun _ =>
    .ite (.field _ fun _ => .accepted (.defineNode s n _ _)) (.accepted (.defineNode s n _ _))

theorem Taken.later.takeDoorDef (s : State) (d : Byte) (zs : BitVec 24) : Taken.later s (s.takeDoorDef d zs) :=
  .field _ fun _ => .configured ⟨rfl, le_rfl⟩

theorem Taken.later.takePlantDef (s : State) (a : PlantDefArgs) : Taken.later s (s.takePlantDef a) :=
  .field _ fun _ => .configured ((Later.setPlant s _).trans (.refreshHeat _))

theorem Taken.later.takeTuneDef (s : State) (a : TuneDefArgs) : Taken.later s (s.takeTuneDef a) :=
  .field _ fun _ => .configured ⟨rfl, le_rfl⟩

theorem Taken.later.takeCommission (s : State) : Taken.later s s.takeCommission := by
  unfold State.takeCommission
  split
  · exact Later.setOp s _
  · exact .accepted (.enterCommissioning s)

theorem Later.changeSetpointBy (s : State) (z : Zone) (q : Source) (v : Int) : Later s (s.changeSetpointBy z q v) :=
  .changeSetpoint s z _

theorem Taken.later.takeSetpoint (s : State) (zone : Byte) (q : Source) (v : Word) :
    Taken.later s (s.takeSetpoint zone q v) :=
  .zone _ fun z => .field _ fun _ => .ite (.accepted (.changeSetpointBy s z q _)) (.answer s _)

theorem Taken.later.takePlan (s : State) (zone : Byte) (q : Source) (m : Byte) (v : Word) :
    Taken.later s (s.takePlan zone q m v) :=
  .zone _ fun z => .field _ fun _ => .field _ fun _ => .ite (.accepted (.changePlan s z _ _)) (.answer s _)

theorem Later.eachDoorZone {f : State → Zone → State} (h : ∀ u z, Later u (f u z)) (s : State) (d : Door) :
    Later s (s.eachDoorZone d f) := .eachZone (fun u z => .ite (h u z) (.refl u)) s

theorem Taken.later.takeDoor (s : State) (d a : Byte) : Taken.later s (s.takeDoor d a) :=
  .field _ fun d => .ite (.accepted (.eachDoorZone (fun u z => .doorOpened u d z) s d))
    (.ite (.accepted (.eachDoorZone (fun u z => .doorClosed u d z) s d)) (.answer s _))

theorem Later.defogFor (s : State) (z : Zone) (k : Nat) : Later s (s.defogFor z k) :=
  .ite (.modZone s z _) (.changeMode s z _)

theorem Taken.later.takeDefog (s : State) (zone d : Byte) : Taken.later s (s.takeDefog zone d) :=
  .zone _ fun z => .field _ fun _ => .accepted (.ite (.endOverride s z _) (.defogFor s z _))

theorem Taken.later.takePurge (s : State) (zone a : Byte) : Taken.later s (s.takePurge zone a) :=
  .zone _ fun z => .ite (.accepted (.startOverride s z _ _)) (.ite (.accepted (.endOverride s z _)) (.answer s _))

theorem Later.allowedChanged (s : State) (k : Nat) : Later s (s.allowedChanged k) := (ShareSide.allowedChanged s k).later

theorem Later.setCoolant (s : State) (k : Nat) : Later s (s.setCoolant k) :=
  .ite (.refl s) (((Later.setPlant s _).trans (.refreshHeat _)).trans (PlantSide.testStopDelay _).later)

theorem Taken.later.takeEngine (s : State) (b k : Byte) : Taken.later s (s.takeEngine b k) :=
  .field _ fun _ => .field _ fun _ =>
    .accepted (((Later.setPlant s _).trans (.allowedChanged _ _)).trans (.setCoolant _ _))

theorem Later.setHeater (s : State) (q : Heater) : Later s (s.setHeater q) := (PlantSide.setHeater s q).later
theorem Later.heaterStop (s : State) : Later s s.heaterStop := (ShareSide.heaterStop s).later

theorem Taken.later.takeAux (s : State) (a : Byte) : Taken.later s (s.takeAux a) :=
  .ite (.accepted ((Later.setHeater s _).trans (.heaterStart _)))
    (.ite (.accepted ((Later.setHeater s _).trans (.heaterStop _))) (.answer s _))

theorem Taken.later.takeAuxClear (s : State) : Taken.later s s.takeAuxClear :=
  .ite (.accepted (((Later.setHeater s _).trans (.enterHeater _ _)).trans (.heaterStart _))) (.accepted (.refl s))

theorem Taken.later.takeNodeRetry (s : State) (n a : Byte) : Taken.later s (s.takeNodeRetry n a) :=
  .field _ fun n => .field _ fun a => .ite (.accepted (NodeSide.retryNode s n a).later) (.answer s _)

theorem Later.clearZoneFlags (s : State) (set : BitVec 12) : Later s (s.clearZoneFlags set) :=
  .eachZone (fun u z => .modZone u z fun r => { r with flags := r.flags.clearNamed set (u.actuatorsSound z) }) s

theorem Later.setCond (s : State) (c : CondBlock) : Later s (s.setCond c) := ⟨rfl, le_rfl⟩

theorem Taken.later.takeCondClear (s : State) (set : Word) : Taken.later s (s.takeCondClear set) :=
  .field _ fun named => (Later.setCond s _).trans (.clearZoneFlags _ named)

theorem Taken.later.takeCondMask (s : State) (set : Word) (e : Byte) : Taken.later s (s.takeCondMask set e) :=
  .field _ fun _ => .field _ fun _ => .accepted (.setCond s _)

/-! ## The port's own requests (R174 to R178) -/

theorem Later.setTag (s : State) (t : RangeTag) : Later s (s.setTag t) := .setPort s _

theorem Taken.later.takeRangeOpen (s : State) (f : Byte) : Taken.later s (s.takeRangeOpen f) :=
  .field _ fun _ => .accepted (.setTag s _)

theorem Taken.later.takeRangeClose (s : State) (found : RangeTag) (k : Byte) :
    Taken.later s (s.takeRangeClose found k) := by
  cases found with
  | none => exact .answer s _
  | opened f => exact .field _ fun _ => .accepted (.setTag s _)
  | closed f k' => exact .field _ fun _ => .accepted (.setTag s _)

theorem Later.walkTag (s : State) (zs : List Zone) (p : State → Zone → Bool) {f : State → Zone → State}
    (h : ∀ u z, Later u (f u z)) : Later s (s.walkTag zs p f).1 := by
  have walked (k : Nat) : Later s (zs.foldl (fun r z => if p r.1 z then (f r.1 z, r.2 + 1) else r) (s, k)).1 := by
    induction zs generalizing s k with
    | nil => exact .refl s
    | cons z zs ih =>
      rw [List.foldl_cons]
      split
      · exact (h s z).trans (ih _ _)
      · exact ih s k
  exact walked 0

theorem Taken.later.writeProtection (s : State) (p : Protection) (a b : Nat) :
    Taken.later s (s.writeProtection p a b) := .ite (.answer s _) (Later.setPort s _)

theorem Taken.later.applyUnprotect (s : State) (q : Source) (a b : Nat) : Taken.later s (s.applyUnprotect q a b) := by
  refine .ite (.answer s _) ?_
  split
  · exact .answer s _
  · exact .writeProtection s _ _ _

theorem Taken.later.applyAction (s : State) (q : Source) (x : RangeAction) (a b : Nat) :
    Taken.later s (s.applyAction q x a b) := by
  cases x with
  | planMode m => exact Later.walkTag s _ _ fun u z => .changePlan u z m _
  | planSetpoint v => exact Later.walkTag s _ _ fun u z => .changeSetpointBy u z q v
  | protect k => exact .ite (.answer s _) (.writeProtection s _ _ _)
  | unprotect => exact .applyUnprotect s q a b

theorem Taken.later.takeRangeApply (s : State) (found : RangeTag) (q x : Byte) (v : Word) :
    Taken.later s (s.takeRangeApply found q x v) := by
  cases found with
  | none => exact .answer s _
  | opened f => exact .answer s _
  | closed a b => exact .field _ fun q => .field _ fun x => .applyAction s q x a b

theorem Taken.later.takeProtectLock (s : State) : Taken.later s s.takeProtectLock :=
  .ite (.answer s _) (.accepted (.setPort s _))

/-! ## A frame is taken (R168 to R172) -/

theorem Taken.later.ownerTakes (s : State) (k : Kind) (found : RangeTag) (p : List Byte) :
    Taken.later s (s.ownerTakes k found p) := by
  cases k
  all_goals (unfold State.ownerTakes; dsimp only)
  case commission => exact .takeCommission s
  case shutdown => exact .accepted (.enterStopping s)
  case restart => exact .accepted (.setOp s _)
  case auxClear => exact .takeAuxClear s
  case protectLock => exact .takeProtectLock s
  case stateQuery | plantQuery | condQuery => exact .answer s _
  -- a payload of another length than its kind's is refused; the rest in the order of the kinds
  all_goals (split; case h_2 => exact .answer s _)
  · exact .takeZoneDef s _ _
  · exact .takeNodeDef s _ _ _
  · exact .takeDoorDef s _ _
  · exact .takePlantDef s _
  · exact .takeTuneDef s _
  · exact .source _ _ fun q => .takePlan s _ q _ _
  · exact .source _ _ fun q => .takeSetpoint s _ q _
  · exact .takeRangeOpen s _
  · exact .takeRangeClose s _ _
  · exact .takeRangeApply s _ _ _ _
  · exact .takeDoor s _ _
  · exact .takeEngine s _ _
  · exact .source _ _ fun _ => .takeDefog s _ _
  · exact .source _ _ fun _ => .takePurge s _ _
  · exact .takeAux s _
  · exact .takeNodeRetry s _ _
  · exact .field _ fun _ => .answer s _
  · exact .field _ fun _ => .field _ fun _ => .field _ fun _ => .answer s _
  · exact .field _ fun _ => .answer s _
  · exact .takeCondClear s _
  · exact .takeCondMask s _ _

theorem Taken.later.takeRequest (s : State) (k : Kind) (p : List Byte) : Taken.later s (s.takeRequest k p) := by
  have tagged := Later.setTag s (k.tagEffect.after s.port.tag)
  exact .ite (.ite tagged (.ite (tagged.trans (Taken.later.ownerTakes _ k _ p)) tagged)) tagged

theorem Later.reply (s : State) (k t : Byte) (b : Bool) (a : Answer) : Later s (s.reply k t b a) := .setPort s _

theorem Later.takeGood (s : State) (k t : Byte) (p : List Byte) : Later s (s.takeGood k t p) := by
  unfold State.takeGood
  split
  · exact .reply s _ _ _ _
  · exact Later.trans (Taken.later.takeRequest s _ p) (.reply _ _ _ _ _)

theorem Later.takeFrame (s : State) (f : RxFrame) : Later s (s.takeFrame f) := by
  cases f with
  | badLen => exact .reply s _ _ _ _
  | whole k t p c => exact .ite (.takeGood s k t p) (.reply s _ _ _ _)

theorem Later.offer (s : State) (f : RxFrame) : Later s (s.offer f) :=
  .ite (.raise s _ _) (.ite (.setPort s _) (.takeFrame s f))

theorem Later.takeSlot (s : State) : Later s s.takeSlot := by
  unfold State.takeSlot
  split
  · exact .refl s
  · exact (Later.setPort s _).trans (.takeFrame _ _)

theorem Later.replyEnds (s : State) : Later s s.replyEnds := by
  unfold State.replyEnds
  split
  · exact .refl s
  · exact (Later.setPort s { s.port with sending := none }).trans (.ite (.orderCut _) (.takeSlot _))

theorem Later.setRx (s : State) (p : RxPhase) : Later s (s.setRx p) := .setPort s _

theorem Later.takeByte (s : State) (b : Byte) : Later s (s.takeByte b) := by
  have heard (f : RxFrame) : Later s ((s.setRx .hunt).offer f) := (Later.setRx s _).trans (.offer _ f)
  unfold State.takeByte
  split
  · exact .ite (.setRx s _) (.refl s)
  · exact .ite (.setRx s _) (heard _)
  · exact .ite (.setRx s _) (heard _)

theorem Later.takeBytes (s : State) (bs : List Byte) : Later s (s.takeBytes bs) := .foldl _ Later.takeByte bs s

theorem Later.hostRequest (s : State) (k : Kind) (t : Byte) (p : List Byte) : Later s (s.hostRequest k t p) := .offer s _

theorem Later.shedEvent (s : State) (b : Bool) : Later s (s.shedEvent b) :=
  Later.trans (t := s.viewShed b) ⟨rfl, le_rfl⟩ (.allowedChanged _ _)

end Sys2Proof.Machine
end

section
/-! Every command that names things that exist completes; an event of a zone or node that does not exist is a fault (O2). -/
namespace Sys2Proof.Machine

/-- The outcome is a next state, with no command lost and the clock not taken back. -/
def Completes (s : State) (o : Host.Outcome State Fault Refusal) : Prop := ∃ t, o = .next t ∧ Later s t

theorem Completes.answer (s : State) {f : State → State} (h : ∀ u, Later u (f u)) : Completes s (s.answer f) :=
  ⟨_, rfl, .ite (.refl s) (h s)⟩

theorem Completes.expiry (s : State) (timer : State → Timer) {f : State → State} (h : ∀ u, Later u (f u)) :
    Completes s (s.answer fun s => s.expire (timer s) f) := .answer s fun u => .expire u _ h

theorem Completes.phase (s : State) (p : LinePhase) {f : State → State} (h : ∀ u, Later u (f u)) :
    Completes s (s.answer (·.phaseEnd p f)) := .answer s fun u => .phaseEnd u p h

theorem Completes.request (s : State) (k : Kind) (tag : Byte) (p : List Byte) :
    Completes s (s.answer (·.hostRequest k tag p)) := .answer s fun u => .hostRequest u k tag p

theorem zoneOfNat_named {k : Nat} (h : zoneNumberOk k = true) : ∃ z, zoneOfNat k = some z := by
  simp only [zoneNumberOk, Bool.and_eq_true, decide_eq_true_eq] at h
  unfold zoneOfNat
  rw [dif_pos (by omega)]
  exact ⟨_, rfl⟩

theorem nodeOfNat_named {k : Nat} (h : nodeNumberOk k = true) : ∃ n, nodeOfNat k = some n := by
  simp only [nodeNumberOk, Bool.and_eq_true, decide_eq_true_eq] at h
  unfold nodeOfNat
  rw [dif_pos (by omega)]
  exact ⟨_, rfl⟩

theorem Completes.zoneEvent (s : State) {k : Nat} {f : Zone → State → State} (hk : zoneNumberOk k = true)
    (h : ∀ z u, Later u (f z u)) : Completes s (s.zoneEvent k f) := by
  obtain ⟨z, hz⟩ := zoneOfNat_named hk
  rw [State.zoneEvent, hz]
  exact .answer s (h z)

theorem Completes.nodeEvent (s : State) {k : Nat} {f : NodeId → State → State} (hk : nodeNumberOk k = true)
    (h : ∀ n u, Later u (f n u)) : Completes s (s.nodeEvent k f) := by
  obtain ⟨n, hn⟩ := nodeOfNat_named hk
  rw [State.nodeEvent, hn]
  exact .answer s (h n)

theorem State.zoneEvent_fault (s : State) {k : Nat} (f : Zone → State → State) (h : k = 0 ∨ 24 < k) :
    s.zoneEvent k f = .fault (.noSuchZone k) := by rw [State.zoneEvent, zoneOfNat_bad h]

theorem State.nodeEvent_fault (s : State) {k : Nat} (f : NodeId → State → State) (h : k = 0 ∨ 31 < k) :
    s.nodeEvent k f = .fault (.noSuchNode k) := by rw [State.nodeEvent, nodeOfNat_bad h]

theorem Later.frameGap (s : State) : Later s (match s.port.rxTimer with
    | none => s
    | some t => (s.reach t).setRx .hunt) := by
  split
  · exact .refl s
  · exact (Later.reach s _).trans (.setRx _ _)

/-- The command's events, by the lemma of each. -/
theorem exec_completes (c : Instr) (s : State) (h : c.wellFormed = true) : Completes s (exec c s) := by
  cases c
  case frameReceived bs => exact .answer s fun u => .takeBytes u bs
  case frameGapTimeout => exact .answer s .frameGap
  case replySent => exact .answer s .replyEnds
  case rangeApplyProtect | rangeApplyUnprotect | protectLock => exact Completes.request (s.setKey _) _ _ _
  case hardResetHold => exact ⟨_, rfl, rfl, le_rfl⟩
  case hardReset k => exact ⟨_, rfl, .afterReset s _⟩
  case shedNAsserted => exact Completes.answer (s.setShedLine true) fun u => .shedEvent u _
  case shedNReleased => exact Completes.answer (s.setShedLine false) fun u => .shedEvent u _
  case loopTimerExpiry => exact .zoneEvent s h fun z u => .expire u _ fun v => .loopExpiry v z
  case holdTimerExpiry => exact .zoneEvent s h fun z u => .expire u _ fun v => .changeSetpoint v z _
  case defogTimerExpiry => exact .zoneEvent s h fun z u => .expire u _ fun v => .endOverride v z _
  case curtainTimerExpiry => exact .zoneEvent s h fun z u => .expire u _ fun v => .curtainExpiry v z
  case claimSaturation => exact .zoneEvent s h fun z u => .claimAges u z
  case minimumRunExpiry => exact .expiry s (·.plant.seq.minRunTimer) .minRunExpiry
  case stageDownHoldExpiry => exact .expiry s (·.plant.seq.holdTimer) .holdDone
  case lockoutExpiry => exact .expiry s (·.plant.seq.lockoutTimer) fun u => (Later.enterSeq u _).trans (.seqDecide _)
  case compressorPollExpiry => exact .expiry s (·.plant.seq.pollTimer) .compressorPoll
  case igniteWaitExpiry => exact .expiry s (·.plant.heater.igniteWaitTimer) fun u => (Later.enterHeater u _).trans (.heaterStart _)
  case stopDelayExpiry => exact .expiry s (·.plant.heater.stopDelayTimer) .heaterStop
  case flamePollExpiry => exact .expiry s (·.plant.heater.flamePollTimer) .flamePoll
  case wakeTimerExpiry => exact .nodeEvent s h fun n u => .expire u _ fun v => .wakeExpiry v n
  case nodePollTimerExpiry => exact .nodeEvent s h fun n u => .expire u _ fun v => .nodePoll v n
  case travelTimerExpiry => exact .nodeEvent s h fun n u => .expire u _ fun v => .travelExpiry v n
  case revivalTimerExpiry => exact .nodeEvent s h fun n u => .expire u _ fun v => .revivalExpiry v n
  case pollTickExpiry => exact .expiry s (·.nodes.pollTick) .pollTickExpiry
  case leadEnd => exact .phase s _ .beginFrame
  case frameSent => exact .answer s fun u => .ite (.refl u) (.phaseEnd u _ fun v => .enterPhase v _ _)
  case trailEnd => exact .phase s _ .endTrail
  case replyWindowExpiry => exact .phase s _ fun u => .attemptFailed u _
  case replyCharacterReceived d m p q => exact .answer s fun u => (Later.charArrives u).trans (.receiveChar _ d m p q)
  case replyGapTimeout => exact .phase s _ fun u => .attemptFailed u _
  case closingQuietEnd => exact .phase s _ .replyComplete
  case drainEnd => exact .answer s .drainEnd
  case broadcastWaitEnd => exact .phase s _ .broadcastEnds
  case gapEnd => exact .phase s _ .gapEnded
  case cutCharacterEnd =>
    exact Completes.answer s
      (f := fun u => if u.line.cut then u.phaseEnd .sending (·.enterPhase .gap Config.twoChars) else u)
      fun u => .ite (.phaseEnd u _ fun v => .enterPhase v _ _) (.refl u)
  all_goals exact .request s _ _ _

/-- Settles O2: each event's change of the state is one later state, and an event of no zone or node is a fault. -/
theorem commandsCompleteOrNameNoRecord : Obligations.CommandsCompleteOrNameNoRecord := by
  refine ⟨fun c s h => ?_, fun s k => ⟨fun hk c hc => ?_, fun hk c hc => ?_⟩⟩
  · obtain ⟨t, e, pending, now⟩ := exec_completes c s h
    exact ⟨t, e, pending, now⟩
  · simp only [List.mem_cons, List.not_mem_nil, or_false] at hc
    rcases hc with rfl | rfl | rfl | rfl | rfl <;> exact s.zoneEvent_fault _ hk
  · simp only [List.mem_cons, List.not_mem_nil, or_false] at hc
    rcases hc with rfl | rfl | rfl | rfl <;> exact s.nodeEvent_fault _ hk

end Sys2Proof.Machine
end

section
/-! SETTLES O9. The bytes of a whole frame reach the port as one frame (R168), and what a frame of no known kind, of a wrong
length or with a bad action code is answered (R172, R176, R177). -/
namespace Sys2Proof.Machine

/-! ## The receiver (R168) -/

@[simp] theorem State.setRx_setRx (s : State) (p q : RxPhase) : (s.setRx p).setRx q = s.setRx q := rfl

theorem State.setRx_hunt {s : State} (h : s.port.rx = .hunt) (ht : s.port.rxTimer = none) : s.setRx .hunt = s := by
  simp [State.setRx, State.setPort, ← h, ← ht]

/-- R168: a byte within a frame, before the frame's last. -/
theorem State.takeByte_within (s : State) (len b : Byte) (got : List Byte) (h : got.length + 2 < len.toNat + 3) :
    (s.setRx (.inFrame (len :: got))).takeByte b = s.setRx (.inFrame (len :: (got ++ [b]))) := by
  have hl : (len :: got ++ [b]).length < len.toNat + 3 := by simpa using h
  show (if (len :: got ++ [b]).length < len.toNat + 3 then _ else _) = _
  rw [if_pos hl]
  rfl

/-- R168: the last byte of a frame. -/
theorem State.takeByte_last (s : State) (len b : Byte) (got : List Byte) (h : got.length + 2 = len.toNat + 3) :
    (s.setRx (.inFrame (len :: got))).takeByte b = (s.setRx .hunt).offer (frameOf (len :: (got ++ [b]))) := by
  have hl : ¬ (len :: got ++ [b]).length < len.toNat + 3 := by simp; omega
  show (if (len :: got ++ [b]).length < len.toNat + 3 then _ else _) = _
  rw [if_neg hl]
  rfl

/-- R168: the rest of a frame, up to its last byte. -/
theorem State.takeBytes_rest (s : State) (len b : Byte) (bs : List Byte) :
    ∀ got : List Byte, got.length + bs.length + 2 = len.toNat + 3 →
      (s.setRx (.inFrame (len :: got))).takeBytes (bs ++ [b]) =
        (s.setRx .hunt).offer (frameOf (len :: (got ++ bs ++ [b]))) := by
  induction bs with
  | nil =>
    intro got h
    simpa [State.takeBytes] using State.takeByte_last s len b got (by simpa using h)
  | cons c bs ih =>
    intro got h
    have within := State.takeByte_within s len c got (by simp at h; omega)
    have rest := ih (got ++ [c]) (by simp at h ⊢; omega)
    rw [State.takeBytes, List.cons_append, List.foldl_cons, within, ← State.takeBytes, rest]
    simp

theorem frameOf_whole (len kind tag hi lo : Byte) (p : List Byte) :
    frameOf (len :: kind :: tag :: (p ++ [hi, lo])) = .whole kind tag p (joinBytes hi lo) := by
  have hn : (p ++ [hi, lo]).length - 2 = p.length := by simp
  simp only [frameOf, hn, List.take_left, List.drop_left]

/-- R168, R170: the bytes of a whole frame, received in HUNT, offer the frame to the holding slot. -/
theorem State.takeBytes_frame {s : State} (kind tag : Byte) (p : List Byte) (crc : Word) (hp : p.length ≤ 60)
    (hr : s.port.rx = .hunt) (ht : s.port.rxTimer = none) :
    s.takeBytes (0xC3#8 :: byteOf (2 + p.length) :: kind :: tag :: (p ++ wordBytes crc)) =
      s.offer (.whole kind tag p crc) := by
  have hlen : (byteOf (2 + p.length)).toNat = 2 + p.length := by simp [byteOf]; omega
  have start : s.takeByte 0xC3#8 = s.setRx (.inFrame []) := by simp [State.takeByte, hr]
  have len : (s.setRx (.inFrame [])).takeByte (byteOf (2 + p.length)) = s.setRx (.inFrame [byteOf (2 + p.length)]) := by
    show (if 2 ≤ (byteOf (2 + p.length)).toNat ∧ (byteOf (2 + p.length)).toNat ≤ 62 then _ else _) = _
    rw [if_pos (by omega)]
    rfl
  have rest := State.takeBytes_rest s (byteOf (2 + p.length)) (loByte crc) (kind :: tag :: (p ++ [hiByte crc])) []
    (by simp; omega)
  have bytes : kind :: tag :: (p ++ wordBytes crc) = (kind :: tag :: (p ++ [hiByte crc])) ++ [loByte crc] := by
    simp [wordBytes]
  rw [State.takeBytes, List.foldl_cons, List.foldl_cons, start, len, ← State.takeBytes, bytes, rest,
    State.setRx_hunt hr ht]
  simp only [List.nil_append, List.cons_append, List.append_assoc, frameOf_whole, joinBytes_split]

/-- R168 to R172: the bytes of a good request, received in HUNT by a free port, are taken at once. -/
theorem State.frameReceived_request {s : State} (kind tag : Byte) (p : List Byte) (hf : s.portFree)
    (hp : p.length ≤ 60) (hr : s.port.rx = .hunt) (ht : s.port.rxTimer = none) :
    exec (.frameReceived (requestBytes kind tag p)) s = .next (s.takeGood kind tag p) := by
  obtain ⟨held, slot, sending, soft⟩ := hf
  have taken : s.offer (.whole kind tag p (requestCrc kind tag p)) = s.takeGood kind tag p := by
    simp [State.offer, State.busy, slot, sending, soft, State.takeFrame]
  have bytes := State.takeBytes_frame kind tag p (requestCrc kind tag p) hp hr ht
  rw [taken] at bytes
  exact (State.answer_free (·.takeBytes (requestBytes kind tag p)) held).trans (congrArg Host.Outcome.next bytes)

/-! ## Requests that change nothing but the tag -/

/-- R172, step 1: a KIND that is no request kind. -/
theorem requestKind_unknown {b : Byte} (h : ∀ k : Kind, k.code ≠ b) : requestKind b = none :=
  List.find?_eq_none.2 fun k _ => by simpa using h k

theorem OnlyPort.setPort (s : State) (p : Port) : OnlyPort s (s.setPort p) :=
  ⟨rfl, rfl, rfl, rfl, rfl, rfl, rfl, rfl, rfl, rfl, rfl, rfl⟩

/-- R176: the kinds that leave the tag as they find it: the queries, and RANGE_CLOSE before it writes it. -/
theorem Kind.keepsTag_iff (k : Kind) :
    k ∈ [Kind.stateQuery, .zoneQuery, .poolQuery, .nodeQuery, .plantQuery, .condQuery, .rangeClose] ↔
      k.tagEffect = .keeps ∨ k.tagEffect = .closes := by
  cases k <;> decide

/-- R176, R177: out of sequence are a RANGE_CLOSE that finds no tag and a RANGE_APPLY that finds no CLOSED one. -/
theorem Kind.outOfSequence_iff (k : Kind) (found : RangeTag) :
    k.tagEffect.outOfSequence found = true ↔
      (k = .rangeClose ∧ found = .none) ∨ (k = .rangeApply ∧ ∀ f l, found ≠ .closed f l) := by
  cases k <;> cases found <;> simp [Kind.tagEffect, TagEffect.outOfSequence]

/-- R176: a request that keeps the tag is not told of it, and any other that is not accepted clears it. -/
theorem TagEffect.keeps_after {e : TagEffect} (h : e = .keeps ∨ e = .closes) (found : RangeTag) (a : Answer) :
    e.after found = found ∧ e.cleared found a = false := by
  rcases h with rfl | rfl <;> exact ⟨rfl, rfl⟩

theorem TagEffect.clears_after {e : TagEffect} (h : ¬ (e = .keeps ∨ e = .closes)) (found : RangeTag) {a : Answer}
    (ha : a.isOk = false) : e.after found = .none ∧ (e.cleared found a = true ↔ found ≠ .none) := by
  cases e <;> simp_all [TagEffect.after, TagEffect.cleared]

/-- R172, R176: the reply to a request that changes nothing but the tag. -/
structure TagOnly (s : State) (k : Kind) (t : State) : Prop where
  side : OnlyPort s t
  kept : (k.tagEffect = .keeps ∨ k.tagEffect = .closes) →
    t.port = { s.port with sending := t.port.sending } ∧ t.replyFlag 1 = false
  cleared : ¬ (k.tagEffect = .keeps ∨ k.tagEffect = .closes) →
    t.port = answeredPort s t ∧ (t.replyFlag 1 = true ↔ s.port.tag ≠ .none)

theorem State.takeGood_tagOnly {s : State} {k : Kind} (tag : Byte) {p : List Byte} {a : Answer} (ha : a.isOk = false)
    (h : s.takeRequest k p = (s.setTag (k.tagEffect.after s.port.tag), a)) : TagOnly s k (s.takeGood k.code tag p) := by
  rw [State.takeGood_code, h]
  refine ⟨OnlyPort.setPort s _, fun hk => ?_, fun hk => ?_⟩
  · obtain ⟨after, cleared⟩ := TagEffect.keeps_after hk s.port.tag a
    rw [State.reply_replyFlag, cleared, after]
    exact ⟨rfl, rfl⟩
  · obtain ⟨after, cleared⟩ := TagEffect.clears_after hk s.port.tag ha
    rw [State.reply_replyFlag, after]
    exact ⟨rfl, cleared⟩

theorem State.takeGood_sequenceError {s : State} {k : Kind} (tag : Byte) {p : List Byte}
    (h : s.takeRequest k p = (s.setTag (k.tagEffect.after s.port.tag), .sequenceError)) :
    (s.takeGood k.code tag p).repliesSequenceError (k.code + 0x80#8) tag := by
  rw [State.takeGood_code, h]
  exact State.reply_replies _ _ _ _ .sequenceError _ rfl

theorem State.takeGood_badArgument {s : State} {k : Kind} (tag : Byte) {p : List Byte}
    (h : s.takeRequest k p = badArgument (s.setTag (k.tagEffect.after s.port.tag))) :
    (s.takeGood k.code tag p).repliesBadArgument (k.code + 0x80#8) tag := by
  rw [State.takeGood_code, h]
  exact State.reply_repliesBadArgument _ _ _ _

/-! ## A payload of the wrong length (R172, step 4) -/

theorem State.takeRequest_outOfSequence {s : State} {k : Kind} {p : List Byte}
    (hs : k.takenIn.includes s.op.state = true) (ht : k.tagEffect.outOfSequence s.port.tag = true) :
    s.takeRequest k p = (s.setTag (k.tagEffect.after s.port.tag), .sequenceError) := by
  simp [State.takeRequest, hs, ht]

theorem State.takeRequest_wrongLength {s : State} {k : Kind} {p : List Byte} (hs : k.takenIn.includes s.op.state = true)
    (ht : k.tagEffect.outOfSequence s.port.tag = false) (hl : p.length ≠ k.length) :
    s.takeRequest k p = badArgument (s.setTag (k.tagEffect.after s.port.tag)) := by
  simp [State.takeRequest, hs, ht, hl]

/-! ## Action codes (R33, R39, R95, R147, R177) -/

/-- A byte outside its range is none of the range's values. -/
theorem ne_of_not_byteIn {lo hi : Nat} {b : Byte} (h : ¬ byteIn lo hi b) {v : Byte} (hv : byteIn lo hi v) : b ≠ v :=
  fun e => h (e ▸ hv)

theorem State.takeDoor_badAction (s : State) (door : Byte) {c : Byte} (h : ¬ byteIn 1 2 c) :
    s.takeDoor door c = badArgument s :=
  withField_bad fun _ _ => by
    rw [if_neg (ne_of_not_byteIn h (by decide)), if_neg (ne_of_not_byteIn h (by decide))]

theorem State.takeAux_badAction (s : State) {c : Byte} (h : ¬ byteIn 1 2 c) : s.takeAux c = badArgument s := by
  rw [State.takeAux, if_neg (ne_of_not_byteIn h (by decide)), if_neg (ne_of_not_byteIn h (by decide))]

theorem State.takeNodeRetry_badAction (s : State) (address : Byte) {c : Byte} (h : ¬ byteIn 1 2 c) :
    s.takeNodeRetry address c = badArgument s := by
  have unknown : retryField c = none := by
    rw [retryField, if_neg (ne_of_not_byteIn h (by decide)), if_neg (ne_of_not_byteIn h (by decide))]
  exact withField_bad fun _ _ => withField_none _ unknown

theorem State.purgeAt_badAction (s : State) (src : Source) (z : Zone) {c : Byte} (h : ¬ byteIn 1 2 c) :
    s.purgeAt c src z = badArgument s := by
  rw [State.purgeAt, if_neg (ne_of_not_byteIn h (by decide)), if_neg (ne_of_not_byteIn h (by decide))]

theorem rangeAction_bad {c : Byte} (h : ¬ byteIn 1 4 c) (w : Word) : rangeAction c w = none := by
  rw [rangeAction, if_neg (ne_of_not_byteIn h (by decide)), if_neg (ne_of_not_byteIn h (by decide)),
    if_neg (ne_of_not_byteIn h (by decide)), if_neg (ne_of_not_byteIn h (by decide))]

theorem byteOf_number (z : Zone) : (byteOf z.number).toNat = z.number := by
  have := z.isLt
  simp [byteOf, Zone.number]
  omega

/-- A payload of the kind's length with an action code that the kind does not have, once the checks before it pass. -/
def State.badAction (s : State) (k : Kind) (c : Byte) (q : List Byte) : Prop :=
  (k ∈ [Kind.door, .nodeRetry] ∧ ¬ byteIn 1 2 c ∧ ∃ b, q = [b, c]) ∨
  (k = .aux ∧ ¬ byteIn 1 2 c ∧ q = [c]) ∨
  (k = .purge ∧ ¬ byteIn 1 2 c ∧ ∃ z src, s.zoneOpen z src ∧ q = [byteOf z.number, src.code, c]) ∨
  (k = .rangeApply ∧ ¬ byteIn 1 4 c ∧ (∃ f l, s.port.tag = .closed f l) ∧ ∃ b h l, q = [b, c, h, l])

theorem State.takeRequest_badAction {s : State} {k : Kind} {c : Byte} {q : List Byte} (hr : s.op.state = .run)
    (h : s.badAction k c q) : s.takeRequest k q = badArgument s.untagged ∧ q.length ≤ 60 ∧
      ¬ (k.tagEffect = .keeps ∨ k.tagEffect = .closes) ∧ k.tagEffect.after s.port.tag = .none := by
  rcases h with ⟨hk, hc, b, rfl⟩ | ⟨rfl, hc, rfl⟩ | ⟨rfl, hc, z, src, ho, rfl⟩ | ⟨rfl, hc, ⟨f, l, ht⟩, b, h, l', rfl⟩
  · simp only [List.mem_cons, List.not_mem_nil, or_false] at hk
    rcases hk with rfl | rfl
    · exact ⟨(s.takeRequest_owner .door _ (by rw [hr]; rfl) rfl rfl).trans (s.untagged.takeDoor_badAction b hc),
        by simp, by decide, rfl⟩
    · exact ⟨(s.takeRequest_owner .nodeRetry _ (by rw [hr]; rfl) rfl rfl).trans
        (s.untagged.takeNodeRetry_badAction b hc), by simp, by decide, rfl⟩
  · exact ⟨(s.takeRequest_owner .aux _ (by rw [hr]; rfl) rfl rfl).trans (s.untagged.takeAux_badAction hc),
      by simp, by decide, rfl⟩
  · have owner := State.zoneRequest_open (State.purge_owner _ _ (byteOf z.number) src.code c) rfl (byteOf_number z) ho
    exact ⟨(s.takeRequest_owner .purge _ (by rw [hr]; rfl) rfl rfl).trans
      (owner.trans (s.untagged.purgeAt_badAction src z hc)), by simp, by decide, rfl⟩
  · have owner := s.takeRequest_owner .rangeApply [b, c, h, l'] (by rw [hr]; rfl) (by rw [ht]; rfl) rfl
    rw [ht] at owner
    exact ⟨owner.trans (withField_bad fun _ _ => withField_none _ (rangeAction_bad hc _)), by simp, by decide, rfl⟩

/-! ## The obligation -/

/-- Settles O9: the frame reaches the port whole, and each check that fails leaves the request's answer and the tag. -/
theorem unknownKindAndWrongLengthAnswered : Obligations.UnknownKindAndWrongLengthAnswered := by
  intro s tag p hf hrx hti hp
  refine ⟨fun kind hk => ?_, fun k lost hs hl hlost => ?_, fun hr k c q hq => ?_⟩
  · refine ⟨_, State.frameReceived_request kind tag p hf hp hrx hti, ?_⟩
    have unknown : s.takeGood kind tag p =
        s.reply (if kind.msb then 0xFF#8 else kind + 0x80#8) tag false .unknownKind := by
      rw [State.takeGood, requestKind_unknown hk]
    rw [unknown]
    exact ⟨State.reply_replies _ _ _ _ .unknownKind _ rfl, OnlyPort.setPort s _, rfl⟩
  · refine ⟨_, State.frameReceived_request k.code tag p hf hp hrx hti, ?_⟩
    rw [Kind.keepsTag_iff]
    rw [← Kind.outOfSequence_iff] at hlost
    by_cases h : k.tagEffect.outOfSequence s.port.tag = true
    · have taken := State.takeRequest_outOfSequence (p := p) hs h
      have only := State.takeGood_tagOnly tag rfl taken
      exact ⟨only.side, fun _ => State.takeGood_sequenceError tag taken, fun n => absurd (hlost.2 h) n, only.kept,
        only.cleared⟩
    · have taken := State.takeRequest_wrongLength hs (Bool.eq_false_iff.2 h) hl
      have only := State.takeGood_tagOnly tag rfl taken
      exact ⟨only.side, fun y => absurd (hlost.1 y) h, fun _ => State.takeGood_badArgument tag taken, only.kept,
        only.cleared⟩
  · obtain ⟨taken, hlen, clears, after⟩ := State.takeRequest_badAction hr hq
    have taken' : s.takeRequest k q = badArgument (s.setTag (k.tagEffect.after s.port.tag)) := by
      rw [after]
      exact taken
    have only := State.takeGood_tagOnly tag rfl taken'
    obtain ⟨port, flag⟩ := only.cleared clears
    refine ⟨_, State.frameReceived_request k.code tag q hf hlen hrx hti, State.takeGood_badArgument tag taken', ?_,
      flag⟩
    rw [OnlyAnswered, ← port, State.takeGood_code, taken]
    rfl

end Sys2Proof.Machine
end

section
/-! SETTLES O12. NODE_DEF and DOOR_DEF (R126, R31, R154). -/
namespace Sys2Proof.Machine

/-! ## The fields -/

theorem kindOfByte_code (k : NodeKind) : kindOfByte (byteOf k.code) = some k := by cases k <;> rfl

theorem NodeKind.exists_code {i : Nat} (h : 1 ≤ i ∧ i ≤ 6) : ∃ k : NodeKind, k.code = i := by
  match i, h with
  | 1, _ => exact ⟨.sensor, rfl⟩
  | 2, _ => exact ⟨.blower, rfl⟩
  | 3, _ => exact ⟨.damper, rfl⟩
  | 4, _ => exact ⟨.valve, rfl⟩
  | 5, _ => exact ⟨.compressor, rfl⟩
  | 6, _ => exact ⟨.auxheat, rfl⟩

theorem kindOfByte_ok {b : Byte} (h : byteIn 1 6 b) : ∃ k : NodeKind, kindOfByte b = some k ∧ k.code = b.toNat := by
  obtain ⟨k, code⟩ := NodeKind.exists_code h
  have byte : byteOf k.code = b := by simp [byteOf, code]
  exact ⟨k, byte ▸ kindOfByte_code k, code⟩

theorem kindOfByte_bad {b : Byte} (h : ¬ byteIn 1 6 b) : kindOfByte b = none := by
  rw [kindOfByte, if_neg (ne_of_not_byteIn h (by decide)), if_neg (ne_of_not_byteIn h (by decide)),
    if_neg (ne_of_not_byteIn h (by decide)), if_neg (ne_of_not_byteIn h (by decide)),
    if_neg (ne_of_not_byteIn h (by decide)), if_neg (ne_of_not_byteIn h (by decide))]

theorem doorOfNat_bad {k : Nat} (h : k = 0 ∨ 4 < k) : doorOfNat k = none := by
  unfold doorOfNat
  rw [dif_neg (by omega)]

/-! ## NODE_DEF (R126) -/

/-- R126, R133: what an accepted NODE_DEF leaves. -/
theorem State.defineNode_eq (s : State) (n : NodeId) (c : Bool) (k : Option NodeKind) :
    s.defineNode n c k =
      { s with
        nodes := { s.nodes with
          table := (s.defineNode n c k).nodes.table, queue := s.nodes.queue.filter (fun e => e.node ≠ some n) }
        op := { s.op with configChanged := true } } := by
  have queue : s.nodes.queue.filter (fun e => !(decide (e.node = some n) && true)) =
      s.nodes.queue.filter (fun e => e.node ≠ some n) := by simp
  rw [← queue]
  rfl

theorem State.defineNode_node (s : State) (n m : NodeId) (c : Bool) (k : Option NodeKind) :
    (s.defineNode n c k).node m = if m = n then { NodeRec.reset with configured := c, kind := k } else s.node m :=
  State.node_setNode s n m _

/-- R126, R154: an accepted NODE_DEF. -/
theorem State.nodeDef_accepted {s : State} (tag : Byte) {p : List Byte} {n : NodeId} {c : Bool} {k : Option NodeKind}
    (hf : s.portFree) (hc : s.takesConfiguration) (hl : p.length = 3)
    (ho : s.untagged.ownerTakes .nodeDef s.port.tag p = accept (s.untagged.defineNode n c k)) :
    ∃ t, s.answer (·.hostRequest .nodeDef tag p) = .next t ∧ t.repliesOk 0x82#8 tag [] ∧
      t.node n = { NodeRec.reset with configured := c, kind := k } ∧ (∀ m, m ≠ n → t.node m = s.node m) ∧
      t.nodes.queue = s.nodes.queue.filter (fun e => e.node ≠ some n) ∧
      t = { s with
        nodes := { s.nodes with table := t.nodes.table, queue := t.nodes.queue }
        op := { s.op with configChanged := true }, port := answeredPort s t } := by
  have eq := State.defineNode_eq s.untagged n c k
  have node := State.defineNode_node s.untagged n
  obtain ⟨t, he, hok, ht, hp⟩ := State.clears_accepted s _ .nodeDef tag p hf rfl
    (State.takesConfiguration_includes .nodeDef hc rfl) hl ho (by rw [eq]; rfl)
  have hn : ∀ m, t.node m = (s.untagged.defineNode n c k).node m := fun m => by rw [ht]; rfl
  refine ⟨t, he, hok, ?_, fun m hm => ?_, ?_, ?_⟩
  · rw [hn, node, if_pos rfl]
  · rw [hn, node, if_neg hm]; rfl
  · rw [ht, eq]; rfl
  · rw [← hp]
    generalize s.untagged.defineNode n c k = v at eq ht
    have table : t.nodes.table = v.nodes.table := congrArg (·.nodes.table) ht
    have queue : t.nodes.queue = s.nodes.queue.filter (fun e => e.node ≠ some n) := by rw [ht, eq]; rfl
    rw [table, queue]
    exact ht.trans (congrArg (State.setPort · t.port) eq)

/-- R126: a field of NODE_DEF out of range; the kind is looked at in a configured node's definition alone. -/
theorem State.takeNodeDef_bad (s : State) {address configured kind : Byte}
    (h : ¬ byteIn 1 31 address ∨ ¬ byteIn 0 1 configured ∨ (configured = 1#8 ∧ ¬ byteIn 1 6 kind)) :
    s.takeNodeDef address configured kind = badArgument s := by
  rcases h with h | h | ⟨rfl, h⟩
  · exact withField_none _ (nodeOfNat_bad (by unfold byteIn at h; omega))
  · exact withField_bad fun _ _ => withField_none _ (flagField_bad h)
  · refine withField_bad fun _ _ => withField_bad fun c hc => ?_
    obtain rfl : true = c := Option.some.inj hc
    exact withField_none _ (kindOfByte_bad h)

theorem State.takeNodeDef_configured (s : State) {address kind : Byte} {n : NodeId} {k : NodeKind}
    (ha : address.toNat = n.address) (hk : kindOfByte kind = some k) :
    s.takeNodeDef address 1#8 kind = accept (s.defineNode n true (some k)) := by
  rw [State.takeNodeDef, ha, nodeOfNat_address]
  show withField s (kindOfByte kind) _ = _
  rw [hk]
  rfl

theorem State.takeNodeDef_unconfigured (s : State) {address : Byte} (kind : Byte) {n : NodeId}
    (ha : address.toNat = n.address) : s.takeNodeDef address 0#8 kind = accept (s.defineNode n false none) := by
  rw [State.takeNodeDef, ha, nodeOfNat_address]
  rfl

/-! ## DOOR_DEF (R31) -/

/-- R31, R154: what an accepted DOOR_DEF leaves. -/
def State.defineDoor (s : State) (d : Door) (zones : BitVec 24) : State :=
  { s with zones := { s.zones with doorMap := s.zones.doorMap.set d.val zones d.isLt } }.configChange

theorem State.defineDoor_map (s : State) (d e : Door) (zones : BitVec 24) :
    (s.defineDoor d zones).zones.doorMap[e] = if e = d then zones else s.zones.doorMap[e] := by
  show (s.zones.doorMap.set d.val zones d.isLt)[e] = _
  by_cases h : e = d
  · subst h; simp
  · have h' : d.val ≠ e.val := fun x => h (Fin.ext x.symm)
    simp [h, h']

theorem State.doorDef_owner (s : State) (found : RangeTag) (door : Byte) (zones : BitVec 24) :
    s.ownerTakes .doorDef found (door :: zoneSetBytes zones) = s.takeDoorDef door zones := by
  obtain ⟨a, b, c, bytes, join⟩ := joinZoneSet_split zones
  rw [bytes, ← join]
  rfl

theorem State.takeDoorDef_ok (s : State) {door : Byte} {d : Door} (zones : BitVec 24) (h : door.toNat = d.number) :
    s.takeDoorDef door zones = accept (s.defineDoor d zones) := by
  rw [State.takeDoorDef, h, doorOfNat_number]
  rfl

/-- Settles O12: the record and the queue of an accepted NODE_DEF, and the map of an accepted DOOR_DEF. -/
theorem nodeAndDoorDefinitions : Obligations.NodeAndDoorDefinitions := by
  refine ⟨fun s tag address configured kind hf hc => ⟨fun n ha hr => ?_, fun h => ?_⟩,
    fun s tag door zones hf hc => ⟨fun d hd => ?_, fun h => ?_⟩⟩
  · rcases hr with ⟨rfl, hk⟩ | rfl
    · obtain ⟨k, some, code⟩ := kindOfByte_ok hk
      obtain ⟨t, he, hok, rec, others, queue, eq⟩ := State.nodeDef_accepted tag hf hc (p := [address, 1#8, kind]) rfl
        (s.untagged.takeNodeDef_configured ha some)
      refine ⟨t, he, hok, ?_, fun _ => ?_, nofun, others, queue, eq⟩
      · rw [rec]
      · rw [rec]; exact ⟨rfl, code⟩
    · obtain ⟨t, he, hok, rec, others, queue, eq⟩ := State.nodeDef_accepted tag hf hc (p := [address, 0#8, kind]) rfl
        (s.untagged.takeNodeDef_unconfigured kind ha)
      refine ⟨t, he, hok, ?_, nofun, fun _ => ?_, others, queue, eq⟩
      · rw [rec]
      · rw [rec]; exact ⟨rfl, rfl⟩
  · exact State.clears_badArgument s .nodeDef tag [address, configured, kind] hf rfl
      (State.takesConfiguration_includes .nodeDef hc rfl) rfl (s.untagged.takeNodeDef_bad h)
  · obtain ⟨t, he, hok, ht, hp⟩ := State.clears_accepted s (s.untagged.defineDoor d zones) .doorDef tag
      (door :: zoneSetBytes zones) hf rfl (State.takesConfiguration_includes .doorDef hc rfl) rfl
      ((State.doorDef_owner _ _ door zones).trans (s.untagged.takeDoorDef_ok zones hd)) rfl
    have map (e : Door) : t.zones.doorMap[e] = if e = d then zones else s.zones.doorMap[e] := by
      rw [ht]; exact s.untagged.defineDoor_map d e zones
    refine ⟨t, he, hok, by rw [map, if_pos rfl], fun e hne => by rw [map, if_neg hne], ?_⟩
    rw [← hp]
    have doors : t.zones.doorMap = (s.untagged.defineDoor d zones).zones.doorMap := by rw [ht]; rfl
    rw [doors]
    exact ht
  · exact State.clears_badArgument s .doorDef tag (door :: zoneSetBytes zones) hf rfl
      (State.takesConfiguration_includes .doorDef hc rfl) rfl ((State.doorDef_owner _ _ door zones).trans
        (withField_none _ (doorOfNat_bad (by unfold byteIn at h; omega))))

end Sys2Proof.Machine
end

section
/-! SETTLES O20. DEFOG and PURGE by request (R43, R39, R29, R107). -/
namespace Sys2Proof.Machine

/-! ## Starting and ending an override (R27, R28) -/

theorem State.startOverride_stands {s : State} {z : Zone} {k : EntryKind} (c : Option PurgeCause)
    (h : (s.zone z).hasEntry k = true) : s.startOverride z k c = s := if_pos h

/-- R27: the start of an override of an active zone in RUN, where no entry stands. -/
theorem State.startOverride_changed {s : State} {z : Zone} {k : EntryKind} (c : Option PurgeCause)
    (h1 : s.op.state = .run) (h2 : (s.zone z).active = true) (h3 : (s.zone z).hasEntry k = false) :
    ModeChanged s z ((s.zone z).pushEntry k c s.now) (s.startOverride z k c) := by
  rw [State.startOverride, if_neg (by simp [h3])]
  exact State.changeMode_changed s z (fun r => r.pushEntry k c s.now) h1 h2

theorem State.endOverride_absent {s : State} {z : Zone} {k : EntryKind} (h : (s.zone z).hasEntry k = false) :
    s.endOverride z k = s := if_neg (by simp [h])

/-- R43: a DEFOG of one minute or more, where an entry stands. -/
theorem State.defogFor_stands {s : State} {z : Zone} (minutes : Nat) (h : (s.zone z).hasEntry .defog = true) :
    s.defogFor z minutes = s.setZone z { s.zone z with defogTimer := some (s.now + minutes * Config.minute) } :=
  if_pos h

/-- R43: a DEFOG of one minute or more of an active zone in RUN, where no entry stands. -/
theorem State.defogFor_changed {s : State} {z : Zone} (minutes : Nat) (h1 : s.op.state = .run)
    (h2 : (s.zone z).active = true) (h3 : (s.zone z).hasEntry .defog = false) :
    ModeChanged s z
      { (s.zone z).pushEntry .defog none s.now with defogTimer := some (s.now + minutes * Config.minute) }
      (s.defogFor z minutes) := by
  rw [State.defogFor, if_neg (by simp [h3])]
  exact State.changeMode_changed s z (fun r =>
    { r.pushEntry .defog none s.now with defogTimer := some (s.now + minutes * Config.minute) }) h1 h2

/-! ## An override is no matter of the port's -/

theorem State.changeMode_port (s : State) (z : Zone) (f : ZoneRec → ZoneRec) : (s.changeMode z f).port = s.port :=
  (DemandSide.changeMode s z f).port

theorem State.startOverride_port (s : State) (z : Zone) (k : EntryKind) (c : Option PurgeCause) :
    (s.startOverride z k c).port = s.port := by
  unfold State.startOverride
  split
  · rfl
  · exact State.changeMode_port s z _

theorem State.endOverride_port (s : State) (z : Zone) (k : EntryKind) : (s.endOverride z k).port = s.port := by
  unfold State.endOverride
  split
  · exact State.changeMode_port s z _
  · rfl

theorem State.defogFor_port (s : State) (z : Zone) (minutes : Nat) : (s.defogFor z minutes).port = s.port := by
  unfold State.defogFor
  dsimp only
  split
  · rfl
  · exact State.changeMode_port s z _

/-! ## The owner's part -/

theorem State.defogAt_end (s : State) (src : Source) (z : Zone) :
    s.defogAt 0#8 src z = accept (s.endOverride z .defog) := rfl

theorem State.defogAt_start (s : State) (src : Source) (z : Zone) {d : Byte} (h : byteIn 0 30 d) (hd : d ≠ 0#8) :
    s.defogAt d src z = accept (s.defogFor z d.toNat) := by
  have pos : d.toNat ≠ 0 := fun e => hd (BitVec.eq_of_toNat_eq e)
  simp [State.defogAt, rangeByte_ok h, withField, pos]

/-! ## The obligation -/

/-- Settles O20: what each request does where its entry stands and where it does not. -/
theorem overridesByRequest : Obligations.OverridesByRequest := by
  intro s tag zone source src z hs hz ho
  have ⟨hf, hr, ha, _⟩ := ho
  have defog (d : Byte) := State.zoneRequest_open (State.defog_owner s.untagged s.port.tag zone source d) hs hz ho
  have purge (c : Byte) := State.zoneRequest_open (State.purge_owner s.untagged s.port.tag zone source c) hs hz ho
  refine ⟨fun d hd => ?_, ?_, ?_⟩
  · by_cases zero : d = 0#8
    · subst zero
      obtain ⟨t, he, hok, hrep⟩ := State.zoneRequest_accepted tag hf hr Kind.forZone_defog rfl
        ((defog 0#8).trans (State.defogAt_end _ src z)) (State.endOverride_port _ z .defog)
      refine ⟨t, _, he, hok, hrep, fun _ h => State.endOverride_absent (s := s.untagged) h, fun _ h => ?_,
        fun n => absurd rfl n, fun n => absurd rfl n⟩
      rw [← ZoneRec.dropEntry_defog]
      exact State.endOverride_changed (s := s.untagged) hr ha h
    · obtain ⟨t, he, hok, hrep⟩ := State.zoneRequest_accepted tag hf hr Kind.forZone_defog rfl
        ((defog d).trans (State.defogAt_start _ src z hd zero)) (State.defogFor_port _ z d.toNat)
      exact ⟨t, _, he, hok, hrep, fun e => absurd e zero, fun e => absurd e zero,
        fun _ h => State.defogFor_stands (s := s.untagged) d.toNat h,
        fun _ h => State.defogFor_changed (s := s.untagged) d.toNat hr ha h⟩
  · obtain ⟨t, he, hok, hrep⟩ := State.zoneRequest_accepted tag hf hr Kind.forZone_purge rfl
      ((purge 1#8).trans rfl) (State.startOverride_port _ z .purge (some .host))
    exact ⟨t, _, he, hok, hrep, State.startOverride_stands (s := s.untagged) _,
      State.startOverride_changed (s := s.untagged) _ hr ha⟩
  · obtain ⟨t, he, hok, hrep⟩ := State.zoneRequest_accepted tag hf hr Kind.forZone_purge rfl
      ((purge 2#8).trans rfl) (State.endOverride_port _ z .purge)
    refine ⟨t, _, he, hok, hrep, State.endOverride_absent (s := s.untagged), fun h => ?_⟩
    rw [← ZoneRec.dropEntry_purge]
    exact State.endOverride_changed (s := s.untagged) hr ha h

end Sys2Proof.Machine
end

section
/-! SUPPORT for O25. What a zone's record, its evaluation under CURTAIN and the notice of a change of mode are, where only
the zone table, the plant and the port differ (R11, R29, R107). -/
namespace Sys2Proof.Machine

/-! ## Blocks that an operation does not read back -/

/-- What a request to the node manager can change is the same with other zones and another plant. -/
theorem NodeSide.withBlocks {s t : State} (h : NodeSide s t) (zs : ZoneBlock) (p : Plant) :
    NodeSide { s with zones := zs, plant := p } { t with zones := zs, plant := p } :=
  ⟨h.now, h.held, h.shedLine, h.key, rfl, h.arb, rfl, h.cond, h.port, h.pending, h.op, h.tuning, h.pollTick, h.recs,
    h.still⟩

theorem NodeSide.withPort {s t : State} (h : NodeSide s t) (q : Port) :
    NodeSide { s with port := q } (t.setPort q) :=
  ⟨h.now, h.held, h.shedLine, h.key, h.zones, h.arb, h.plant, h.cond, rfl, h.pending, h.op, h.tuning, h.pollTick, h.recs,
    h.still⟩

/-- What an evaluation can change is the same with another zone table. -/
theorem DemandSide.withTable {s t : State} (h : DemandSide s t) (table : Vector ZoneRec 24) :
    DemandSide { s with zones := { s.zones with table := table } } { t with zones := { t.zones with table := table } } :=
  ⟨h.now, h.held, h.shedLine, h.key, h.zoneTuning, h.doorMap, fun _ => rfl, h.saturationTime, h.plant, h.cond, h.port,
    h.pending, h.op, h.tuning, h.pollTick, h.recs, h.still⟩

theorem DemandSide.withPort {s t : State} (h : DemandSide s t) (q : Port) :
    DemandSide { s with port := q } (t.setPort q) :=
  ⟨h.now, h.held, h.shedLine, h.key, h.zoneTuning, h.doorMap, h.zone, h.saturationTime, h.plant, h.cond, rfl,
    h.pending, h.op, h.tuning, h.pollTick, h.recs, h.still⟩

/-! ## CURTAIN (R11, R29) -/

theorem BaseMode.eff_ne_curtain (m : BaseMode) : m.eff ≠ .curtain := by cases m <;> decide

theorem ZoneRec.hasEntry_of_curtain {r : ZoneRec} (h : r.effMode = .curtain) : r.hasEntry .curtain = true := by
  unfold ZoneRec.effMode at h
  unfold ZoneRec.hasEntry
  cases stack : r.stack with
  | nil =>
    rw [stack] at h
    exact absurd h r.baseMode.eff_ne_curtain
  | cons e es =>
    rw [stack] at h
    obtain ⟨kind, cause, start⟩ := e
    cases kind with
    | curtain => simp
    | base => exact absurd h r.baseMode.eff_ne_curtain
    | purge => exact nomatch (h : EffMode.purge = .curtain)
    | defog => exact nomatch (h : EffMode.defog = .curtain)

/-- R28: without an entry of the kind nothing leaves the stack. -/
theorem ZoneRec.filter_of_not_hasEntry {r : ZoneRec} {k : EntryKind} (h : r.hasEntry k = false) :
    r.stack.filter (fun e => e.kind ≠ k) = r.stack := by
  simpa [ZoneRec.hasEntry, List.filter_eq_self] using h

/-- R11: under CURTAIN an evaluation is the target computation alone, which outside RUN and for an inactive zone is
nothing (R24, R5). -/
theorem State.evaluate_curtain {s : State} {z : Zone} (h : (s.zone z).effMode = .curtain) :
    s.evaluate z = s.zoneTargets z := by
  unfold State.evaluate
  dsimp only
  rw [if_pos h]
  split
  · rfl
  · exact (if_neg ‹_›).symm

theorem State.zoneTargets_evaluated {s : State} {z : Zone} (h : (s.zone z).effMode = .curtain) :
    Evaluated s z (s.zoneTargets z) := by
  have side := NodeSide.zoneTargets s z
  exact ⟨(if_pos h).symm, DemandSide.ofNode side, by rw [if_pos h, State.zone_congr side.zones],
    fun y _ => State.zone_congr side.zones y, by rw [if_pos h, side.arb]⟩

/-- R11: an evaluation writes no other zone's record. -/
theorem State.evaluate_others (s : State) {z y : Zone} (hy : y ≠ z) : (s.evaluate z).zone y = s.zone y := by
  by_cases h : s.op.state = .run ∧ (s.zone z).active = true
  · exact (State.evaluate_evaluated s z h.1 h.2).others y hy
  · exact congrArg (State.zone · y) (if_neg h)

/-- R29: a change of a zone's stack writes no other zone's record. -/
theorem State.changeMode_others (s : State) {z y : Zone} (f : ZoneRec → ZoneRec) (hy : y ≠ z) :
    (s.changeMode z f).zone y = s.zone y := by
  have stack : (s.changeStack z f).zone y = s.zone y := by
    unfold State.changeStack
    rw [State.zone_congr (PlantSide.modeNotice (s.modZone z f) _ _).zones, State.zone_modZone, if_neg hy]
  unfold State.changeMode
  split
  · exact stack
  · rw [State.evaluate_others _ hy, stack]

/-- R29: a change of the effective mode over a record that has just been written. -/
theorem State.changeMode_setZone {s : State} {z : Zone} {r : ZoneRec} (f : ZoneRec → ZoneRec)
    (hr : r.effMode = (s.zone z).effMode) (hf : (f r).effMode ≠ (s.zone z).effMode) :
    (s.setZone z r).changeMode z f =
      ((s.setZone z (f r)).modeNotice (s.zone z).effMode (f r).effMode).evaluate z := by
  unfold State.changeMode State.changeStack State.modZone
  simp only [State.zone_setZone, if_true, State.setZone_setZone, hr]
  exact if_neg hf.symm

/-! ## The notice of a change to CURTAIN (R29, R107) -/

/-- R107: the plant controller's record when k zones have stopped being in PURGE in RUN. -/
def Plant.purgesEnded (p : Plant) (k : Nat) : Plant :=
  { p with
    purgeCount := p.purgeCount - k
    intakeTarget := if k = 0 then p.intakeTarget else some (if 1 ≤ p.purgeCount - k then 100 else p.minFreshAir) }

@[simp] theorem Plant.purgesEnded_zero (p : Plant) : p.purgesEnded 0 = p := rfl

theorem Plant.purgesEnded_purgesEnded (p : Plant) (j k : Nat) :
    (p.purgesEnded j).purgesEnded k = p.purgesEnded (j + k) := by
  unfold Plant.purgesEnded
  by_cases hk : k = 0
  · simp [hk]
  · simp [hk, Nat.sub_sub]

/-- R107: a zone that stops being in PURGE is told; the MOVE that follows is the node manager's. -/
theorem State.modeNotice_curtain (s : State) (m : EffMode) :
    (s.modeNotice m .curtain).plant = s.plant.purgesEnded (if m = .purge then 1 else 0) ∧
    NodeSide { s with plant := (s.modeNotice m .curtain).plant } (s.modeNotice m .curtain) := by
  by_cases h : m = .purge
  · subst h
    have side := NodeSide.intakeCompare (s.setPlant (s.plant.purgesEnded 1))
    have told : s.modeNotice .purge .curtain = (s.setPlant (s.plant.purgesEnded 1)).intakeCompare := rfl
    rw [told, side.plant]
    exact ⟨rfl, side⟩
  · have same : s.modeNotice m .curtain = s := by simp [State.modeNotice, h]
    rw [same, if_neg h]
    exact ⟨rfl, NodeSide.refl s⟩

end Sys2Proof.Machine
end

section
/-! SUPPORT for O25. DOOR OPEN, zone by zone (R34). -/
namespace Sys2Proof.Machine

/-! ## One zone -/

/-- R34: the door joins the zone's open-door set. -/
def ZoneRec.joinDoor (r : ZoneRec) (d : Door) : ZoneRec := { r with openDoors := r.openDoors ||| BitVec.twoPow 4 d.val }

/-- R34: a CURTAIN entry is pushed and its timer starts. -/
def State.pushCurtain (s : State) (r : ZoneRec) : ZoneRec :=
  { r.pushEntry .curtain none s.now with
    curtainTimer := some (s.now + s.zones.tuning.curtainLimit * Config.second) }

/-- R34: the record of a zone in which a CURTAIN starts. -/
def State.curtained (s : State) (d : Door) (z : Zone) : ZoneRec :=
  { s.zone z with
    openDoors := BitVec.twoPow 4 d.val
    stack := ⟨.curtain, none, s.now⟩ :: (s.zone z).stack
    curtainTimer := some (s.now + s.zones.tuning.curtainLimit * Config.second) }

/-- R34: a zone's record after the door has opened. -/
def openedDoor (s : State) (d : Door) (z : Zone) : ZoneRec :=
  if (s.zone z).openDoors.getLsbD d.val = false then
    if s.curtainStarts z then s.curtained d z else (s.zone z).joinDoor d
  else s.zone z

/-- R34, R107: a CURTAIN starts in a zone whose effective mode is PURGE. -/
def State.curtainEndsPurge (s : State) (z : Zone) : Bool :=
  s.curtainStarts z && decide ((s.zone z).effMode = .purge)

theorem State.curtainStarts_of_open {s : State} {d : Door} {z : Zone} (h : (s.zone z).openDoors.getLsbD d.val = true) :
    s.curtainStarts z = false := by
  have : (s.zone z).openDoors ≠ 0#4 := fun e => by simp [e] at h
  simp [State.curtainStarts, this]

theorem State.doorOpened_open {s : State} {d : Door} {z : Zone} (h : (s.zone z).openDoors.getLsbD d.val = true) :
    s.doorOpened d z = s := if_pos h

theorem State.doorOpened_joins {s : State} {d : Door} {z : Zone} (h : (s.zone z).openDoors.getLsbD d.val = false)
    (hc : s.curtainStarts z = false) : s.doorOpened d z = s.setZone z ((s.zone z).joinDoor d) := by
  unfold State.doorOpened
  simp only [h, Bool.false_eq_true, if_false]
  split
  · rw [if_pos (by simpa [State.curtainStarts, ‹(s.zone z).openDoors = 0#4›] using hc)]
    rfl
  · rfl

theorem State.effMode_of_curtainStarts {s : State} {z : Zone} (h : s.curtainStarts z = true) :
    (s.zone z).effMode ≠ .curtain := fun e => by simp [State.curtainStarts, ZoneRec.hasEntry_of_curtain e] at h

/-- R29: the effective mode is CURTAIN as the plant controller has been told of it. -/
theorem State.curtained_told (s : State) (d : Door) (z : Zone) :
    (((s.setZone z (s.curtained d z)).modeNotice (s.zone z).effMode .curtain).zone z).effMode = .curtain := by
  rw [State.zone_congr (PlantSide.modeNotice _ _ _).zones, State.zone_setZone, if_pos rfl]
  rfl

/-- R34, R29: where a CURTAIN starts, the plant controller is told of the mode, and the zone computes its targets. -/
theorem State.doorOpened_starts {s : State} {d : Door} {z : Zone} (h : (s.zone z).openDoors.getLsbD d.val = false)
    (hc : s.curtainStarts z = true) : s.doorOpened d z =
      ((s.setZone z (s.curtained d z)).modeNotice (s.zone z).effMode .curtain).zoneTargets z := by
  obtain ⟨empty, absent⟩ : (s.zone z).openDoors = 0#4 ∧ (s.zone z).hasEntry .curtain = false := by
    simpa [State.curtainStarts] using hc
  rw [← State.evaluate_curtain (State.curtained_told s d z)]
  have opened : s.doorOpened d z = (s.setZone z ((s.zone z).joinDoor d)).changeMode z s.pushCurtain := by
    unfold State.doorOpened
    dsimp only
    rw [h, if_neg Bool.false_ne_true, if_pos empty, absent, if_neg Bool.false_ne_true]
    rfl
  have record : s.pushCurtain ((s.zone z).joinDoor d) = s.curtained d z := by
    simp [State.pushCurtain, ZoneRec.joinDoor, State.curtained, ZoneRec.pushEntry, empty]
  rw [opened, State.changeMode_setZone (r := (s.zone z).joinDoor d) s.pushCurtain rfl
    (Ne.symm (State.effMode_of_curtainStarts hc)), record]
  rfl

theorem openedDoor_congr {s u : State} (d : Door) {z : Zone} (hz : u.zone z = s.zone z) (hn : u.now = s.now)
    (ht : u.zones.tuning = s.zones.tuning) : openedDoor u d z = openedDoor s d z := by
  have starts : u.curtainStarts z = s.curtainStarts z := by simp only [State.curtainStarts, hz]
  have record : u.curtained d z = s.curtained d z := by simp only [State.curtained, hz, hn, ht]
  rw [openedDoor, hz, starts, record]
  rfl

/-- R34: DOOR OPEN in one zone of the door's map: what it does, and all that it changes. -/
structure DoorOpening (s : State) (d : Door) (z : Zone) (t : State) : Prop where
  rule : doorOpenedIn d s z t
  zones : t.zones = (s.setZone z (openedDoor s d z)).zones
  plant : t.plant = s.plant.purgesEnded (if s.curtainEndsPurge z then 1 else 0)
  side : NodeSide { s with zones := t.zones, plant := t.plant } t

/-- A door that is in the set already. -/
theorem DoorOpening.stands {s : State} {d : Door} {z : Zone} (h : (s.zone z).openDoors.getLsbD d.val = true) :
    DoorOpening s d z s := by
  have starts := State.curtainStarts_of_open h
  have record : openedDoor s d z = s.zone z := if_neg (by rw [h]; nofun)
  refine ⟨⟨fun _ => rfl, by rw [h]; nofun, by rw [h]; nofun⟩, ?_, ?_, NodeSide.refl s⟩
  · rw [record, State.setZone_self]
  · simp [State.curtainEndsPurge, starts]

/-- A door that joins the set, where no CURTAIN starts. -/
theorem DoorOpening.joins {s : State} {d : Door} {z : Zone} (h : (s.zone z).openDoors.getLsbD d.val = false)
    (starts : s.curtainStarts z = false) : DoorOpening s d z (s.setZone z ((s.zone z).joinDoor d)) := by
  have record : openedDoor s d z = (s.zone z).joinDoor d := by rw [openedDoor, if_pos h, starts]; rfl
  refine ⟨⟨by rw [h]; nofun, fun _ _ => rfl, by rw [starts]; nofun⟩, ?_, ?_, NodeSide.refl _⟩
  · rw [record]
  · simp [State.curtainEndsPurge, starts]

/-- A door that joins an empty set: a CURTAIN starts, and the plant controller is told before the targets are computed. -/
theorem DoorOpening.starts {s : State} {d : Door} {z : Zone} (hr : s.op.state = .run)
    (h : (s.zone z).openDoors.getLsbD d.val = false) (starts : s.curtainStarts z = true) :
    DoorOpening s d z
      (((s.setZone z (s.curtained d z)).modeNotice (s.zone z).effMode .curtain).zoneTargets z) := by
  have record : openedDoor s d z = s.curtained d z := by rw [openedDoor, if_pos h, starts]; rfl
  obtain ⟨plant, notice⟩ := State.modeNotice_curtain (s.setZone z (s.curtained d z)) (s.zone z).effMode
  have told := State.modeNotice_told (s.setZone z (s.curtained d z)) (s.zone z).effMode .curtain hr
  have curtain := State.curtained_told s d z
  generalize (s.setZone z (s.curtained d z)).modeNotice (s.zone z).effMode .curtain = u at plant notice told curtain ⊢
  have targets := NodeSide.zoneTargets u z
  refine ⟨⟨by rw [h]; nofun, by rw [starts]; nofun, fun _ _ => ⟨u, told, fun e => ?_,
    fun _ => State.zoneTargets_evaluated curtain⟩⟩, ?_, ?_, ?_⟩
  · exact absurd e.symm (State.effMode_of_curtainStarts starts)
  · rw [targets.zones, notice.zones, record]
  · rw [targets.plant, plant]
    simp [State.curtainEndsPurge, starts]
  · rw [targets.zones, targets.plant, notice.zones]
    exact notice.trans targets

theorem State.doorOpened_opening {s : State} (d : Door) (z : Zone) (hr : s.op.state = .run) :
    DoorOpening s d z (s.doorOpened d z) := by
  cases h : (s.zone z).openDoors.getLsbD d.val with
  | true => rw [State.doorOpened_open h]; exact .stands h
  | false =>
    cases starts : s.curtainStarts z with
    | false => rw [State.doorOpened_joins h starts]; exact .joins h starts
    | true => rw [State.doorOpened_starts h starts]; exact .starts hr h starts

/-! ## The zones of the map, in turn -/

/-- R33, R34: DOOR OPEN over different zones, each taken from the state before. -/
structure DoorsOpened (s : State) (d : Door) (zs : List Zone) (t : State) : Prop where
  turn : takenInTurn (doorOpenedIn d) zs s t
  zone : ∀ z, t.zone z = if z ∈ zs then openedDoor s d z else s.zone z
  zones : t.zones = { s.zones with table := t.zones.table }
  plant : t.plant = s.plant.purgesEnded (zs.filter s.curtainEndsPurge).length
  side : NodeSide { s with zones := t.zones, plant := t.plant } t

theorem State.doorsOpened (d : Door) (zs : List Zone) :
    ∀ s : State, s.op.state = .run → zs.Nodup → DoorsOpened s d zs (zs.foldl (fun s z => s.doorOpened d z) s) := by
  induction zs with
  | nil => exact fun s _ _ => ⟨rfl, fun z => rfl, rfl, rfl, NodeSide.refl s⟩
  | cons z zs ih =>
    intro s hr nodup
    obtain ⟨fresh, nodup⟩ := List.nodup_cons.1 nodup
    have first := State.doorOpened_opening d z hr
    rw [List.foldl_cons]
    generalize s.doorOpened d z = u at first ⊢
    have rest := ih u (by rw [first.side.op]; exact hr) nodup
    generalize zs.foldl (fun s z => s.doorOpened d z) u = t at rest ⊢
    have record (y : Zone) : u.zone y = if y = z then openedDoor s d z else s.zone y := by
      rw [State.zone_congr first.zones, State.zone_setZone]
    have later (y : Zone) (hy : y ∈ zs) : u.zone y = s.zone y := by
      rw [record, if_neg fun e : y = z => fresh (e ▸ hy)]
    have tuning : u.zones.tuning = s.zones.tuning := by rw [first.zones]; rfl
    refine ⟨⟨u, first.rule, rest.turn⟩, fun y => ?_, ?_, ?_, ?_⟩
    · rw [rest.zone y]
      by_cases hy : y ∈ zs
      · rw [if_pos hy, if_pos (List.mem_cons_of_mem _ hy)]
        exact openedDoor_congr d (later y hy) first.side.now tuning
      · by_cases e : y = z
        · subst e; simp [hy, record]
        · simp [hy, record, e]
    · rw [rest.zones, first.zones]; rfl
    · have ends : zs.filter u.curtainEndsPurge = zs.filter s.curtainEndsPurge :=
        List.filter_congr fun y hy => by simp only [State.curtainEndsPurge, State.curtainStarts, later y hy]
      rw [rest.plant, first.plant, Plant.purgesEnded_purgesEnded, ends]
      cases h : s.curtainEndsPurge z <;> simp [h, Nat.add_comm]
    · exact (first.side.withBlocks t.zones t.plant).trans rest.side

end Sys2Proof.Machine
end

section
/-! SUPPORT for O25. DOOR CLOSE, zone by zone (R35). -/
namespace Sys2Proof.Machine

/-! ## The end of the CURTAIN entry -/

/-- What a door's closing can change: the zone table, and what an evaluation can change. -/
def ClosingSide (s t : State) : Prop := DemandSide { s with zones := { s.zones with table := t.zones.table } } t

theorem ClosingSide.refl (s : State) : ClosingSide s s := DemandSide.refl s

theorem ClosingSide.trans {s t u : State} (a : ClosingSide s t) (b : ClosingSide t u) : ClosingSide s u :=
  (a.withTable u.zones.table).trans b

theorem ClosingSide.setZone (s : State) (z : Zone) (r : ZoneRec) : ClosingSide s (s.setZone z r) := DemandSide.refl _

theorem ClosingSide.endOverride (s : State) (z : Zone) (k : EntryKind) : ClosingSide s (s.endOverride z k) := by
  unfold State.endOverride
  split
  · exact (DemandSide.changeMode s z fun r => r.dropEntry k).withTable _
  · exact ClosingSide.refl s

theorem State.endOverride_others (s : State) {z y : Zone} (k : EntryKind) (hy : y ≠ z) :
    (s.endOverride z k).zone y = s.zone y := by
  unfold State.endOverride
  split
  · exact State.changeMode_others s _ hy
  · rfl

/-- A zone's record with the demand of another record. -/
def ZoneRec.demandOf (r v : ZoneRec) : ZoneRec :=
  { r with direction := v.direction, want := v.want, claimRank := v.claimRank }

/-- R28: the record without the entry, and with the demand that an evaluation has given it. -/
theorem State.endOverride_self (s : State) (z : Zone) (k : EntryKind) (h : (s.zone z).hasEntry k = true) :
    (s.endOverride z k).zone z = ((s.zone z).dropEntry k).demandOf ((s.endOverride z k).zone z) := by
  have e : s.endOverride z k = s.changeMode z (fun r => r.dropEntry k) := if_pos h
  have record := (DemandSide.changeMode s z fun r => r.dropEntry k).zone z
  rw [State.zone_modZone, if_pos rfl] at record
  rw [e]
  exact record

/-! ## One zone -/

/-- R35: the door leaves the zone's open-door set. -/
def ZoneRec.leaveDoor (r : ZoneRec) (d : Door) : ZoneRec :=
  { r with openDoors := r.openDoors &&& ~~~ BitVec.twoPow 4 d.val }

/-- R35: the marker is cleared and the loop timer restarts. -/
def ZoneRec.recovers (r : ZoneRec) (now : Time) : ZoneRec :=
  { r with curtainSpent := false, loopTimer := some (now + 2 * Config.second) }

theorem State.doorClosed_closed {s : State} {d : Door} {z : Zone} (h : (s.zone z).openDoors.getLsbD d.val = false) :
    s.doorClosed d z = s := if_neg (by rw [h]; nofun)

theorem State.doorClosed_leaves {s : State} {d : Door} {z : Zone} (h : (s.zone z).openDoors.getLsbD d.val = true)
    (hl : (s.zone z).openDoors &&& ~~~ BitVec.twoPow 4 d.val ≠ 0#4) :
    s.doorClosed d z = s.setZone z ((s.zone z).leaveDoor d) := (if_pos h).trans (if_neg hl)

/-- R35: the set empties, so the CURTAIN entry ends, and then the zone recovers. -/
theorem State.doorClosed_empties {s : State} {d : Door} {z : Zone} (h : (s.zone z).openDoors.getLsbD d.val = true)
    (hl : (s.zone z).openDoors &&& ~~~ BitVec.twoPow 4 d.val = 0#4) :
    s.doorClosed d z =
      ((s.setZone z ((s.zone z).leaveDoor d)).endOverride z .curtain).modZone z (·.recovers s.now) :=
  (if_pos h).trans (if_pos hl)

/-- R35: DOOR CLOSE in one zone of the door's map: what it does where the zone is active, and all that it changes. -/
structure DoorClosing (s : State) (d : Door) (z : Zone) (t : State) : Prop where
  rule : (s.zone z).active = true → doorClosedIn d s z t
  self : t.zone z =
    if (s.zone z).openDoors.getLsbD d.val = true then (closedDoor s d z).demandOf (t.zone z) else s.zone z
  others : ∀ y, y ≠ z → t.zone y = s.zone y
  side : ClosingSide s t

/-- R35: the CURTAIN entry of an active zone in RUN ends, where it stands, as the door leaves. -/
theorem State.curtainEnds {s : State} {d : Door} {z : Zone} (hr : s.op.state = .run) (ha : (s.zone z).active = true)
    (h : (s.zone z).hasEntry .curtain = true) :
    ModeChanged s z (((s.zone z).leaveDoor d).dropEntry .curtain)
      ((s.setZone z ((s.zone z).leaveDoor d)).endOverride z .curtain) := by
  have self : (s.setZone z ((s.zone z).leaveDoor d)).zone z = (s.zone z).leaveDoor d := by
    rw [State.zone_setZone, if_pos rfl]
  have changed := State.endOverride_changed (s := s.setZone z ((s.zone z).leaveDoor d)) (z := z) (k := .curtain) hr
    (by rw [self]; exact ha) (by rw [self]; exact h)
  rw [self] at changed
  unfold ModeChanged at changed ⊢
  rw [State.setZone_setZone, self] at changed
  exact changed

/-- R35: the record of a zone whose set of open doors empties. -/
theorem closedDoor_empties {s : State} {d : Door} {z : Zone}
    (h : (s.zone z).openDoors &&& ~~~ BitVec.twoPow 4 d.val = 0#4) :
    closedDoor s d z =
      if (s.zone z).hasEntry .curtain then (((s.zone z).leaveDoor d).dropEntry .curtain).recovers s.now
      else ((s.zone z).leaveDoor d).recovers s.now := by
  unfold closedDoor
  dsimp only
  rw [if_pos h]
  cases entry : (s.zone z).hasEntry .curtain with
  | true => simp [ZoneRec.leaveDoor, ZoneRec.recovers, ZoneRec.dropEntry, h]
  | false =>
    rw [ZoneRec.filter_of_not_hasEntry entry]
    simp [ZoneRec.leaveDoor, ZoneRec.recovers, h]

/-- A door that is not in the set. -/
theorem DoorClosing.absent {s : State} {d : Door} {z : Zone} (h : (s.zone z).openDoors.getLsbD d.val = false) :
    DoorClosing s d z s :=
  ⟨fun _ => ⟨fun _ => rfl, by rw [h]; nofun⟩, by rw [h]; rfl, fun _ _ => rfl, ClosingSide.refl s⟩

/-- A door that leaves others in the set. -/
theorem DoorClosing.leaves {s : State} {d : Door} {z : Zone} (h : (s.zone z).openDoors.getLsbD d.val = true)
    (left : (s.zone z).openDoors &&& ~~~ BitVec.twoPow 4 d.val ≠ 0#4) :
    DoorClosing s d z (s.setZone z ((s.zone z).leaveDoor d)) := by
  have record : closedDoor s d z = (s.zone z).leaveDoor d := if_neg left
  refine ⟨fun _ => ⟨by rw [h]; nofun, fun _ l e => ⟨fun _ => by rw [e]; rfl, fun n => absurd (e.symm.trans n) left⟩⟩,
    ?_, fun y hy => ?_, ClosingSide.setZone s z _⟩
  · rw [if_pos h, record, State.zone_setZone, if_pos rfl]
    rfl
  · rw [State.zone_setZone, if_neg hy]

/-- A door that empties the set. -/
theorem DoorClosing.empties {s : State} {d : Door} {z : Zone} (hr : s.op.state = .run)
    (h : (s.zone z).openDoors.getLsbD d.val = true)
    (left : (s.zone z).openDoors &&& ~~~ BitVec.twoPow 4 d.val = 0#4) :
    DoorClosing s d z
      (((s.setZone z ((s.zone z).leaveDoor d)).endOverride z .curtain).modZone z (·.recovers s.now)) := by
  have ends := State.curtainEnds (d := d) (z := z) hr
  have others (y : Zone) (hy : y ≠ z) :
      ((s.setZone z ((s.zone z).leaveDoor d)).endOverride z .curtain).zone y = s.zone y := by
    rw [State.endOverride_others _ _ hy, State.zone_setZone, if_neg hy]
  have side := (ClosingSide.setZone s z ((s.zone z).leaveDoor d)).trans (ClosingSide.endOverride _ z .curtain)
  have self := State.endOverride_self (s.setZone z ((s.zone z).leaveDoor d)) z .curtain
  have same := State.endOverride_absent (s := s.setZone z ((s.zone z).leaveDoor d)) (z := z) (k := .curtain)
  rw [State.zone_setZone, if_pos rfl] at self same
  generalize (s.setZone z ((s.zone z).leaveDoor d)).endOverride z .curtain = u at ends others side self same ⊢
  refine ⟨fun ha => ⟨by rw [h]; nofun, fun _ _ e => ⟨fun n => absurd (e.trans left) n, fun _ => ⟨u, ?_, ?_, rfl⟩⟩⟩,
    ?_, fun y hy => ?_, side.trans (ClosingSide.setZone u z _)⟩
  · subst e
    exact same
  · subst e
    intro entry
    have changed := ends ha entry
    rwa [ZoneRec.dropEntry_curtain] at changed
  · rw [if_pos h, closedDoor_empties left, State.zone_modZone, if_pos rfl]
    cases entry : (s.zone z).hasEntry .curtain with
    | true => rw [self entry]; rfl
    | false => rw [same entry, State.zone_setZone, if_pos rfl]; rfl
  · rw [State.zone_modZone, if_neg hy, others y hy]

theorem State.doorClosed_closing {s : State} (d : Door) (z : Zone) (hr : s.op.state = .run) :
    DoorClosing s d z (s.doorClosed d z) := by
  cases h : (s.zone z).openDoors.getLsbD d.val with
  | false => rw [State.doorClosed_closed h]; exact .absent h
  | true =>
    by_cases left : (s.zone z).openDoors &&& ~~~ BitVec.twoPow 4 d.val = 0#4
    · rw [State.doorClosed_empties h left]
      exact .empties hr h left
    · rw [State.doorClosed_leaves h left]
      exact .leaves h left

/-! ## The zones of the map, in turn -/

/-- R33, R35: DOOR CLOSE over different zones, each taken from the state before. -/
structure DoorsClosed (s : State) (d : Door) (zs : List Zone) (t : State) : Prop where
  turn : (∀ z ∈ zs, (s.zone z).active = true) → takenInTurn (doorClosedIn d) zs s t
  zone : ∀ z, t.zone z =
    if z ∈ zs ∧ (s.zone z).openDoors.getLsbD d.val = true then (closedDoor s d z).demandOf (t.zone z) else s.zone z
  side : ClosingSide s t

theorem State.doorsClosed (d : Door) (zs : List Zone) :
    ∀ s : State, s.op.state = .run → zs.Nodup → DoorsClosed s d zs (zs.foldl (fun s z => s.doorClosed d z) s) := by
  induction zs with
  | nil => exact fun s _ _ => ⟨fun _ => rfl, fun z => by simp, ClosingSide.refl s⟩
  | cons z zs ih =>
    intro s hr nodup
    obtain ⟨fresh, nodup⟩ := List.nodup_cons.1 nodup
    have first := State.doorClosed_closing d z hr
    rw [List.foldl_cons]
    generalize s.doorClosed d z = u at first ⊢
    have rest := ih u (by rw [first.side.op]; exact hr) nodup
    generalize zs.foldl (fun s z => s.doorClosed d z) u = t at rest ⊢
    have later (y : Zone) (hy : y ∈ zs) : u.zone y = s.zone y := first.others y fun e => fresh (e ▸ hy)
    refine ⟨fun act => ⟨u, first.rule (act z List.mem_cons_self), rest.turn fun y hy => ?_⟩, fun y => ?_,
      first.side.trans rest.side⟩
    · rw [later y hy]
      exact act y (List.mem_cons_of_mem _ hy)
    · have record := rest.zone y
      by_cases e : y = z
      · subst e
        rw [if_neg fun n => fresh n.1] at record
        have self := first.self
        rw [← record] at self
        simpa using self
      · by_cases hy : y ∈ zs
        · have closed : closedDoor u d y = closedDoor s d y := by
            simp only [closedDoor, later y hy, first.side.now]
          rw [later y hy, closed] at record
          simpa [hy] using record
        · rw [if_neg fun n => hy n.1, first.others y e] at record
          simpa [hy, e] using record

end Sys2Proof.Machine
end

section
/-! SETTLES O25. DOOR OPEN and DOOR CLOSE over the zones of the door's map (R33 to R36, R29). -/
namespace Sys2Proof.Machine

/-- R33: the zones of the door's map, in ascending number. -/
def State.doorZones (s : State) (d : Door) : List Zone := allZones.filter (fun z => s.zones.doorMap[d].getLsbD z.val)

theorem State.mem_doorZones {s : State} {d : Door} {z : Zone} :
    z ∈ s.doorZones d ↔ s.zones.doorMap[d].getLsbD z.val = true := by
  simp [State.doorZones, mem_allZones]

theorem State.doorZones_nodup (s : State) (d : Door) : (s.doorZones d).Nodup := allZones_nodup.filter _

theorem State.eachDoorZone_eq (s : State) (d : Door) (f : State → Zone → State) :
    s.eachDoorZone d f = (s.doorZones d).foldl f s := List.foldl_filter.symm

theorem State.takeDoor_open (s : State) {door : Byte} {d : Door} (h : door.toNat = d.number) :
    s.takeDoor door 1#8 = accept ((s.doorZones d).foldl (fun s z => s.doorOpened d z) s) := by
  rw [State.takeDoor, h, doorOfNat_number, ← State.eachDoorZone_eq]
  rfl

theorem State.takeDoor_close (s : State) {door : Byte} {d : Door} (h : door.toNat = d.number) :
    s.takeDoor door 2#8 = accept ((s.doorZones d).foldl (fun s z => s.doorClosed d z) s) := by
  rw [State.takeDoor, h, doorOfNat_number, ← State.eachDoorZone_eq]
  rfl

/-- R33: a DOOR that its owner accepts with the state u. -/
theorem State.door_accepted {s u : State} (tag : Byte) {door action : Byte} (hf : s.portFree) (hr : s.op.state = .run)
    (ho : s.untagged.takeDoor door action = accept u) (hp : u.port = s.untagged.port) :
    ∃ t, s.answer (·.hostRequest .door tag [door, action]) = .next t ∧ t.repliesOk 0xA5#8 tag [] ∧ Replied s u t := by
  obtain ⟨t, he, hok, ht, port⟩ := State.clears_accepted s u .door tag [door, action] hf rfl (by rw [hr]; rfl) rfl ho hp
  rw [port] at ht
  exact ⟨t, he, hok, ht⟩

/-- R33: a door number out of range. -/
theorem State.door_bad {s : State} {c : Instr} (tag : Byte) {door action : Byte} (hf : s.portFree)
    (hr : s.op.state = .run) (hc : exec c s = s.answer (·.hostRequest .door tag [door, action]))
    (h : ¬ byteIn 1 4 door) :
    ∃ t, exec c s = .next t ∧ t.repliesBadArgument 0xA5#8 tag ∧ OnlyAnswered s t := by
  rw [hc]
  exact State.clears_badArgument s .door tag [door, action] hf rfl (by rw [hr]; rfl) rfl
    (withField_none _ (doorOfNat_bad (by unfold byteIn at h; omega)))

/-- R34, R107: the zones of the map in which a CURTAIN ends PURGE. -/
theorem State.curtainEndsPurge_doorZones (s : State) (d : Door) :
    (s.doorZones d).filter s.curtainEndsPurge = allZones.filter (fun z => s.zones.doorMap[d].getLsbD z.val &&
      s.curtainStarts z && decide ((s.zone z).effMode = .purge)) := by
  rw [State.doorZones, List.filter_filter]
  refine List.filter_congr fun z _ => ?_
  rw [State.curtainEndsPurge, Bool.and_comm, Bool.and_assoc]

/-- Settles O25: one zone after another, each as its rule says, and what the walk leaves as it was. -/
theorem doorsOpenAndClose : Obligations.DoorsOpenAndClose := by
  intro s tag door hf hr
  refine ⟨fun h c hc => ?_, fun d hd => ⟨?_, ?_⟩⟩
  · simp only [List.mem_cons, List.not_mem_nil, or_false] at hc
    rcases hc with rfl | rfl
    · exact State.door_bad (action := 1#8) tag hf hr rfl h
    · exact State.door_bad (action := 2#8) tag hf hr rfl h
  · have walk := State.doorsOpened d (s.doorZones d) s.untagged hr (s.doorZones_nodup d)
    obtain ⟨t, he, hok, hrep⟩ := State.door_accepted tag hf hr (s.untagged.takeDoor_open hd) walk.side.port
    change DoorsOpened s.untagged d (s.doorZones d) ((s.untagged.doorZones d).foldl _ s.untagged) at walk
    generalize (s.untagged.doorZones d).foldl (fun s z => s.doorOpened d z) s.untagged = u at walk hrep
    refine ⟨t, u, he, hok, hrep, walk.turn, ?_⟩
    obtain ⟨q, rfl⟩ : ∃ q, t = u.setPort q := ⟨_, hrep⟩
    refine ⟨fun z => ?_, fun k hk => ?_, ?_⟩
    · rw [State.setPort_zone, walk.zone z, if_congr State.mem_doorZones rfl rfl, ite_and]
      rfl
    · subst hk
      rw [← State.curtainEndsPurge_doorZones]
      exact walk.plant
    · have side := walk.side.withPort q
      rw [walk.zones] at side
      exact side
  · have walk := State.doorsClosed d (s.doorZones d) s.untagged hr (s.doorZones_nodup d)
    obtain ⟨t, he, hok, hrep⟩ := State.door_accepted tag hf hr (s.untagged.takeDoor_close hd) walk.side.port
    change DoorsClosed s.untagged d (s.doorZones d) ((s.untagged.doorZones d).foldl _ s.untagged) at walk
    generalize (s.untagged.doorZones d).foldl (fun s z => s.doorClosed d z) s.untagged = u at walk hrep
    refine ⟨t, u, he, hok, hrep, fun act => walk.turn fun z hz => act z (State.mem_doorZones.1 hz), ?_⟩
    obtain ⟨q, rfl⟩ : ∃ q, t = u.setPort q := ⟨_, hrep⟩
    exact ⟨walk.side.withPort q, fun z =>
      (walk.zone z).trans (if_congr (and_congr_left fun _ => State.mem_doorZones) rfl rfl)⟩

end Sys2Proof.Machine
end

section
/-! SUPPORT for O59 and O55. What every operation of the arbiter keeps of a pool's records (R49, R50, R51, R61): all that
Pool.sound says but the bound on what is granted, which a capacity write breaks until its revocation has ended. -/
namespace Sys2Proof.Machine

/-! ## Records in order -/

/-- Zone and rank of a claim: what the order of the queue rests on. -/
def Claim.place (c : Claim) : Zone × Nat := (c.zone, c.rank)

/-- R49, R50, R61: one grant and one claim of a zone, the claims in rank order, no passed count above 3. -/
structure Pool.tidy (p : Pool) : Prop where
  grants : (p.grants.map Grant.zone).Nodup
  claims : (p.claims.map Claim.zone).Nodup
  ranks : p.claims.Pairwise (fun a b => b.rank ≤ a.rank)
  passed : ∀ c ∈ p.claims, c.passed ≤ 3

theorem Pool.sound_iff (p : Pool) : p.sound ↔ p.tidy ∧ p.grantedTotal ≤ p.capacity := by
  refine ⟨fun h => ⟨⟨?_, ?_, h.ranks, h.passed⟩, h.within⟩, fun ⟨h, within⟩ => ?_⟩
  · exact List.pairwise_map.2 h.grants
  · exact List.pairwise_map.2 h.claims
  · exact ⟨within, List.pairwise_map.1 h.grants, List.pairwise_map.1 h.claims, h.ranks, h.passed⟩

/-- The pool has no record that the first one lacks, and its claims stand in the same order. -/
structure Thinned (p q : Pool) : Prop where
  grants : (q.grants.map Grant.zone).Sublist (p.grants.map Grant.zone)
  claims : (q.claims.map Claim.place).Sublist (p.claims.map Claim.place)
  passed : (∀ c ∈ p.claims, c.passed ≤ 3) → ∀ c ∈ q.claims, c.passed ≤ 3

theorem Thinned.claimZones {p q : Pool} (h : Thinned p q) :
    (q.claims.map Claim.zone).Sublist (p.claims.map Claim.zone) := by
  have e : ∀ r : Pool, r.claims.map Claim.zone = (r.claims.map Claim.place).map Prod.fst := fun r => by
    rw [List.map_map]
    rfl
  rw [e, e]
  exact h.claims.map _

theorem Thinned.tidy {p q : Pool} (h : Thinned p q) (t : p.tidy) : q.tidy where
  grants := t.grants.sublist h.grants
  claims := t.claims.sublist h.claimZones
  ranks := by
    have places : ∀ r : Pool, (r.claims.map Claim.place).Pairwise (fun a b => b.2 ≤ a.2) ↔
        r.claims.Pairwise (fun a b => b.rank ≤ a.rank) := fun r => List.pairwise_map
    exact (places q).1 (((places p).2 t.ranks).sublist h.claims)
  passed := h.passed t.passed

theorem Pool.concerns_iff_mem (p : Pool) (z : Zone) :
    p.concerns z ↔ z ∈ p.grants.map Grant.zone ∨ z ∈ p.claims.map Claim.zone := by
  simp [Pool.concerns]

theorem Thinned.concerns {p q : Pool} (h : Thinned p q) {z : Zone} (hz : q.concerns z) : p.concerns z := by
  rw [Pool.concerns_iff_mem] at hz ⊢
  exact hz.imp (h.grants.subset ·) (h.claimZones.subset ·)

theorem Thinned.trans {p q r : Pool} (x : Thinned p q) (y : Thinned q r) : Thinned p r :=
  ⟨y.grants.trans x.grants, y.claims.trans x.claims, y.passed ∘ x.passed⟩

theorem Thinned.capacity (p : Pool) (v : Nat) : Thinned p { p with capacity := v } := ⟨.refl _, .refl _, id⟩

theorem Thinned.renumber (p : Pool) (f : Nat → Nat) : Thinned p (p.renumber f) where
  grants := by rw [Pool.renumber, List.map_map]; exact .refl _
  claims := by rw [Pool.renumber, List.map_map]; exact .refl _
  passed h c hc := by
    obtain ⟨x, hx, rfl⟩ := List.mem_map.1 hc
    exact h x hx

theorem Thinned.withoutClaim (p : Pool) (z : Zone) : Thinned p (p.withoutClaim z) :=
  ⟨.refl _, List.filter_sublist.map _, fun h c hc => h c (List.mem_filter.1 hc).1⟩

theorem Thinned.lessGrant (p : Pool) (z : Zone) (u : Nat) : Thinned p (p.lessGrant z u) where
  grants := by
    refine (List.filter_sublist.map _).trans ?_
    rw [List.map_map]
    have same : Grant.zone ∘ (fun g : Grant => if g.zone = z then { g with units := g.units - u } else g) = Grant.zone := by
      funext g
      by_cases e : g.zone = z <;> simp [e]
    rw [same]
  claims := .refl _
  passed := id

/-- A change of each claim that leaves its zone and rank. -/
theorem Thinned.mapClaims (p : Pool) (f : Claim → Claim) (same : ∀ c, (f c).place = c.place)
    (passed : ∀ c, c.passed ≤ 3 → (f c).passed ≤ 3) : Thinned p { p with claims := p.claims.map f } where
  grants := .refl _
  claims := by
    rw [List.map_map, show Claim.place ∘ f = Claim.place from funext same]
  passed h c hc := by
    obtain ⟨x, hx, rfl⟩ := List.mem_map.1 hc
    exact passed x (h x hx)

/-- R60: the claims by what the places up to lo, from lo to hi, and from hi on hold. -/
theorem raisePassed_parts {lo hi : Nat} (h : lo ≤ hi) (q : List Claim) :
    q = q.take lo ++ (q.take hi).drop lo ++ q.drop hi := by
  have h1 : q.take lo = (q.take hi).take lo := by rw [List.take_take, Nat.min_eq_left h]
  rw [h1, List.take_append_drop, List.take_append_drop]

theorem Thinned.raised (p : Pool) {lo hi : Nat} (h : lo ≤ hi) :
    Thinned p { p with claims := raisePassed lo hi p.claims } where
  grants := .refl _
  claims := by
    conv_rhs => rw [raisePassed_parts h p.claims]
    simp only [raisePassed, List.map_append, List.map_map]
    exact .refl _
  passed hp c hc := by
    simp only [raisePassed, List.mem_append, List.mem_map] at hc
    rcases hc with (hc | ⟨x, _, rfl⟩) | hc
    · exact hp c (List.mem_of_mem_take hc)
    · exact Nat.min_le_left _ _
    · exact hp c (List.mem_of_mem_drop hc)

/-! ## New records -/

theorem Pool.grantOf_eq_none_iff (p : Pool) (z : Zone) : p.grantOf z = none ↔ z ∉ p.grants.map Grant.zone := by
  simp [Pool.grantOf]

theorem Pool.claimOf_eq_none_iff (p : Pool) (z : Zone) : p.claimOf z = none ↔ z ∉ p.claims.map Claim.zone := by
  simp [Pool.claimOf]

/-- R49: the zones of the grants after units are added: as they were, or with the zone behind them. -/
theorem Pool.addGrant_zones (p : Pool) (z : Zone) (u n : Nat) :
    (p.addGrant z u n).grants.map Grant.zone =
      p.grants.map Grant.zone ++ if p.grantOf z = none then [z] else [] := by
  unfold Pool.addGrant
  cases h : p.grantOf z with
  | none => simp
  | some g =>
    rw [List.map_map]
    have same : Grant.zone ∘ (fun g : Grant => if g.zone = z then { g with units := g.units + u, number := n } else g) =
        Grant.zone := by
      funext g
      by_cases e : g.zone = z <;> simp [e]
    simp [same]

theorem Pool.tidy.addGrant {p : Pool} (h : p.tidy) (z : Zone) (u n : Nat) : (p.addGrant z u n).tidy where
  grants := by
    rw [Pool.addGrant_zones]
    split
    · rename_i hz
      exact h.grants.append (List.nodup_singleton z) (by simpa [Pool.grantOf_eq_none_iff] using hz)
    · rw [List.append_nil]
      exact h.grants
  claims := by rw [Pool.waiting_addGrant]; exact h.claims
  ranks := by rw [Pool.waiting_addGrant]; exact h.ranks
  passed := by rw [Pool.waiting_addGrant]; exact h.passed

/-- R50: a claim put behind its rank group keeps the rank order. -/
theorem insertClaim_ranks (c : Claim) {q : List Claim} (h : q.Pairwise (fun a b => b.rank ≤ a.rank)) :
    (insertClaim c q).Pairwise (fun a b => b.rank ≤ a.rank) := by
  unfold insertClaim
  induction q with
  | nil => exact List.pairwise_singleton _ _
  | cons x q ih =>
    obtain ⟨hx, hq⟩ := List.pairwise_cons.1 h
    by_cases hc : c.rank ≤ x.rank
    · simp only [List.takeWhile_cons, List.dropWhile_cons, hc, decide_true, if_true, List.cons_append, List.pairwise_cons]
      refine ⟨fun b hb => ?_, ih hq⟩
      rcases List.mem_cons.1 ((insertClaim_perm c q).mem_iff.1 hb) with rfl | hb
      · exact hc
      · exact hx b hb
    · simp only [List.takeWhile_cons, List.dropWhile_cons, hc, decide_false, Bool.false_eq_true, if_false, List.nil_append,
        List.pairwise_cons]
      refine ⟨fun b hb => ?_, hx, hq⟩
      rcases List.mem_cons.1 hb with rfl | hb
      · omega
      · have := hx b hb
        omega

theorem Pool.tidy.withClaim {p : Pool} (h : p.tidy) {c : Claim} (hc : p.claimOf c.zone = none) (hp : c.passed ≤ 3) :
    (p.withClaim c).tidy where
  grants := h.grants
  claims := Pool.apart_withClaim h.claims hc
  ranks := insertClaim_ranks c h.ranks
  passed x hx := by
    rcases List.mem_cons.1 ((insertClaim_perm c p.claims).mem_iff.1 hx) with rfl | hx
    · exact hp
    · exact h.passed x hx

theorem Pool.claimOf_withoutClaim (p : Pool) (z : Zone) : (p.withoutClaim z).claimOf z = none := by
  simp [Pool.claimOf, Pool.withoutClaim]

/-! ## What is granted -/

theorem Pool.grantedTotal_renumber (p : Pool) (f : Nat → Nat) : (p.renumber f).grantedTotal = p.grantedTotal := by
  rw [Pool.grantedTotal, Pool.renumber, List.map_map]
  rfl

theorem Pool.grantedTotal_lessGrant_le (p : Pool) (z : Zone) (u : Nat) :
    (p.lessGrant z u).grantedTotal ≤ p.grantedTotal := by
  refine (List.filter_sublist.map Grant.units).sum_le_sum (fun _ _ => Nat.zero_le _) |>.trans ?_
  rw [List.map_map]
  refine List.sum_le_sum fun g _ => ?_
  by_cases e : g.zone = z <;> simp [e]

/-- A change of one zone's record leaves the others'. -/
theorem map_grants_of_ne {q : List Grant} {z : Zone} (f : Grant → Grant) (h : ∀ b ∈ q, b.zone ≠ z) :
    q.map (fun g => if g.zone = z then f g else g) = q :=
  (List.map_congr_left fun b hb => if_neg (h b hb)).trans (List.map_id q)

/-- R49: what is granted after units are added to the zone's one record. -/
theorem Pool.grantedTotal_addGrant {p : Pool} (h : (p.grants.map Grant.zone).Nodup) (z : Zone) (u n : Nat) :
    (p.addGrant z u n).grantedTotal = p.grantedTotal + u := by
  unfold Pool.addGrant
  cases hz : p.grantOf z with
  | none => simp [Pool.grantedTotal]
  | some g =>
    have hg : g.zone = z := of_decide_eq_true (List.find?_some (p := fun g : Grant => decide (g.zone = z)) hz)
    obtain ⟨l, r, e⟩ := List.append_of_mem (List.mem_of_find?_eq_some hz)
    rw [e, List.map_append, List.map_cons, List.nodup_append, List.nodup_cons] at h
    obtain ⟨_, ⟨hr, _⟩, hlr⟩ := h
    subst hg
    have hl := map_grants_of_ne (z := g.zone) (fun g => { g with units := g.units + u, number := n }) fun b hb =>
      hlr b.zone (List.mem_map_of_mem hb) g.zone List.mem_cons_self
    have hr := map_grants_of_ne (z := g.zone) (fun g => { g with units := g.units + u, number := n }) fun b hb e =>
      hr (e ▸ List.mem_map_of_mem hb)
    simp only [Pool.grantedTotal, e, List.map_append, List.map_cons, hl, hr, if_true, List.sum_append, List.sum_cons]
    omega

end Sys2Proof.Machine
end

section
/-! SUPPORT for O59. The arbiter stays sound: filing, updating, withdrawing and returning, the grant pass, a settlement
and a capacity write (R47, R50 to R63). -/
namespace Sys2Proof.Machine

/-- Both pools are tidy, and a zone has a record in one of them alone. -/
structure Arbiter.tidy (a : Arbiter) : Prop where
  pools : ∀ i, (a.pool i).tidy
  alone : ∀ i j z, j ≠ i → (a.pool i).concerns z → ¬ (a.pool j).concerns z

theorem Arbiter.sound_iff (a : Arbiter) :
    a.sound ↔ a.tidy ∧ ∀ i, (a.pool i).grantedTotal ≤ (a.pool i).capacity := by
  refine ⟨fun h => ?_, fun ⟨t, w⟩ => ?_⟩
  · have pools := fun i => (Pool.sound_iff _).1 (Arbiter.pool_sound h i)
    exact ⟨⟨fun i => (pools i).1, fun i j z hj hz => Arbiter.concerns_alone h hz hj⟩, fun i => (pools i).2⟩
  · have pools := fun i => (Pool.sound_iff _).2 ⟨t.pools i, w i⟩
    exact ⟨pools .heat, pools .cool, fun z ⟨hh, hc⟩ => t.alone .heat .cool z (by decide) hh hc⟩

theorem Arbiter.sound.tidy {a : Arbiter} (h : a.sound) : a.tidy := (Arbiter.sound_iff a).1 h |>.1

/-- Tidy, of the same size, with no more granted: sound. -/
theorem Arbiter.sound.of {a b : Arbiter} (h : a.sound) (t : b.tidy) (size : SameSize a b)
    (less : ∀ i, (b.pool i).grantedTotal ≤ (a.pool i).grantedTotal) : b.sound :=
  (Arbiter.sound_iff b).2 ⟨t, fun i => (less i).trans ((((Arbiter.sound_iff a).1 h).2 i).trans (size.pool i).ge)⟩

/-- Both pools are thinned. -/
def Thins (a b : Arbiter) : Prop := ∀ i, Thinned (a.pool i) (b.pool i)

theorem Thins.trans {a b c : Arbiter} (x : Thins a b) (y : Thins b c) : Thins a c := fun i => (x i).trans (y i)

theorem Thins.tidy {a b : Arbiter} (h : Thins a b) (t : a.tidy) : b.tidy :=
  ⟨fun i => (h i).tidy (t.pools i), fun i j z hj hi hjz => t.alone i j z hj ((h i).concerns hi) ((h j).concerns hjz)⟩

theorem Thins.setPool {a : Arbiter} {i : PoolId} {p : Pool} (h : Thinned (a.pool i) p) :
    Thins a (a.setPool i p) := fun j => by
  by_cases e : j = i
  · subst e
    rw [Arbiter.setPool_pool]
    exact h
  · rw [Arbiter.setPool_other e]
    exact ⟨.refl _, .refl _, id⟩

theorem Thins.withdraw (a : Arbiter) (i : PoolId) (z : Zone) : Thins a (a.withdraw i z) :=
  .setPool (Thinned.withoutClaim _ z)

theorem Thins.giveBack (a : Arbiter) (i : PoolId) (z : Zone) (u : Nat) : Thins a (a.giveBack i z u) :=
  .setPool (Thinned.lessGrant _ z u)

/-- What is granted from a pool that has been replaced. -/
theorem Arbiter.setPool_granted_le {a : Arbiter} {i : PoolId} {p : Pool}
    (h : p.grantedTotal ≤ (a.pool i).grantedTotal) (j : PoolId) :
    ((a.setPool i p).pool j).grantedTotal ≤ (a.pool j).grantedTotal := by
  by_cases e : j = i
  · subst e
    rw [Arbiter.setPool_pool]
    exact h
  · rw [Arbiter.setPool_other e]

/-- A sound arbiter with one pool thinned, no more granted from it and its capacity kept. -/
theorem Arbiter.sound.setPool {a : Arbiter} (h : a.sound) {i : PoolId} {p : Pool} (thin : Thinned (a.pool i) p)
    (size : p.capacity = (a.pool i).capacity) (less : p.grantedTotal ≤ (a.pool i).grantedTotal) : (a.setPool i p).sound :=
  h.of ((Thins.setPool thin).tidy h.tidy) (.setPool a i p size) (Arbiter.setPool_granted_le less)

theorem Arbiter.sound.withdraw {a : Arbiter} (h : a.sound) (i : PoolId) (z : Zone) : (a.withdraw i z).sound :=
  h.setPool (.withoutClaim _ z) rfl le_rfl

theorem Arbiter.sound.giveBack {a : Arbiter} (h : a.sound) (i : PoolId) (z : Zone) (u : Nat) : (a.giveBack i z u).sound :=
  h.setPool (.lessGrant _ z u) rfl (Pool.grantedTotal_lessGrant_le _ z u)

theorem Arbiter.sound.release {a : Arbiter} (h : a.sound) (i : PoolId) (z : Zone) : (a.release i z).sound :=
  (h.giveBack i z _).withdraw i z

/-! ## A claim that enters a queue (R48, R50, R53, R54) -/

/-- The arbiter after a claim enters the queue of a pool: the pool thinned and the claim put in, the other renumbered. -/
structure Enters (a b : Arbiter) (i : PoolId) (c : Claim) : Prop where
  pool : ∃ q, b.pool i = q.withClaim c ∧ Thinned (a.pool i) q ∧ q.claimOf c.zone = none
  others : ∀ j, j ≠ i → Thinned (a.pool j) (b.pool j)
  granted : ∀ j, (b.pool j).grantedTotal = (a.pool j).grantedTotal

theorem Enters.tidy {a b : Arbiter} {i : PoolId} {c : Claim} (e : Enters a b i c) (h : a.tidy) (hp : c.passed ≤ 3)
    (free : ∀ j, j ≠ i → ¬ (a.pool j).concerns c.zone) : b.tidy := by
  obtain ⟨⟨q, hq, thin, hc⟩, others, _⟩ := e
  have here : ∀ z, (b.pool i).concerns z → z = c.zone ∨ (a.pool i).concerns z := fun z hz =>
    (Pool.concerns_withClaim (hq ▸ hz)).imp_right thin.concerns
  refine ⟨fun j => ?_, fun j k z hk hj hkz => ?_⟩
  · by_cases e : j = i
    · subst e
      rw [hq]
      exact (thin.tidy (h.pools j)).withClaim hc hp
    · exact (others j e).tidy (h.pools j)
  · by_cases ej : j = i
    · subst ej
      have there := (others k hk).concerns hkz
      rcases here z hj with rfl | hz
      · exact free k hk there
      · exact h.alone j k z hk hz there
    · have there := (others j ej).concerns hj
      by_cases ek : k = i
      · subst ek
        rcases here z hkz with rfl | hz
        · exact free j ej there
        · exact h.alone j k z hk there hz
      · exact h.alone j k z hk there ((others k ek).concerns hkz)

theorem Arbiter.file_enters {a : Arbiter} {i : PoolId} {z : Zone} (hz : (a.pool i).claimOf z = none) (u rank : Nat)
    (now : Time) : ∃ n, Enters a (a.file i z u rank now) i ⟨z, u, rank, n, 0, now, false⟩ := by
  obtain ⟨f, n, e, o⟩ := Arbiter.file_pool a i z u rank now
  refine ⟨n, ⟨_, e, .renumber _ f, ?_⟩, fun j hj => o j hj ▸ .renumber _ f, fun j => ?_⟩
  · rw [Pool.claimOf_eq_none_iff] at hz ⊢
    rwa [Pool.renumber, List.map_map]
  · by_cases hj : j = i
    · subst hj
      rw [e]
      exact Pool.grantedTotal_renumber _ f
    · rw [o j hj]
      exact Pool.grantedTotal_renumber _ f

theorem Arbiter.moveClaim_enters (a : Arbiter) (i : PoolId) (z : Zone) (u rank : Nat) (filed : Time) (m : Bool) :
    ∃ n, Enters a (a.moveClaim i z u rank filed m) i ⟨z, u, rank, n, 0, filed, m⟩ := by
  obtain ⟨f, hf⟩ := Arbiter.tick_pool a
  have e : (a.moveClaim i z u rank filed m).pool i =
      (((a.pool i).renumber f).withoutClaim z).withClaim ⟨z, u, rank, a.tick.counter, 0, filed, m⟩ := by
    rw [← hf]
    exact Arbiter.setPool_pool _ _ _
  have o : ∀ j, j ≠ i → (a.moveClaim i z u rank filed m).pool j = (a.pool j).renumber f := fun j hj => by
    rw [← hf]
    exact Arbiter.setPool_other hj _ _
  refine ⟨_, ⟨_, e, (Thinned.renumber _ f).trans (.withoutClaim _ z), Pool.claimOf_withoutClaim _ z⟩,
    fun j hj => o j hj ▸ .renumber _ f, fun j => ?_⟩
  by_cases hj : j = i
  · subst hj
    rw [e]
    exact Pool.grantedTotal_renumber _ f
  · rw [o j hj]
    exact Pool.grantedTotal_renumber _ f

theorem Arbiter.sound.file {a : Arbiter} (h : a.sound) {i : PoolId} {z : Zone} (hz : (a.pool i).claimOf z = none)
    (free : ∀ j, j ≠ i → ¬ (a.pool j).concerns z) (u rank : Nat) (now : Time) : (a.file i z u rank now).sound := by
  obtain ⟨n, e⟩ := Arbiter.file_enters hz u rank now
  exact h.of (e.tidy h.tidy (Nat.zero_le _) free) (.file a i z u rank now) fun j => (e.granted j).le

theorem Arbiter.sound.update {a : Arbiter} (h : a.sound) {i : PoolId} {c : Claim}
    (free : ∀ j, j ≠ i → ¬ (a.pool j).concerns c.zone) (u rank : Nat) : (a.update i c u rank).sound := by
  by_cases hr : c.rank = rank
  · rw [Arbiter.update, if_pos hr]
    refine h.setPool (.mapClaims _ _ (fun x => ?_) fun x hx => ?_) rfl le_rfl
    · by_cases e : x.zone = c.zone <;> simp [Claim.place, e]
    · by_cases e : x.zone = c.zone <;> simp [e, hx]
  · rw [Arbiter.update, if_neg hr]
    obtain ⟨n, e⟩ := Arbiter.moveClaim_enters a i c.zone u rank c.filed c.saturated
    exact h.of (e.tidy h.tidy (Nat.zero_le _) free) (.moveClaim a i _ _ _ _ _) fun j => (e.granted j).le

/-! ## The grant pass (R59, R60) -/

theorem Arbiter.grantClaim_pool (a : Arbiter) (i : PoolId) (c : Claim) : ∃ f n,
    (a.grantClaim i c).pool i = (((a.pool i).withoutClaim c.zone).renumber f).addGrant c.zone c.units n ∧
    ∀ j, j ≠ i → (a.grantClaim i c).pool j = (a.pool j).renumber f := by
  obtain ⟨f, hf⟩ := Arbiter.tick_pool (a.withdraw i c.zone)
  refine ⟨f, (a.withdraw i c.zone).tick.counter, ?_, fun j hj => ?_⟩
  · rw [Arbiter.grantClaim, Arbiter.setPool_pool, hf, Arbiter.withdraw, Arbiter.setPool_pool]
  · rw [Arbiter.grantClaim, Arbiter.setPool_other hj, hf, Arbiter.withdraw, Arbiter.setPool_other hj]

/-- R59: a claim that fits in what is free becomes a grant. -/
theorem Arbiter.sound.grantClaim {a : Arbiter} (h : a.sound) {i : PoolId} {c : Claim} (hc : c ∈ (a.pool i).claims)
    (fits : c.units ≤ (a.pool i).free) : (a.grantClaim i c).sound := by
  obtain ⟨f, n, e, o⟩ := Arbiter.grantClaim_pool a i c
  have shares := SameShares.grantClaim (Arbiter.pools_apart h) hc
  have size := SameSize.grantClaim a i c
  obtain ⟨t, within⟩ := (Arbiter.sound_iff a).1 h
  have cleared := ((Thinned.withoutClaim (a.pool i) c.zone).trans (.renumber _ f)).tidy (t.pools i)
  refine (Arbiter.sound_iff _).2 ⟨⟨fun j => ?_, fun j k z hk hj hkz =>
    t.alone j k z hk ((shares j).concerns z hj) ((shares k).concerns z hkz)⟩, fun j => ?_⟩
  · by_cases hj : j = i
    · subst hj
      rw [e]
      exact cleared.addGrant _ _ n
    · rw [o j hj]
      exact (Thinned.renumber _ f).tidy (t.pools j)
  · rw [size.pool j]
    by_cases hj : j = i
    · subst hj
      have room : c.units ≤ (a.pool j).capacity - (a.pool j).grantedTotal := fits
      have := within j
      rw [e, Pool.grantedTotal_addGrant cleared.grants, Pool.grantedTotal_renumber]
      show (a.pool j).grantedTotal + c.units ≤ _
      omega
    · rw [o j hj, Pool.grantedTotal_renumber]
      exact within j

theorem Arbiter.sound.walk (i : PoolId) (fuel : Nat) :
    ∀ (place raised : Nat) (a : Arbiter), raised ≤ place → a.sound → (Arbiter.walk i fuel place raised a).sound := by
  induction fuel with
  | zero => exact fun _ _ _ _ h => h
  | succ fuel ih =>
    intro place raised a hr h
    unfold Arbiter.walk
    split
    · exact h
    · rename_i c hc
      split
      · rename_i fits
        have granted := h.grantClaim (List.mem_of_getElem? hc) fits
        have counted := granted.setPool (i := i) (.raised _ hr) rfl le_rfl
        dsimp only
        split
        · exact counted
        · exact ih _ _ _ le_rfl counted
      · split
        · exact ih _ _ a (Nat.le_succ_of_le hr) h
        · exact h

theorem Arbiter.sound.pass {a : Arbiter} (h : a.sound) (i : PoolId) : (a.pass i).sound := .walk i _ 0 0 a le_rfl h

/-! ## A settlement (R20, R52) -/

theorem Arbiter.sound.settleWithin {a : Arbiter} (h : a.sound) {i : PoolId} {z : Zone} (hi : (a.pool i).concerns z)
    (w rank : Nat) (now : Time) : (a.settleWithin i z w rank now).sound := by
  have free : ∀ j, j ≠ i → ¬ (a.pool j).concerns z := fun j hj => Arbiter.concerns_alone h hi hj
  unfold Arbiter.settleWithin
  dsimp only
  split
  · rename_i hc
    split
    · exact (h.giveBack i z _).pass i
    · split
      · exact h
      · exact (h.file hc free _ rank now).pass i
  · rename_i c hc
    split
    · exact ((h.giveBack i z _).withdraw i z).pass i
    · split
      · exact h
      · obtain ⟨_, rfl⟩ := Pool.claimOf_mem hc
        exact (h.update free _ rank).pass i

theorem Arbiter.sound.settle {a : Arbiter} (h : a.sound) (z : Zone) (d : Direction) (w rank : Nat) (now : Time) :
    (a.settle z d w rank now).sound := by
  have unclaimed {b : Arbiter} {i : PoolId} (no : ¬ (b.pool i).concerns z) := ((Pool.not_concerns_iff _ z).1 no).2
  by_cases hn : ∀ j, ¬ (a.pool j).concerns z
  · cases hd : d.pool with
    | none =>
      rw [Arbiter.settle, hd, Arbiter.holder_none hn]
      exact h
    | some i =>
      rw [Arbiter.settle_new hd (Arbiter.holder_none hn)]
      exact (h.file (unclaimed (hn i)) (fun j _ => hn j) w rank now).pass i
  · simp only [not_forall, not_not] at hn
    obtain ⟨p, hp⟩ := hn
    have hh := Arbiter.holder_some h hp
    have gone := Arbiter.release_nowhere h hp
    cases hd : d.pool with
    | none =>
      rw [Arbiter.settle, hd, hh]
      exact (h.release p z).pass p
    | some i =>
      by_cases e : p = i
      · subst e
        rw [Arbiter.settle_within hd hh]
        exact h.settleWithin hp w rank now
      · rw [Arbiter.settle_moved hd hh e]
        exact (((h.release p z).file (unclaimed (gone i)) (fun j _ => gone j) w rank now).pass p).pass i

/-! ## Revocation and capacity writes (R47, R62, R63) -/

theorem nextVictim_mem {rankOf : Zone → Nat} {gs : List Grant} {g : Grant} (h : nextVictim rankOf gs = some g) : g ∈ gs := by
  induction gs generalizing g with
  | nil => simp [nextVictim] at h
  | cons x gs ih =>
    unfold nextVictim at h
    split at h
    · exact Option.some.inj h ▸ List.mem_cons_self
    · rename_i b hb
      split at h
      · exact Option.some.inj h ▸ List.mem_cons_of_mem _ (ih hb)
      · exact Option.some.inj h ▸ List.mem_cons_self

theorem nextVictim_none {rankOf : Zone → Nat} {gs : List Grant} (h : nextVictim rankOf gs = none) : gs = [] := by
  cases gs with
  | nil => rfl
  | cons x gs =>
    unfold nextVictim at h
    split at h
    · simp at h
    · split at h <;> simp at h

theorem Arbiter.refile_enters (a : Arbiter) (i : PoolId) (z : Zone) (u rank : Nat) (now : Time) :
    ∃ v n, Enters a (a.refile i z u rank now) i ⟨z, v, rank, n, 0, now, false⟩ := by
  unfold Arbiter.refile
  split
  · rename_i hz
    exact ⟨u, Arbiter.file_enters hz u rank now⟩
  · exact ⟨_, Arbiter.moveClaim_enters a i z _ rank now false⟩

theorem Arbiter.refile_grants (a : Arbiter) (i : PoolId) (z : Zone) (u rank : Nat) (now : Time) :
    ∃ f : Nat → Nat, ((a.refile i z u rank now).pool i).grants =
      (a.pool i).grants.map (fun g => { g with number := f g.number }) := by
  obtain ⟨f, hf⟩ := Arbiter.tick_pool a
  refine ⟨f, ?_⟩
  have e := congrArg Pool.grants (hf i)
  unfold Arbiter.refile
  split
  · rw [Arbiter.file, Arbiter.setPool_pool]
    exact e
  · rw [Arbiter.moveClaim, Arbiter.setPool_pool]
    exact e

/-- R49, R62: the grants after units are taken from a zone's one record. -/
theorem Pool.lessGrant_split {p : Pool} (h : (p.grants.map Grant.zone).Nodup) {l r : List Grant} {g : Grant}
    (e : p.grants = l ++ g :: r) (u : Nat) :
    (p.lessGrant g.zone u).grants = l ++ ((if g.units ≤ u then [] else [{ g with units := g.units - u }]) ++ r) := by
  rw [e, List.map_append, List.map_cons, List.nodup_append, List.nodup_cons] at h
  obtain ⟨_, ⟨hr, _⟩, hlr⟩ := h
  have other : ∀ q : List Grant, (∀ b ∈ q, b.zone ≠ g.zone) →
      (q.map (fun x => if x.zone = g.zone then { x with units := x.units - u } else x)).filter
        (fun x => !(decide (x.zone = g.zone) && decide (x.units = 0))) = q := fun q hq => by
    rw [map_grants_of_ne _ hq]
    exact List.filter_eq_self.2 fun b hb => by simp [hq b hb]
  have hl := other l fun b hb => hlr b.zone (List.mem_map_of_mem hb) g.zone List.mem_cons_self
  have hr := other r fun b hb e => hr (e ▸ List.mem_map_of_mem hb)
  rw [Pool.lessGrant, e, List.map_append, List.map_cons, List.filter_append, hl, List.filter_cons, hr]
  by_cases hu : g.units ≤ u
  · simp [hu, Nat.sub_eq_zero_of_le hu]
  · simp [hu, Nat.sub_ne_zero_of_lt (Nat.lt_of_not_le hu)]

/-- R62, R63: the arbiter with units of one grant revoked: taken from it, and filed again at the zone's rank. -/
def Arbiter.revokeOne (a : Arbiter) (i : PoolId) (rankOf : Zone → Nat) (now : Time) (g : Grant) (t : Nat) : Arbiter :=
  (a.giveBack i g.zone t).refile i g.zone t (rankOf g.zone) now

theorem Arbiter.revoke_victim {a : Arbiter} {i : PoolId} {rankOf : Zone → Nat} {g : Grant} {e : Nat} (now : Time)
    (fuel : Nat) (he : e ≠ 0) (hg : nextVictim rankOf (a.pool i).grants = some g) :
    Arbiter.revoke i rankOf now (fuel + 1) e a =
      Arbiter.revoke i rankOf now fuel (e - min g.units e) (a.revokeOne i rankOf now g (min g.units e)) := by
  rw [Arbiter.revoke, if_neg he, hg]
  rfl

theorem Arbiter.revokeOne_other (a : Arbiter) {i j : PoolId} (hj : j ≠ i) (rankOf : Zone → Nat) (now : Time) (g : Grant)
    (t : Nat) :
    ((a.revokeOne i rankOf now g t).pool j).grantedTotal = (a.pool j).grantedTotal := by
  obtain ⟨v, n, e⟩ := Arbiter.refile_enters (a.giveBack i g.zone t) i g.zone t (rankOf g.zone) now
  rw [Arbiter.revokeOne, e.granted j, Arbiter.giveBack, Arbiter.setPool_other hj]

section
variable {a : Arbiter} {i : PoolId} {g : Grant} (h : a.tidy) (hg : g ∈ (a.pool i).grants) (rankOf : Zone → Nat) (now : Time)
include h hg

theorem Arbiter.tidy.revokeOne (t : Nat) : (a.revokeOne i rankOf now g t).tidy := by
  obtain ⟨v, n, e⟩ := Arbiter.refile_enters (a.giveBack i g.zone t) i g.zone t (rankOf g.zone) now
  have thin := Thins.giveBack a i g.zone t
  exact e.tidy (thin.tidy h) (Nat.zero_le _) fun j hj hz => h.alone i j g.zone hj (.inl ⟨g, hg, rfl⟩) ((thin j).concerns hz)

/-- The total and the number of the grants after a revocation. -/
theorem Arbiter.revokeOne_grants {t : Nat} (ht : t ≤ g.units) :
    ((a.revokeOne i rankOf now g t).pool i).grantedTotal + t = (a.pool i).grantedTotal ∧
    (g.units = t → ((a.revokeOne i rankOf now g t).pool i).grants.length + 1 = (a.pool i).grants.length) := by
  obtain ⟨v, n, e⟩ := Arbiter.refile_enters (a.giveBack i g.zone t) i g.zone t (rankOf g.zone) now
  obtain ⟨f, hf⟩ := Arbiter.refile_grants (a.giveBack i g.zone t) i g.zone t (rankOf g.zone) now
  obtain ⟨l, r, split⟩ := List.append_of_mem hg
  have less := Pool.lessGrant_split (h.pools i).grants split t
  rw [Arbiter.revokeOne, e.granted i, hf, List.length_map, Arbiter.giveBack, Arbiter.setPool_pool, Pool.grantedTotal, less,
    Pool.grantedTotal, split]
  simp only [List.map_append, List.sum_append, List.map_cons, List.sum_cons, List.length_append, List.length_cons]
  split
  · simp only [List.map_nil, List.sum_nil, List.length_nil]
    omega
  · simp only [List.map_cons, List.map_nil, List.sum_cons, List.sum_nil, List.length_cons, List.length_nil]
    omega

end

/-- R62: the revocation takes the excess and no more, and leaves the records tidy. -/
theorem Arbiter.tidy.revoke (i : PoolId) (rankOf : Zone → Nat) (now : Time) (fuel : Nat) :
    ∀ (e : Nat) (a : Arbiter), a.tidy →
    (a.pool i).grants.length ≤ fuel → e ≤ (a.pool i).grantedTotal →
    (Arbiter.revoke i rankOf now fuel e a).tidy ∧
    ((Arbiter.revoke i rankOf now fuel e a).pool i).grantedTotal = (a.pool i).grantedTotal - e ∧
    ∀ j, j ≠ i → ((Arbiter.revoke i rankOf now fuel e a).pool j).grantedTotal = (a.pool j).grantedTotal := by
  induction fuel with
  | zero =>
    intro e a h len he
    have none : (a.pool i).grantedTotal = 0 := by
      rw [Pool.grantedTotal, List.eq_nil_of_length_eq_zero (Nat.le_zero.1 len)]
      rfl
    refine ⟨h, ?_, fun _ _ => rfl⟩
    show (a.pool i).grantedTotal = _
    omega
  | succ fuel ih =>
    intro e a h len he
    by_cases e0 : e = 0
    · subst e0
      rw [Arbiter.revoke, if_pos rfl]
      exact ⟨h, rfl, fun _ _ => rfl⟩
    · cases hv : nextVictim rankOf (a.pool i).grants with
      | none =>
        rw [Pool.grantedTotal, nextVictim_none hv] at he
        exact absurd (Nat.le_zero.1 he) e0
      | some g =>
        have hg := nextVictim_mem hv
        rw [Arbiter.revoke_victim now fuel e0 hv]
        have ht : min g.units e ≤ g.units := Nat.min_le_left _ _
        obtain ⟨total, short⟩ := Arbiter.revokeOne_grants h hg rankOf now ht
        have other := fun j hj => a.revokeOne_other (i := i) (j := j) hj rankOf now g (min g.units e)
        have tidy := h.revokeOne hg rankOf now (min g.units e)
        generalize a.revokeOne i rankOf now g (min g.units e) = b at total short other tidy
        rcases Nat.le_total g.units e with hle | hle
        · rw [Nat.min_eq_left hle] at total short ⊢
          have shorter := short rfl
          obtain ⟨t, s, o⟩ := ih (e - g.units) b tidy (by omega) (by omega)
          exact ⟨t, by omega, fun j hj => (o j hj).trans (other j hj)⟩
        · rw [Nat.min_eq_right hle] at total ⊢
          have done : Arbiter.revoke i rankOf now fuel (e - e) b = b := by
            cases fuel <;> simp [Arbiter.revoke]
          rw [done]
          exact ⟨tidy, by omega, other⟩

/-- R47: what is granted after a capacity write: within the value, and all of it where the grants were above. -/
theorem Arbiter.writeCapacity_sound {a : Arbiter} (h : a.sound) (i : PoolId) (v : Nat) (rankOf : Zone → Nat) (now : Time) :
    (a.writeCapacity i v rankOf now).sound ∧
    (v < (a.pool i).grantedTotal → ((a.writeCapacity i v rankOf now).pool i).grantedTotal = v) := by
  obtain ⟨tidy, within⟩ := (Arbiter.sound_iff a).1 h
  have thin : Thins a (a.setPool i { a.pool i with capacity := v }) := .setPool (.capacity _ v)
  have sizes := Arbiter.writeCapacity_sizes a i v rankOf now
  have written : (a.pool i).grantedTotal ≤ v → (a.setPool i { a.pool i with capacity := v }).sound := fun hv => by
    refine (Arbiter.sound_iff _).2 ⟨thin.tidy tidy, fun j => ?_⟩
    by_cases hj : j = i
    · subst hj
      rw [Arbiter.setPool_pool]
      exact hv
    · rw [Arbiter.setPool_other hj]
      exact within j
  unfold Arbiter.writeCapacity at sizes ⊢
  dsimp only at sizes ⊢
  split
  · have := within i
    exact ⟨h, by omega⟩
  · split
    · have := within i
      exact ⟨(written (by omega)).pass i, by omega⟩
    · split
      · rename_i same rise above
        rw [if_neg same, if_neg rise, if_pos above] at sizes
        generalize hb : a.setPool i { a.pool i with capacity := v } = b at sizes thin ⊢
        have hpool : b.pool i = { a.pool i with capacity := v } := by rw [← hb, Arbiter.setPool_pool]
        have hother : ∀ j, j ≠ i → b.pool j = a.pool j := fun j hj => by rw [← hb, Arbiter.setPool_other hj]
        have total : (b.pool i).grantedTotal = (a.pool i).grantedTotal := by rw [hpool]; rfl
        obtain ⟨t, s, o⟩ := Arbiter.tidy.revoke i rankOf now (a.pool i).grants.length
          ((a.pool i).grantedTotal - v) b (thin.tidy tidy) (by rw [hpool]) (by omega)
        refine ⟨(Arbiter.sound_iff _).2 ⟨t, fun j => ?_⟩, fun _ => by omega⟩
        rw [sizes.pool j]
        by_cases hj : j = i
        · subst hj
          rw [hpool]
          show _ ≤ v
          omega
        · rw [o j hj, hother j hj]
          exact within j
      · rename_i below
        exact ⟨written (Nat.le_of_not_lt below), fun above => absurd above below⟩

end Sys2Proof.Machine
end

section
/-! SUPPORT for O59. The events by which the arbiter changes, each of which leaves it sound; and what the zone controller
and the plant controller bring it, as a run of such events. -/
namespace Sys2Proof.Machine

/-! ## The events -/

/-- All that happens to the arbiter: a settlement (R52), a capacity write (R47), the mark of a claim that has aged (R66), the
drop at a shutdown (R70), its tuning value (R155) and a reset (R165). -/
inductive ArbiterEvent (a : Arbiter) : Arbiter → Prop
  | settle (z : Zone) (d : Direction) (w rank : Nat) (now : Time) : ArbiterEvent a (a.settle z d w rank now)
  | write (i : PoolId) (v : Nat) (rankOf : Zone → Nat) (now : Time) : ArbiterEvent a (a.writeCapacity i v rankOf now)
  | age (i : PoolId) (z : Zone) : ArbiterEvent a (a.setPool i ((a.pool i).markSaturated z))
  | drop : ArbiterEvent a a.dropAll
  | tune (t : Nat) : ArbiterEvent a { a with saturationTime := t }
  | reset : ArbiterEvent a Arbiter.reset

/-- Nothing is granted and nothing waits. -/
theorem Arbiter.sound_of_empty {a : Arbiter} (h : a.empty) : a.sound := by
  obtain ⟨hg, hc, cg, cc⟩ := h
  have pool (p : Pool) (g : p.grants = []) (c : p.claims = []) : p.sound :=
    ⟨by simp [Pool.grantedTotal, g], by simp [g], by simp [c], by simp [c], by simp [c]⟩
  exact ⟨pool _ hg hc, pool _ cg cc, fun z ⟨h, _⟩ => by simp [Pool.concerns, hg, hc] at h⟩

theorem ArbiterEvent.sound {a b : Arbiter} (e : ArbiterEvent a b) (h : a.sound) : b.sound := by
  cases e with
  | settle z d w rank now => exact h.settle z d w rank now
  | write i v rankOf now => exact (Arbiter.writeCapacity_sound h i v rankOf now).1
  | age i z =>
    refine h.setPool (.mapClaims _ _ (fun c => ?_) fun c hc => ?_) rfl le_rfl
    · by_cases e : c.zone = z <;> simp [Claim.place, e]
    · by_cases e : c.zone = z <;> simp [e, hc]
  | drop => exact Arbiter.sound_of_empty a.dropAll_empty
  | tune t => exact ⟨h.heat, h.cool, h.apart⟩
  | reset => exact Arbiter.sound_of_empty ⟨rfl, rfl, rfl, rfl⟩

/-- Between the two states the arbiter has seen a run of its events and nothing else. -/
def ArbRun (s t : State) : Prop := Relation.ReflTransGen ArbiterEvent s.arb t.arb

theorem ArbRun.sound {s t : State} (h : ArbRun s t) (hs : s.arb.sound) : t.arb.sound := by
  unfold ArbRun at h
  generalize t.arb = b at h
  induction h with
  | refl => exact hs
  | tail _ e ih => exact e.sound ih

theorem ArbRun.same {s t : State} (h : t.arb = s.arb) : ArbRun s t := by
  rw [ArbRun, h]

theorem ArbRun.refl (s : State) : ArbRun s s := .same rfl

theorem ArbRun.trans {s t u : State} (a : ArbRun s t) (b : ArbRun t u) : ArbRun s u := Relation.ReflTransGen.trans a b

/-- A run that begins after the other blocks have changed. -/
theorem ArbRun.on {s t u : State} (h : ArbRun t u) (e : t.arb = s.arb) : ArbRun s u := (ArbRun.same e).trans h

theorem ArbRun.raise {s t : State} (h : ArbRun s t) (c : StickyCond) (i : Option Nat) : ArbRun s (t.raise c i) := h

theorem ArbRun.event {s t : State} (h : ArbiterEvent s.arb t.arb) : ArbRun s t := .single h

theorem ArbRun.ite {c : Prop} [Decidable c] {s t u : State} (a : ArbRun s t) (b : ArbRun s u) :
    ArbRun s (if c then t else u) := by
  split
  · exact a
  · exact b

theorem ArbRun.foldl {α : Type} {f : State → α → State} (h : ∀ s a, ArbRun s (f s a)) (l : List α) :
    ∀ s, ArbRun s (l.foldl f s) := by
  induction l with
  | nil => exact ArbRun.refl
  | cons a l ih => exact fun s => (h s a).trans (ih (f s a))

theorem ArbRun.eachZone {f : State → Zone → State} (h : ∀ s z, ArbRun s (f s z)) (s : State) : ArbRun s (s.eachZone f) :=
  .foldl h allZones s

theorem ArbRun.eachNode {f : State → NodeId → State} (h : ∀ s n, ArbRun s (f s n)) (s : State) : ArbRun s (s.eachNode f) :=
  .foldl h allNodes s

theorem NodeSide.arbRun {s t : State} (h : NodeSide s t) : ArbRun s t := .same h.arb
theorem PlantSide.arbRun {s t : State} (h : PlantSide s t) : ArbRun s t := .same h.arb

/-! ## An evaluation, and the writes of a capacity (R11, R47, R77, R93) -/

theorem ArbRun.evaluate (s : State) (z : Zone) : ArbRun s (s.evaluate z) := by
  have settled : ArbRun s ((s.writeDemand z).settleZone z) := .event (.settle _ _ _ _ _)
  exact .ite (.ite (NodeSide.zoneTargets s z).arbRun
    ((settled.trans (NodeSide.zoneTargets _ z).arbRun).trans (PlantSide.notices _ _ _).arbRun)) (.refl s)

theorem ArbRun.writeCapacity (s : State) (i : PoolId) (v : Nat) : ArbRun s (s.writeCapacity i v) := by
  have written : ArbRun s (s.setArb (s.arb.writeCapacity i v s.claimRankOf s.now)) := .event (.write _ _ _ _)
  exact .ite (.refl s) (written.trans (PlantSide.notices _ _ _).arbRun)

theorem ArbRun.refreshCool (s : State) : ArbRun s s.refreshCool := .writeCapacity s _ _
theorem ArbRun.refreshHeat (s : State) : ArbRun s s.refreshHeat := .writeCapacity s _ _

/-! ## The sequencer and the heater (chapters 4 and 5) -/

theorem ArbRun.shedStage (s : State) (k : Nat) : ArbRun s (s.shedStage k) := by
  have moved (a : Nat) (q : Seq) : ArbRun s (((s.plantMove s.plant.defn.compressor a .plant).enterSeq q).refreshCool) :=
    (NodeSide.plantMove s _ a _).arbRun.trans (.on (.refreshCool _) rfl)
  exact .ite (moved _ _) (moved _ _)

theorem ArbRun.seqDecide (s : State) : ArbRun s s.seqDecide := by
  have rise := (PlantSide.seqRise s).arbRun
  unfold State.seqDecide
  split
  · exact rise
  · exact .ite (.ite (.shedStage s _) (.ite rise (.ite (.shedStage s _) (.refl s)))) (.refl s)
  · exact .refl s

theorem ArbRun.enterRunning (s : State) (k : Nat) : ArbRun s (s.enterRunning k) := by
  have written : ArbRun s (s.enterSeq (.running k)).refreshCool := .on (.refreshCool _) rfl
  exact (written.trans (PlantSide.testHold _).arbRun).trans (.seqDecide _)

theorem ArbRun.allowedChanged (s : State) (k : Nat) : ArbRun s (s.allowedChanged k) :=
  .ite (.refl s) ((ArbRun.refreshCool s).trans (.seqDecide _))

theorem ArbRun.completeStep (s : State) : ArbRun s s.completeStep := by
  unfold State.completeStep
  split
  · exact .on (.enterRunning _ 1) rfl
  · exact .enterRunning s _
  · exact .enterRunning s _
  · exact .on (.refreshCool _) rfl
  · exact .refl s

theorem ArbRun.flameOut (s : State) : ArbRun s s.flameOut := (PlantSide.heaterFailure s).arbRun.trans (.refreshHeat _)

theorem ArbRun.heaterStop (s : State) : ArbRun s s.heaterStop := by
  unfold State.heaterStop
  split
  case h_1 => exact (NodeSide.plantMove s _ _ _).arbRun.trans (.on (.refreshHeat _) rfl)
  case h_2 => exact .on (NodeSide.plantMove _ _ _ _).arbRun rfl
  all_goals exact .refl s

theorem ArbRun.heaterLit (s : State) : ArbRun s s.heaterLit := by
  have written : ArbRun s ((s.setHeater { s.plant.heater with failures := 0 }).enterHeater .running).refreshHeat :=
    .on (.refreshHeat _) rfl
  exact written.trans (PlantSide.testStopDelay _).arbRun

theorem ArbRun.restReport (s : State) : ArbRun s s.restReport := .ite (.same rfl) (.refl s)

theorem ArbRun.setCoolant (s : State) (k : Nat) : ArbRun s (s.setCoolant k) := by
  have written : ArbRun s (s.setPlant { s.plant with coolant := k }).refreshHeat := .on (.refreshHeat _) rfl
  exact .ite (.refl s) (written.trans (PlantSide.testStopDelay _).arbRun)

/-! ## Zones (chapters 1 and 2) -/

theorem ArbRun.changeStack (s : State) (z : Zone) (f : ZoneRec → ZoneRec) : ArbRun s (s.changeStack z f) :=
  .on (PlantSide.modeNotice (s.modZone z f) _ _).arbRun rfl

theorem ArbRun.changeMode (s : State) (z : Zone) (f : ZoneRec → ZoneRec) : ArbRun s (s.changeMode z f) :=
  .ite (.changeStack s z f) ((ArbRun.changeStack s z f).trans (.evaluate _ z))

theorem ArbRun.startOverride (s : State) (z : Zone) (k : EntryKind) (c : Option PurgeCause) :
    ArbRun s (s.startOverride z k c) := .ite (.refl s) (.changeMode s z _)

theorem ArbRun.endOverride (s : State) (z : Zone) (k : EntryKind) : ArbRun s (s.endOverride z k) :=
  .ite (.changeMode s z _) (.refl s)

theorem ArbRun.changeSetpoint (s : State) (z : Zone) (f : ZoneRec → ZoneRec) : ArbRun s (s.changeSetpoint z f) :=
  .ite (.same rfl) (.on (.evaluate (s.modZone z f) z) rfl)

theorem ArbRun.changePlan (s : State) (z : Zone) (m : BaseMode) (f : ZoneRec → ZoneRec) : ArbRun s (s.changePlan z m f) :=
  .ite (.on (.evaluate (s.setZone z { f (s.zone z) with baseMode := m }) z) rfl) (.same rfl)

theorem ArbRun.failedRead (s : State) (z : Zone) : ArbRun s (s.failedRead z) :=
  .ite (.refl s) (.ite (.same rfl) (.on (.evaluate _ z) rfl))

theorem ArbRun.purgeCheck (s : State) (z : Zone) (c : Nat) : ArbRun s (s.purgeCheck z c) := by
  unfold State.purgeCheck
  dsimp only
  split
  · exact .ite (.changeStack s z _) (.refl s)
  · exact .ite (.changeStack s z _) (.refl s)

theorem ArbRun.takeReading (s : State) (z : Zone) (t : Int) (c : Nat) : ArbRun s (s.takeReading z t c) := by
  have checked : ArbRun s ((s.modZone z fun r =>
      { r with temperature := some t, co2 := some c, sensorStatus := .ok, missed := 0 }).purgeCheck z c) :=
    .on (.purgeCheck _ z c) rfl
  exact .ite (checked.trans (.evaluate _ z)) (.failedRead s z)

theorem ArbRun.readFailed (s : State) (z : Zone) : ArbRun s (s.readFailed z) := .ite (.failedRead s z) (.refl s)

theorem ArbRun.readGood (s : State) (z : Zone) (t : Int) (c : Nat) : ArbRun s (s.readGood z t c) :=
  .ite (.takeReading s z t c) (.refl s)

theorem ArbRun.loopExpiry (s : State) (z : Zone) : ArbRun s (s.loopExpiry z) := by
  have failed : ArbRun s
      ((s.modZone z fun r => { r with loopTimer := some (s.now + r.loopPeriod * Config.second) }).failedRead z) := .on (.failedRead _ z) rfl
  unfold State.loopExpiry
  dsimp only
  split
  · exact failed
  · exact .ite (.ite (.same rfl) (.on (NodeSide.askRead _ _ _).arbRun rfl)) failed

theorem ArbRun.doorOpened (s : State) (d : Door) (z : Zone) : ArbRun s (s.doorOpened d z) :=
  .ite (.refl s) (.ite (.ite (.same rfl) (.on (.changeMode _ z _) rfl)) (.same rfl))

theorem ArbRun.doorClosed (s : State) (d : Door) (z : Zone) : ArbRun s (s.doorClosed d z) := by
  have ended : ArbRun s ((s.setZone z { s.zone z with openDoors := (s.zone z).openDoors &&& ~~~ BitVec.twoPow 4 d.val
      }).endOverride z .curtain) := .on (.endOverride _ z _) rfl
  exact .ite (.ite ended (.same rfl)) (.refl s)

theorem ArbRun.curtainExpiry (s : State) (z : Zone) : ArbRun s (s.curtainExpiry z) := .endOverride s z _

theorem ArbRun.defogFor (s : State) (z : Zone) (k : Nat) : ArbRun s (s.defogFor z k) := .ite (.same rfl) (.changeMode s z _)

theorem ArbRun.claimAges (s : State) (z : Zone) : ArbRun s (s.claimAges z) := by
  unfold State.claimAges
  split
  · exact .refl s
  · exact .ite (.refl s) (.event (.age _ z))

/-! ## Entry to RUN (R161), and a node that goes down (R19, R88, R105, R151) -/

theorem ArbRun.startZones (s : State) : ArbRun s s.startZones :=
  (ArbRun.eachZone (f := State.startZone) (fun _ _ => .ite (.same rfl) (.refl _)) s).trans (.eachZone ArbRun.evaluate _)

theorem ArbRun.plantRun (s : State) : ArbRun s s.plantRun :=
  (((ArbRun.refreshCool s).trans (.seqDecide _)).trans (PlantSide.heaterStart _).arbRun).trans
    (.on (NodeSide.intakeCompare _).arbRun rfl)

theorem ArbRun.enterRun (s : State) : ArbRun s s.enterRun := by
  have zones : ArbRun s (s.enterPart .run).clearMarks.startZones := .on (.startZones _) rfl
  have revived := (zones.trans (.plantRun _)).trans
    (ArbRun.eachNode (f := State.startRevival) (fun _ _ => .ite (.same rfl) (.refl _)) _)
  exact revived.raise _ _

theorem ArbRun.testCommissioned (s : State) : ArbRun s s.testCommissioned := .ite (.enterRun s) (.refl s)

theorem ArbRun.markDone (s : State) (n : NodeId) : ArbRun s (s.markDone n) := .on (.testCommissioned _) rfl

theorem ArbRun.opFollow (s : State) : ArbRun s s.opFollow :=
  .ite (.eachNode (fun u n => .ite (.markDone u n) (.refl u)) s) (.refl s)

theorem ArbRun.heaterNodeDown (s : State) : ArbRun s s.heaterNodeDown := by
  unfold State.heaterNodeDown
  split
  case h_2 => exact .on (.refreshHeat _) rfl
  all_goals exact .same rfl

theorem ArbRun.plantNodeDown (s : State) (n : NodeId) (role : PlantRole) : ArbRun s (s.plantNodeDown n role) := by
  cases role with
  | compressor =>
    have faulted : ArbRun s (s.seqFault n) := .on (.refreshCool (s.enterSeq .fault)) rfl
    exact .ite (.refl s) (faulted.trans (.restReport _))
  | auxHeater => exact (ArbRun.heaterNodeDown s).trans (.restReport _)
  | intake => exact .refl s

theorem ArbRun.downNotice (s : State) (n : NodeId) : ArbRun s (s.downNotice n) := by
  unfold State.downNotice
  split
  · exact .refl s
  · exact .ite (.refl s) (.on (.evaluate _ _) rfl)
  · exact .plantNodeDown s n _

theorem ArbRun.opNodeDown (s : State) (n : NodeId) : ArbRun s (s.opNodeDown n) := .ite (.markDone s n) (.refl s)

theorem ArbRun.faultNotices (s : State) (n : NodeId) : ArbRun s (s.faultNotices n) :=
  (ArbRun.downNotice s n).trans (.on (.opNodeDown _ n) rfl)

theorem ArbRun.offlineNotices (s : State) (n : NodeId) : ArbRun s (s.offlineNotices n) :=
  (ArbRun.downNotice s n).trans (.on (.opNodeDown _ n) rfl)

end Sys2Proof.Machine
end

section
/-! SUPPORT for O59, continued: what the node manager's outcomes and the changes of part state bring the arbiter. -/
namespace Sys2Proof.Machine

/-! ## The changes of a node's state (R144 to R149) -/

theorem ArbRun.faultRecord (s : State) (n : NodeId) (why : FaultReason) : ArbRun s (s.faultRecord n why) :=
  .ite (.on (NodeSide.askHalt _ n).arbRun rfl) (.same rfl)

theorem ArbRun.enterFault (s : State) (n : NodeId) (why : FaultReason) : ArbRun s (s.enterFault n why) :=
  (ArbRun.faultRecord s n why).trans (.faultNotices _ n)

theorem ArbRun.unexpectedValue (s : State) (n : NodeId) : ArbRun s (s.unexpectedValue n) :=
  .ite (.refl s) (.enterFault s n _)

theorem ArbRun.startUp (s : State) (n : NodeId) (c : StartCause) : ArbRun s (s.startUp n c) :=
  .on (NodeSide.askStart (s.startingRecord n c 0 .wake) n).arbRun rfl

theorem ArbRun.revive (s : State) (n : NodeId) (b : Bool) : ArbRun s (s.revive n b) :=
  .ite (.same rfl) (.on (NodeSide.askStart (s.startingRecord n .revival 0 .ident) n).arbRun rfl)

theorem ArbRun.startFailed (s : State) (n : NodeId) (b : Bool) : ArbRun s (s.startFailed n b) :=
  .ite (.on (.offlineNotices _ n) rfl) (.same rfl)

theorem ArbRun.enterBusy (s : State) (n : NodeId) (b : Bool) : ArbRun s (s.enterBusy n b) := by
  unfold State.enterBusy State.pendQueued
  split <;> exact .same rfl

/-! ## The plant controller on a node's reports (chapters 4 and 5) -/

theorem ArbRun.askMove (s : State) (n : NodeId) (a : Nat) (o : Origin) : ArbRun s (s.askMove n a o) :=
  (NodeSide.askMove s n a o).arbRun

theorem ArbRun.heaterStart (s : State) : ArbRun s s.heaterStart := (PlantSide.heaterStart s).arbRun
theorem ArbRun.setSequencer (s : State) (q : Sequencer) : ArbRun s (s.setSequencer q) := .same rfl
theorem ArbRun.setPlant (s : State) (p : Plant) : ArbRun s (s.setPlant p) := .same rfl
theorem ArbRun.setOp (s : State) (o : OpControl) : ArbRun s (s.setOp o) := .same rfl
theorem ArbRun.enterSeq (s : State) (q : Seq) : ArbRun s (s.enterSeq q) := .same rfl

theorem ArbRun.leaveFault (s : State) (n : NodeId) : ArbRun s (s.leaveFault n) :=
  .ite ((ArbRun.askMove s n 0 .plant).trans (.on (.refreshCool _) rfl)) (.on (.refreshCool _) rfl)

theorem ArbRun.watchReport (s : State) (n : NodeId) : ArbRun s (s.watchReport n) :=
  .ite (.ite (.same rfl) (.ite (.unexpectedValue s n) (.refl s))) (.refl s)

theorem ArbRun.seqReport (s : State) (n : NodeId) : ArbRun s (s.seqReport n) := by
  refine .ite ?_ (.refl s)
  split
  · exact .ite ((ArbRun.completeStep s).trans (.restReport _)) (.ite (.refl s) (.unexpectedValue s n))
  · exact .refl s

theorem ArbRun.seqStopAgain (s : State) (n : NodeId) : ArbRun s (s.seqStopAgain n) := .ite (.askMove s n _ _) (.refl s)

theorem ArbRun.compressorNodeReady (s : State) (n : NodeId) (q : NodeState) (c : Option StartCause) :
    ArbRun s (s.compressorNodeReady n q c) :=
  .ite (.ite (.leaveFault s n) (.refl s))
    (((ArbRun.seqReport s n).trans (.watchReport _ n)).trans
      ((ArbRun.ite (.seqStopAgain _ n) (.refl _)).trans (.seqDecide _)))

theorem ArbRun.seqSteadyCheck (s : State) (n : NodeId) (b : Bool) (v : Nat) : ArbRun s (s.seqSteadyCheck n b v) := by
  unfold State.seqSteadyCheck
  split
  · exact .ite (.unexpectedValue s n) (.refl s)
  · exact .refl s

theorem ArbRun.heaterStopReport (s : State) (n : NodeId) (o : Origin) : ArbRun s (s.heaterStopReport n o) := by
  have stopped : ArbRun s (s.enterHeater .off).heaterStart := .on (.heaterStart _) rfl
  exact .ite (.ite (stopped.trans (.restReport _)) (.ite (.askMove s n _ _) (.refl s))) (.refl s)

theorem ArbRun.ignitionReport (s : State) (n : NodeId) : ArbRun s (s.ignitionReport n) :=
  .ite (.same rfl)
    (.ite
      (.ite (.ite (.on (.heaterStopReport _ n _) rfl) (.heaterLit s)) (.ite (.same rfl) (PlantSide.heaterFailure s).arbRun))
      (.refl s))

theorem ArbRun.heaterReport (s : State) (n : NodeId) : ArbRun s (s.heaterReport n) := by
  unfold State.heaterReport
  split
  case h_1 => exact .ignitionReport s n
  case h_2 => exact .heaterStopReport s n _
  all_goals exact .refl s

theorem ArbRun.auxNodeReady (s : State) (n : NodeId) (q : NodeState) (c : Option StartCause) :
    ArbRun s (s.auxNodeReady n q c) := by
  unfold State.auxNodeReady
  split
  · exact (ArbRun.ignitionReport s n).trans (.heaterStart _)
  · exact .heaterStopReport s n _
  · exact .ite (.flameOut s) (.refl s)
  · exact .ite (ArbRun.askMove s n 0 .plant) (.heaterStart s)
  all_goals exact .ite (.askMove s n _ _) (.refl s)

theorem ArbRun.plantNodeReady (s : State) (n : NodeId) (role : PlantRole) (q : NodeState) (c : Option StartCause) :
    ArbRun s (s.plantNodeReady n role q c) := by
  cases role with
  | compressor => exact .compressorNodeReady s n q c
  | auxHeater => exact .auxNodeReady s n q c
  | intake => exact (NodeSide.intakeNodeReady s n).arbRun

theorem ArbRun.readyNotice (s : State) (n : NodeId) (q : NodeState) (c : Option StartCause) :
    ArbRun s (s.readyNotice n q c) := by
  unfold State.readyNotice
  split
  · exact .refl s
  · exact .ite (.refl s) (.ite (.evaluate s _) (.ite (NodeSide.zoneTargets s _).arbRun (.refl s)))
  · exact .plantNodeReady s n _ q c

theorem ArbRun.plantMoved (s : State) (n : NodeId) (role : PlantRole) (t : Txn) (res : MoveResult) :
    ArbRun s (s.plantMoved n role t res) := by
  cases role with
  | compressor =>
    have watched (b : Bool) : ArbRun s (if b then s.setSequencer { s.plant.seq with watch := true } else s) :=
      .ite (.setSequencer s _) (.refl s)
    exact ((watched _).trans (.seqReport _ n)).trans (.ite (.watchReport _ n) (.refl _))
  | auxHeater => exact .ite (.same rfl) (.ite (.same rfl) (.heaterReport s n))
  | intake => exact .refl s

theorem ArbRun.plantStatus (s : State) (n : NodeId) (role : PlantRole) (t : Txn) (b : Bool) (v : Nat) :
    ArbRun s (s.plantStatus n role t b v) := by
  cases role with
  | compressor =>
    exact (ArbRun.ite (.seqSteadyCheck s n b v) (.refl s)).trans
      (.ite ((ArbRun.seqReport _ n).trans (.seqStopAgain _ n)) (.refl _))
  | auxHeater =>
    exact (ArbRun.ite (.ite (.flameOut s) (.refl s)) (.refl s)).trans (.ite (.heaterStopReport _ n _) (.refl _))
  | intake => exact .refl s

/-! ## Commissioning a node, and the reports of an outcome (R16, R134, R160) -/

theorem ArbRun.initialMove (s : State) (n : NodeId) : ArbRun s (s.initialMove n) := (NodeSide.initialMove s n).arbRun

theorem ArbRun.opNodeCheck (s : State) (n : NodeId) : ArbRun s (s.opNodeCheck n) := by
  refine .ite ?_ (.refl s)
  split
  · exact .on (.startUp _ n _) rfl
  · exact .ite (.markDone s n) (.initialMove s n)
  all_goals exact .refl s

theorem ArbRun.opMoved (s : State) (n : NodeId) (res : MoveResult) : ArbRun s (s.opMoved n res) :=
  .ite (.ite (.ite (.initialMove s n) (.refl s)) (.same rfl)) (.refl s)

theorem ArbRun.reportFailure (s : State) (t : Txn) : ArbRun s (s.reportFailure t) := by
  refine .ite (.foldl (fun u o => ?_) _ s) (.refl s)
  split
  · exact .readFailed u _
  · exact .refl u

theorem ArbRun.reportReading (s : State) (t : Txn) (temp : Int) (c : Nat) : ArbRun s (s.reportReading t temp c) := by
  refine .foldl (fun u o => ?_) _ s
  split
  · exact .readGood u _ _ _
  · exact .refl u

theorem ArbRun.reportMove (s : State) (t : Txn) (n : NodeId) (res : MoveResult) : ArbRun s (s.reportMove t n res) := by
  unfold State.reportMove
  split
  · exact (ArbRun.plantMoved s n _ t res).trans (.ite (.opMoved _ n res) (.refl _))
  all_goals exact .ite (.opMoved s n res) (.refl s)

theorem ArbRun.reportStatus (s : State) (t : Txn) (n : NodeId) (b : Bool) (v : Nat) :
    ArbRun s (s.reportStatus t n b v) := by
  unfold State.reportStatus
  split
  · exact .plantStatus s n _ t b v
  all_goals exact .refl s

/-- The reports of a transaction that has ended: the READ as a failure, then the MOVE. -/
theorem ArbRun.reported (s : State) (t : Txn) (n : NodeId) (res : MoveResult) :
    ArbRun s (if t.cmd = .move then (s.reportFailure t).reportMove t n res else s.reportFailure t) :=
  .ite ((ArbRun.reportFailure s t).trans (.reportMove _ t n res)) (.reportFailure s t)

/-! ## A failed transaction (R144, R147, R148) -/

theorem ArbRun.failedActive (s : State) (t : Txn) (n : NodeId) : ArbRun s (s.failedActive t n) := by
  have told (u : State) (b : Bool) : ArbRun u
      (let v := (if b then u.offlineRecord n else u).reportFailure t
       let w := if t.cmd = .move then v.reportMove t n .failed else v
       if b then w.offlineNotices n else w) :=
    ((ArbRun.ite (c := b = true) (t := u.offlineRecord n) (.same rfl) (.refl u)).trans (.reported _ t n .failed)).trans
      (.ite (.offlineNotices _ n) (.refl _))
  exact .on (told (s.modNode n fun r => { r with failCount := r.failCount + 1 }) _) rfl

theorem ArbRun.outcomeFailed (s : State) (t : Txn) (n : NodeId) : ArbRun s (s.outcomeFailed t n) := by
  unfold State.outcomeFailed
  split
  · exact .refl s
  · exact .failedActive s t n
  · exact .failedActive s t n
  · exact .ite (.startFailed s n _) (.ite (.startFailed s n _) (.refl s))
  · exact .refl s
  · exact .ite (.same rfl) (.refl s)

/-! ## Replies (R130 to R134, R142, R145, R147 to R149) -/

theorem ArbRun.replyFault (s : State) (t : Txn) (n : NodeId) (why : FaultReason) : ArbRun s (s.replyFault t n why) :=
  ((ArbRun.faultRecord s n why).trans (.reportFailure _ t)).trans (.faultNotices _ n)

theorem ArbRun.replyRestart (s : State) (t : Txn) (n : NodeId) : ArbRun s (s.replyRestart t n) :=
  .on ((ArbRun.reported (s.startingRecord n .restart 0 .wake) t n .restarted).trans (NodeSide.askStart _ n).arbRun) rfl

theorem ArbRun.endBusy (s : State) (n : NodeId) : ArbRun s (s.endBusy n) := by
  unfold State.endBusy
  dsimp only
  split
  · exact .same rfl
  · exact .ite (.same rfl) (.on (NodeSide.request _ _).arbRun rfl)

theorem ArbRun.statusReply (s : State) (t : Txn) (n : NodeId) (b : Bool) (v g : Nat) :
    ArbRun s (s.statusReply t n b v g) := by
  have busy (u : State) (p : Prop) [Decidable p] : ArbRun u (if p then u.enterBusy n false else u) :=
    .ite (.enterBusy u n _) (.refl u)
  refine .on (t := s.modNode n fun r => r.withStatus v g) ?_ rfl
  exact .ite ((busy _ _).trans (.reportStatus _ t n b v))
    (.ite (((ArbRun.endBusy _ n).trans (.reportStatus _ t n b v)).trans (.ite (.readyNotice _ n _ _) (.refl _)))
      (.reportStatus _ t n b v))

theorem ArbRun.readReply (s : State) (t : Txn) (n : NodeId) (b : Bool) (temp : Int) (c : Nat) :
    ArbRun s (s.readReply t n b temp c) :=
  .on (t := s.modNode n fun r => { r with value := some (.reading temp c) })
    ((ArbRun.ite (.enterBusy _ n _) (.refl _)).trans (.reportReading _ t temp c)) rfl

theorem ArbRun.moveReply (s : State) (t : Txn) (n : NodeId) (b q : Bool) (x : Byte) :
    ArbRun s (s.moveReply t n b q x) := by
  have moving (u : State) (res : MoveResult) : ArbRun u ((u.enterBusy n false).reportMove t n res) :=
    (ArbRun.enterBusy u n false).trans (.reportMove _ t n res)
  refine .ite ?_ (.replyFault s t n _)
  split
  · exact .on (moving _ _) rfl
  · exact .on (.reportMove _ t n _) rfl
  · exact .on (moving _ _) rfl
  · exact .ite (.reportMove s t n _) (.replyFault s t n _)

theorem ArbRun.moveReplyStarting (s : State) (t : Txn) (n : NodeId) (b q : Bool) (x : Byte) :
    ArbRun s (s.moveReplyStarting t n b q x) := by
  refine .ite ?_ (.replyFault s t n _)
  split
  · exact .same rfl
  · exact .same rfl
  · exact .refl s
  · exact .ite (.refl s) (.replyFault s t n _)

theorem ArbRun.replyActive (s : State) (t : Txn) (n : NodeId) (st : Byte) (data : List Byte) :
    ArbRun s (s.replyActive t n st data) := by
  refine .ite (.replyRestart s t n) (.ite (.replyFault s t n _) (.ite (.replyFault s t n _) ?_))
  split
  · exact .ite (.statusReply s t n _ _ _) (.replyFault s t n _)
  · exact .readReply s t n _ _ _
  · exact .moveReply s t n _ _ _
  · exact .refl s

theorem ArbRun.restore (s : State) (n : NodeId) : ArbRun s (s.restore n) := by
  unfold State.restore
  split
  · exact .refl s
  · exact .ite (.refl s) (NodeSide.request s _).arbRun

theorem ArbRun.startEnds (s : State) (n : NodeId) (v : Byte) : ArbRun s (s.startEnds n v) :=
  .on (t := s.modNode n fun r => { r with state := .ready, version := some v, wakeTimer := none })
    ((ArbRun.ite (.restore _ n) (.refl _)).trans (.readyNotice _ n _ _)) rfl

theorem ArbRun.replyStarting (s : State) (t : Txn) (n : NodeId) (st : Byte) (data : List Byte) :
    ArbRun s (s.replyStarting t n st data) := by
  refine .ite (.ite (.startFailed s n _) (.ite (.startFailed s n _) (.refl s)))
    (.ite (.replyFault s t n _) (.ite (.replyFault s t n _) ?_))
  split
  · exact .ite (.on (NodeSide.askStart _ n).arbRun rfl) (.refl s)
  · exact .ite (.startEnds s n _) (.replyFault s t n _)
  · exact .ite (.same rfl) (.replyFault s t n _)
  · exact .same rfl
  · exact .moveReplyStarting s t n _ _ _
  · exact .refl s

theorem ArbRun.replyOffline (s : State) (t : Txn) (n : NodeId) (st : Byte) : ArbRun s (s.replyOffline t n st) :=
  .ite (.replyFault s t n _) (.ite (.replyFault s t n _) (.ite (.revive s n _) (.refl s)))

theorem ArbRun.retrySucceeds (s : State) (n : NodeId) (v : Byte) : ArbRun s (s.retrySucceeds n v) :=
  .ite (.on (.enterBusy _ n _) rfl) (.on (.readyNotice _ n _ _) rfl)

theorem ArbRun.replyRetry (s : State) (t : Txn) (n : NodeId) (st : Byte) (data : List Byte) :
    ArbRun s (s.replyRetry t n st data) := by
  refine .ite (.startUp s n _) (.ite (.startUp s n _) (.ite (.same rfl) (.ite (.same rfl) ?_)))
  split
  · exact .ite (.on (NodeSide.askOwn _ n _ _).arbRun rfl) (.same rfl)
  · exact .ite (.retrySucceeds s n _) (.same rfl)
  · exact .refl s

theorem ArbRun.outcomeOk (s : State) (t : Txn) (n : NodeId) (st : Byte) (data : List Byte) :
    ArbRun s (s.outcomeOk t n st data) := by
  unfold State.outcomeOk
  split
  · exact .refl s
  · exact .on (.replyActive _ t n st data) rfl
  · exact .on (.replyActive _ t n st data) rfl
  · exact .on (.replyStarting _ t n st data) rfl
  · exact .on (.replyOffline _ t n st) rfl
  · exact .ite (.on (.replyRetry _ t n st data) rfl) (.same rfl)

theorem ArbRun.takeOutcome (s : State) (t : Txn) (n : NodeId) (res : TxnResult) : ArbRun s (s.takeOutcome t n res) := by
  cases res with
  | ok st data => exact ((ArbRun.outcomeOk s t n st data).trans (.opNodeCheck _ n)).trans (.opFollow _)
  | failed a b => exact ((ArbRun.outcomeFailed s t n).trans (.opNodeCheck _ n)).trans (.opFollow _)

/-! ## Entry to COMMISSIONING and to STOPPING (R157, R159, R163) -/

theorem ArbRun.beginWork (s : State) (n : NodeId) : ArbRun s (s.beginWork n) := by
  have started : ArbRun s ((s.setWork n .startUp).startUp n .commission) := .on (.startUp _ n _) rfl
  refine .ite ?_ (.refl s)
  split
  · exact started
  · exact started
  · exact started
  · exact .same rfl
  · exact .same rfl
  · exact .markDone s n

theorem ArbRun.seqCommissioning (s : State) (w : Bool) : ArbRun s (s.seqCommissioning w) :=
  (ArbRun.ite (.enterSeq s _) (.refl s)).trans (.setSequencer _ _)

theorem ArbRun.intakeCommissioning (s : State) : ArbRun s s.intakeCommissioning := .same rfl

theorem ArbRun.enterCommissioning (s : State) : ArbRun s s.enterCommissioning := by
  have entered : ArbRun s
      ((s.setOp { s.op with configChanged := false, lastRefusal := none, haltSent := false }).clearMarks.enterPart
        .commissioning) := .same rfl
  have bound := entered.trans (.eachNode (f := State.bind) (fun _ _ => .same rfl) _)
  have planned := (bound.trans (.seqCommissioning _ s.compressorBound)).trans (.intakeCommissioning _)
  exact (planned.trans (NodeSide.askBroadcast _ _ _).arbRun).trans (.eachNode ArbRun.beginWork _)

theorem ArbRun.quietZones (s : State) : ArbRun s s.quietZones :=
  .eachZone (f := fun u z => u.modZone z ZoneRec.quieted) (fun _ _ => .same rfl) s

theorem ArbRun.quietNodes (s : State) : ArbRun s s.quietNodes :=
  .on (t := (s.setQueue []).setLine { s.line with txn := s.line.txn.map Txn.cutOff })
    (.eachNode (f := State.quietNode) (fun _ _ => .same rfl) _) rfl

theorem ArbRun.quietSequencer (s : State) : ArbRun s s.quietSequencer :=
  (ArbRun.ite (.enterSeq s _) (.refl s)).trans (.setSequencer _ _)

theorem ArbRun.quietHeater (s : State) : ArbRun s s.quietHeater := by
  unfold State.quietHeater
  split <;> exact .same rfl

theorem ArbRun.quietPlant (s : State) : ArbRun s s.quietPlant :=
  (((ArbRun.quietSequencer s).trans (.quietHeater _)).trans (.setPlant _ _)).trans
    ((ArbRun.refreshCool _).trans (.refreshHeat _))

theorem ArbRun.enterStopping (s : State) : ArbRun s s.enterStopping := by
  have dropped : ArbRun s ((s.clearMarks.enterPart .stopping).setArb (s.clearMarks.enterPart .stopping).arb.dropAll) :=
    .event .drop
  have quiet := ((dropped.trans (.quietZones _)).trans (.quietNodes _)).trans (.quietPlant _)
  exact (quiet.trans (NodeSide.askBroadcast _ _ _).arbRun).trans (.restReport _)

end Sys2Proof.Machine
end

section
/-! SUPPORT for O59, continued: the field line and the timers. -/
namespace Sys2Proof.Machine

/-! ## The field line (chapter 6) -/

theorem ArbRun.phaseEnd (s : State) (p : LinePhase) {f : State → State} (h : ∀ u, ArbRun u (f u)) :
    ArbRun s (s.phaseEnd p f) := by
  unfold State.phaseEnd
  split
  · exact .refl s
  · exact .ite (.on (h _) rfl) (.refl s)

theorem ArbRun.freeLine (s : State) : ArbRun s s.freeLine := (NodeSide.freeLine s).arbRun

theorem ArbRun.enterPhase (s : State) (p : LinePhase) (w : Nat) : ArbRun s (s.enterPhase p w) := .same rfl

theorem ArbRun.deliver (s : State) (t : Txn) (res : TxnResult) : ArbRun s (s.deliver t res) := by
  unfold State.deliver
  dsimp only
  split
  · exact .on (.freeLine _) rfl
  · exact .on (t := s.setLine { s.line with timer := none }) ((ArbRun.takeOutcome _ t _ res).trans (.freeLine _)) rfl

theorem ArbRun.attemptFailed (s : State) (k : FailKind) : ArbRun s (s.attemptFailed k) := by
  unfold State.attemptFailed
  split
  · exact .freeLine s
  · exact .ite (.same rfl) (.deliver s _ _)

theorem ArbRun.beginFrame (s : State) : ArbRun s s.beginFrame := by
  unfold State.beginFrame
  split
  · exact .refl s
  · exact .enterPhase s _ _

theorem ArbRun.endTrail (s : State) : ArbRun s s.endTrail := by
  unfold State.endTrail
  split
  · exact .refl s
  · split
    · exact .enterPhase s _ _
    · exact .enterPhase s _ _

theorem ArbRun.afterReset (s : State) (c : ResetCause) : ArbRun s (s.afterReset c) := .event .reset

theorem ArbRun.reportSent (s : State) (t : Txn) : ArbRun s (s.reportSent t) :=
  .ite (.afterReset s _)
    (.on (t := s.setLine { s.line with timer := none })
      ((ArbRun.ite ((ArbRun.setOp _ _).trans (.testCommissioned _)) (.refl _)).trans (.freeLine _)) rfl)

theorem ArbRun.broadcastEnds (s : State) : ArbRun s (match s.line.txn with
    | none => s.freeLine
    | some t => s.reportSent t) := by
  split
  · exact .freeLine s
  · exact .reportSent s _

theorem ArbRun.receiveChar (s : State) (d : Byte) (m p q : Bool) : ArbRun s (s.receiveChar d m p q) := by
  have taken (u : State) (start : Time) (c : Command) : ArbRun u (u.takeChar start c d) :=
    .ite (.same rfl) (.ite (.same rfl) (.same rfl))
  unfold State.receiveChar
  dsimp only
  split
  · exact .ite (.on (taken _ _ _) rfl) (.same rfl)
  · exact .ite (taken s _ _) (.same rfl)
  · exact .same rfl
  · exact .same rfl
  · exact .refl s

theorem ArbRun.charArrives (s : State) : ArbRun s s.charArrives := by
  unfold State.charArrives
  split <;> exact .same rfl

theorem ArbRun.replyComplete (s : State) : ArbRun s s.replyComplete := by
  unfold State.replyComplete
  split
  · exact .ite (.attemptFailed s _) (.deliver s _ _)
  · exact .refl s

theorem ArbRun.drainEnd (s : State) : ArbRun s s.drainEnd := by
  have drained (u : State) : ArbRun u u.drained := .ite (.enterPhase u _ _) (.attemptFailed u _)
  unfold State.drainEnd
  split
  · exact .refl s
  · exact .ite (.on (drained _) rfl) (.refl s)

theorem ArbRun.gapEnded (s : State) : ArbRun s s.gapEnded :=
  .ite (.on (t := s.setLine Line.reset)
      (.ite (.on (NodeSide.startTxn _ _).arbRun rfl) (NodeSide.handOver _).arbRun) rfl)
    (.enterPhase s _ _)

/-! ## The timers -/

theorem ArbRun.expire (s : State) (t : Timer) {f : State → State} (h : ∀ u, ArbRun u (f u)) : ArbRun s (s.expire t f) := by
  unfold State.expire
  split
  · exact .refl s
  · exact .on (h _) rfl

theorem ArbRun.minRunExpiry (s : State) : ArbRun s s.minRunExpiry :=
  .on (t := s.setSequencer { s.plant.seq with minRunTimer := none, minRunExpired := true })
    (.ite (.shedStage _ 1) (.refl _)) rfl

theorem ArbRun.holdDone (s : State) : ArbRun s s.holdDone := by
  unfold State.holdDone
  dsimp only
  split
  · exact .on (t := s.setSequencer { s.plant.seq with holdTimer := none }) (.ite (.shedStage _ _) (.setSequencer _ _)) rfl
  · exact .setSequencer s _

theorem ArbRun.steadyStatus (s : State) (n : Option NodeId) : ArbRun s (s.steadyStatus n) :=
  (NodeSide.steadyStatus s n).arbRun

theorem ArbRun.wakeExpiry (s : State) (n : NodeId) : ArbRun s (s.wakeExpiry n) :=
  .on (t := s.modNode n fun r => { r with wakeTimer := some (s.now + Config.wakePeriod) })
    (.ite (.refl _) (NodeSide.askStart _ n).arbRun) rfl

theorem ArbRun.nodePoll (s : State) (n : NodeId) : ArbRun s (s.nodePoll n) :=
  .on (t := s.modNode n fun r => { r with pollTimer := some (s.now + s.nodes.tuning.pollInterval * Config.ms) })
    (((NodeSide.askStatus _ n .poll).arbRun.trans (NodeSide.dueAtPoll _ n).arbRun).trans (.opFollow _)) rfl

theorem ArbRun.travelExpiry (s : State) (n : NodeId) : ArbRun s (s.travelExpiry n) :=
  .ite ((ArbRun.enterFault s n _).trans (.opFollow _)) (.refl s)

theorem ArbRun.revivalExpiry (s : State) (n : NodeId) : ArbRun s (s.revivalExpiry n) :=
  .on (t := s.modNode n fun r => { r with revivalTimer := some (s.now + Config.revivalPeriod) })
    (NodeSide.askOwn _ n _ _).arbRun rfl

theorem ArbRun.pollTickExpiry (s : State) : ArbRun s s.pollTickExpiry :=
  .on (t := { s with nodes := { s.nodes with pollTick := some (s.now + s.nodes.tuning.pollInterval * Config.ms) } })
    ((ArbRun.eachNode (fun u n => (NodeSide.tickNode u n).arbRun) _).trans (.opFollow _)) rfl

end Sys2Proof.Machine
end

section
/-! SUPPORT for O59, continued: what the owners do with a request, and the port. -/
namespace Sys2Proof.Machine

/-! ## The owners (chapters 1 to 8) -/

/-- What an owner gives back is a run away. -/
def Taken.arbRun (s : State) (x : Taken) : Prop := ArbRun s x.1

theorem Taken.arbRun.same {s t : State} (a : Answer) (h : t.arb = s.arb) : Taken.arbRun s (t, a) := ArbRun.same h

theorem Taken.arbRun.accepted {s t : State} (h : ArbRun s t) : Taken.arbRun s (accept t) := h

theorem Taken.arbRun.ite {s : State} {c : Prop} [Decidable c] {x y : Taken} (a : Taken.arbRun s x) (b : Taken.arbRun s y) :
    Taken.arbRun s (if c then x else y) := by
  split
  · exact a
  · exact b

theorem Taken.arbRun.field {α : Type} {s : State} (v : Option α) {f : α → Taken} (h : ∀ a, Taken.arbRun s (f a)) :
    Taken.arbRun s (withField s v f) := by
  unfold withField
  split
  · exact .same _ rfl
  · exact h _

theorem Taken.arbRun.zone {s : State} (zone : Byte) {f : Zone → Taken} (h : ∀ z, Taken.arbRun s (f z)) :
    Taken.arbRun s (s.withZone zone f) := .field _ fun z => .ite (h z) (.same _ rfl)

theorem Taken.arbRun.source {s : State} (zone source : Byte) {f : Source → Taken} (h : ∀ q, Taken.arbRun s (f q)) :
    Taken.arbRun s (s.withSource zone source f) := .field _ fun q => .ite (.same _ rfl) (h q)

theorem ArbRun.unbindZone (s : State) (z : Zone) : ArbRun s (s.unbindZone z) := by
  refine .eachNode (fun u n => ?_) s
  split
  · exact .ite (.same rfl) (.refl u)
  · exact .refl u
  · exact .refl u

theorem ArbRun.configured {s t : State} (h : ArbRun s t) : ArbRun s t.configChange := h

theorem Taken.arbRun.takeZoneDef (s : State) (act : Byte) (a : ZoneDefArgs) : Taken.arbRun s (s.takeZoneDef act a) := by
  have unbound (z : Zone) (r : ZoneRec) : ArbRun s ((s.setZone z r).unbindZone z) :=
    .on (t := s.setZone z r) (.unbindZone _ z) rfl
  have written (z : Zone) (r : ZoneRec) : Taken.arbRun s (accept ((s.setZone z r).unbindZone z).configChange) :=
    .accepted (unbound z r).configured
  exact .field _ fun _ => .field _ fun _ => .ite
    (.field _ fun z => .field _ fun _ => .field _ fun _ => .field _ fun _ => .field _ fun _ => .field _ fun _ =>
      .field _ fun _ => .field _ fun _ => .field _ fun _ => .field _ fun _ => .field _ fun _ => written z _)
    (.field _ fun z => written z _)

theorem Taken.arbRun.takeNodeDef (s : State) (a c k : Byte) : Taken.arbRun s (s.takeNodeDef a c k) :=
  .field _ fun _ => .field _ fun _ => .ite (.field _ fun _ => .same _ rfl) (.same _ rfl)

theorem Taken.arbRun.takeDoorDef (s : State) (d : Byte) (zs : BitVec 24) : Taken.arbRun s (s.takeDoorDef d zs) :=
  .field _ fun _ => .same _ rfl

theorem Taken.arbRun.takePlantDef (s : State) (a : PlantDefArgs) : Taken.arbRun s (s.takePlantDef a) :=
  .field _ fun d => .accepted (ArbRun.on (t := s.setPlant { s.plant with defn := d }) (.refreshHeat _) rfl)

theorem Taken.arbRun.takeTuneDef (s : State) (a : TuneDefArgs) : Taken.arbRun s (s.takeTuneDef a) :=
  .field _ fun t => .accepted (t := (s.tune t).configChange) (.event (.tune _))

theorem Taken.arbRun.takeCommission (s : State) : Taken.arbRun s s.takeCommission := by
  unfold State.takeCommission
  split
  · exact .same _ rfl
  · exact .accepted (.enterCommissioning s)

theorem Taken.arbRun.takeSetpoint (s : State) (zone : Byte) (q : Source) (v : Word) :
    Taken.arbRun s (s.takeSetpoint zone q v) :=
  .zone _ fun z => .field _ fun _ => .ite (.accepted (.changeSetpoint s z _)) (.same _ rfl)

theorem Taken.arbRun.takePlan (s : State) (zone : Byte) (q : Source) (m : Byte) (v : Word) :
    Taken.arbRun s (s.takePlan zone q m v) :=
  .zone _ fun z => .field _ fun _ => .field _ fun _ => .ite (.accepted (.changePlan s z _ _)) (.same _ rfl)

theorem ArbRun.eachDoorZone {f : State → Zone → State} (h : ∀ u z, ArbRun u (f u z)) (s : State) (d : Door) :
    ArbRun s (s.eachDoorZone d f) := .eachZone (fun u z => .ite (h u z) (.refl u)) s

theorem Taken.arbRun.takeDoor (s : State) (d a : Byte) : Taken.arbRun s (s.takeDoor d a) :=
  .field _ fun d => .ite (.accepted (.eachDoorZone (fun u z => .doorOpened u d z) s d))
    (.ite (.accepted (.eachDoorZone (fun u z => .doorClosed u d z) s d)) (.same _ rfl))

theorem Taken.arbRun.takeDefog (s : State) (zone d : Byte) : Taken.arbRun s (s.takeDefog zone d) :=
  .zone _ fun z => .field _ fun _ => .accepted (.ite (.endOverride s z _) (.defogFor s z _))

theorem Taken.arbRun.takePurge (s : State) (zone a : Byte) : Taken.arbRun s (s.takePurge zone a) :=
  .zone _ fun z => .ite (.accepted (.startOverride s z _ _)) (.ite (.accepted (.endOverride s z _)) (.same _ rfl))

theorem Taken.arbRun.takeEngine (s : State) (b k : Byte) : Taken.arbRun s (s.takeEngine b k) :=
  .field _ fun b => .field _ fun _ => .accepted
    (ArbRun.on (t := s.setPlant { s.plant with band := b }) ((ArbRun.allowedChanged _ _).trans (.setCoolant _ _)) rfl)

theorem Taken.arbRun.takeAux (s : State) (a : Byte) : Taken.arbRun s (s.takeAux a) :=
  .ite (.accepted (ArbRun.on (t := s.setHeater { s.plant.heater with permit := true }) (.heaterStart _) rfl))
    (.ite (.accepted (ArbRun.on (t := s.setHeater { s.plant.heater with permit := false }) (.heaterStop _) rfl))
      (.same _ rfl))

theorem Taken.arbRun.takeAuxClear (s : State) : Taken.arbRun s s.takeAuxClear :=
  .ite (.accepted
    (ArbRun.on (t := (s.setHeater { s.plant.heater with failures := 0 }).enterHeater .off) (.heaterStart _) rfl))
    (.same _ rfl)

theorem Taken.arbRun.takeNodeRetry (s : State) (n a : Byte) : Taken.arbRun s (s.takeNodeRetry n a) :=
  .field _ fun n => .field _ fun a => .ite (.accepted (NodeSide.retryNode s n a).arbRun) (.same _ rfl)

theorem Taken.arbRun.takeCondClear (s : State) (set : Word) : Taken.arbRun s (s.takeCondClear set) :=
  .field _ fun named => ArbRun.on (t := s.setCond (s.cond.clearNamed named))
    (.eachZone (f := fun u z => u.modZone z fun r => { r with flags := r.flags.clearNamed named (u.actuatorsSound z) })
      (fun _ _ => .same rfl) _) rfl

theorem Taken.arbRun.takeCondMask (s : State) (set : Word) (e : Byte) : Taken.arbRun s (s.takeCondMask set e) :=
  .field _ fun _ => .field _ fun _ => .same _ rfl

/-! ## The port's own requests (R174 to R178) -/

theorem Taken.arbRun.takeRangeOpen (s : State) (f : Byte) : Taken.arbRun s (s.takeRangeOpen f) :=
  .field _ fun _ => .same _ rfl

theorem Taken.arbRun.takeRangeClose (s : State) (found : RangeTag) (k : Byte) :
    Taken.arbRun s (s.takeRangeClose found k) := by
  cases found with
  | none => exact .same _ rfl
  | opened f => exact .field _ fun _ => .same _ rfl
  | closed f k' => exact .field _ fun _ => .same _ rfl

theorem ArbRun.walkTag (s : State) (zs : List Zone) (p : State → Zone → Bool) {f : State → Zone → State}
    (h : ∀ u z, ArbRun u (f u z)) : ArbRun s (s.walkTag zs p f).1 := by
  have walked (k : Nat) : ArbRun s (zs.foldl (fun r z => if p r.1 z then (f r.1 z, r.2 + 1) else r) (s, k)).1 := by
    induction zs generalizing s k with
    | nil => exact .refl s
    | cons z zs ih =>
      rw [List.foldl_cons]
      split
      · exact (h s z).trans (ih _ _)
      · exact ih s k
  exact walked 0

theorem Taken.arbRun.writeProtection (s : State) (p : Protection) (a b : Nat) :
    Taken.arbRun s (s.writeProtection p a b) := .ite (.same _ rfl) (.same _ rfl)

theorem Taken.arbRun.applyUnprotect (s : State) (q : Source) (a b : Nat) : Taken.arbRun s (s.applyUnprotect q a b) := by
  refine .ite (.same _ rfl) ?_
  split
  · exact .same _ rfl
  · exact .writeProtection s _ _ _

theorem Taken.arbRun.takeRangeApply (s : State) (found : RangeTag) (q x : Byte) (v : Word) :
    Taken.arbRun s (s.takeRangeApply found q x v) := by
  cases found with
  | none => exact .same _ rfl
  | opened f => exact .same _ rfl
  | closed a b =>
    refine .field _ fun q => .field _ fun x => ?_
    cases x with
    | planMode m => exact ArbRun.walkTag s _ _ fun u z => .changePlan u z m _
    | planSetpoint v => exact ArbRun.walkTag s _ _ fun u z => .changeSetpoint u z (u.setpointChange q v)
    | protect k => exact .ite (.same _ rfl) (.writeProtection s _ _ _)
    | unprotect => exact .applyUnprotect s q a b

/-! ## A frame is taken (R168 to R172) -/

theorem Taken.arbRun.ownerTakes (s : State) (k : Kind) (found : RangeTag) (p : List Byte) :
    Taken.arbRun s (s.ownerTakes k found p) := by
  cases k
  all_goals (unfold State.ownerTakes; dsimp only)
  case commission => exact .takeCommission s
  case shutdown => exact .accepted (.enterStopping s)
  case restart => exact .same _ rfl
  case auxClear => exact .takeAuxClear s
  case protectLock => exact .ite (.same _ rfl) (.same _ rfl)
  case stateQuery | plantQuery | condQuery => exact .same _ rfl
  -- a payload of another length than its kind's is refused; the rest in the order of the kinds
  all_goals (split; case h_2 => exact .same _ rfl)
  · exact .takeZoneDef s _ _
  · exact .takeNodeDef s _ _ _
  · exact .takeDoorDef s _ _
  · exact .takePlantDef s _
  · exact .takeTuneDef s _
  · exact .source _ _ fun q => .takePlan s _ q _ _
  · exact .source _ _ fun q => .takeSetpoint s _ q _
  · exact .takeRangeOpen s _
  · exact .takeRangeClose s _ _
  · exact .takeRangeApply s _ _ _ _
  · exact .takeDoor s _ _
  · exact .takeEngine s _ _
  · exact .source _ _ fun _ => .takeDefog s _ _
  · exact .source _ _ fun _ => .takePurge s _ _
  · exact .takeAux s _
  · exact .takeNodeRetry s _ _
  · exact .field _ fun _ => .same _ rfl
  · exact .field _ fun _ => .field _ fun _ => .field _ fun _ => .same _ rfl
  · exact .field _ fun _ => .same _ rfl
  · exact .takeCondClear s _
  · exact .takeCondMask s _ _

theorem Taken.arbRun.takeRequest (s : State) (k : Kind) (p : List Byte) : Taken.arbRun s (s.takeRequest k p) :=
  .ite
    (.ite (.same _ rfl)
      (.ite (ArbRun.on (t := s.setTag (k.tagEffect.after s.port.tag)) (Taken.arbRun.ownerTakes _ k _ p) rfl) (.same _ rfl)))
    (.same _ rfl)

theorem ArbRun.takeFrame (s : State) (f : RxFrame) : ArbRun s (s.takeFrame f) := by
  cases f with
  | badLen => exact .same rfl
  | whole k t p c =>
    refine .ite ?_ (.same rfl)
    unfold State.takeGood
    split
    · exact .same rfl
    · exact ArbRun.trans (Taken.arbRun.takeRequest s _ p) (.same rfl)

theorem ArbRun.offer (s : State) (f : RxFrame) : ArbRun s (s.offer f) :=
  .ite (.same rfl) (.ite (.same rfl) (.takeFrame s f))

theorem ArbRun.orderCut (s : State) : ArbRun s s.orderCut := by
  unfold State.orderCut
  dsimp only
  split <;> exact .same rfl

theorem ArbRun.takeSlot (s : State) : ArbRun s s.takeSlot := by
  unfold State.takeSlot
  split
  · exact .refl s
  · exact .on (.takeFrame _ _) rfl

theorem ArbRun.replyEnds (s : State) : ArbRun s s.replyEnds := by
  unfold State.replyEnds
  split
  · exact .refl s
  · exact .on (t := s.setPort { s.port with sending := none }) (.ite (.orderCut _) (.takeSlot _)) rfl

theorem ArbRun.takeByte (s : State) (b : Byte) : ArbRun s (s.takeByte b) := by
  have heard (f : RxFrame) : ArbRun s ((s.setRx .hunt).offer f) := .on (.offer _ f) rfl
  unfold State.takeByte
  split
  · exact .ite (.same rfl) (.refl s)
  · exact .ite (.same rfl) (heard _)
  · exact .ite (.same rfl) (heard _)

theorem ArbRun.frameGap (s : State) : ArbRun s (match s.port.rxTimer with
    | none => s
    | some t => (s.reach t).setRx .hunt) := by
  split
  · exact .refl s
  · exact .same rfl

theorem ArbRun.shedEvent (s : State) (b : Bool) : ArbRun s (s.shedEvent b) :=
  .on (t := s.viewShed b) (.allowedChanged _ _) rfl

end Sys2Proof.Machine
end

section
/-! Every step keeps the pools sound (O59). -/
namespace Sys2Proof.Machine

/-- Where the outcome is a next state, the arbiter has seen a run of its events. -/
def RunsArbiter (s : State) (o : Host.Outcome State Fault Refusal) : Prop := ∀ t, o = .next t → ArbRun s t

theorem RunsArbiter.next {s t : State} (h : ArbRun s t) : RunsArbiter s (.next t) := fun u e => by
  cases e
  exact h

theorem RunsArbiter.answer (s : State) {f : State → State} (h : ∀ u, ArbRun u (f u)) : RunsArbiter s (s.answer f) :=
  .next (.ite (.refl s) (h s))

theorem RunsArbiter.expiry (s : State) (timer : State → Timer) {f : State → State} (h : ∀ u, ArbRun u (f u)) :
    RunsArbiter s (s.answer fun s => s.expire (timer s) f) := .answer s fun u => .expire u _ h

theorem RunsArbiter.phase (s : State) (p : LinePhase) {f : State → State} (h : ∀ u, ArbRun u (f u)) :
    RunsArbiter s (s.answer (·.phaseEnd p f)) := .answer s fun u => .phaseEnd u p h

theorem RunsArbiter.request (s : State) (k : Kind) (tag : Byte) (p : List Byte) :
    RunsArbiter s (s.answer (·.hostRequest k tag p)) := .answer s fun u => .offer u _

theorem RunsArbiter.zoneEvent (s : State) (k : Nat) {f : Zone → State → State} (h : ∀ z u, ArbRun u (f z u)) :
    RunsArbiter s (s.zoneEvent k f) := by
  unfold State.zoneEvent
  split
  · exact fun t e => by cases e
  · exact .answer s (h _)

theorem RunsArbiter.nodeEvent (s : State) (k : Nat) {f : NodeId → State → State} (h : ∀ n u, ArbRun u (f n u)) :
    RunsArbiter s (s.nodeEvent k f) := by
  unfold State.nodeEvent
  split
  · exact fun t e => by cases e
  · exact .answer s (h _)

/-- What a command does to the arbiter is a run of the arbiter's events. -/
theorem exec_runsArbiter (c : Instr) (s : State) : RunsArbiter s (exec c s) := by
  cases c
  case frameReceived bs => exact .answer s fun u => .foldl ArbRun.takeByte bs u
  case frameGapTimeout => exact .answer s .frameGap
  case replySent => exact .answer s .replyEnds
  case rangeApplyProtect | rangeApplyUnprotect | protectLock => exact RunsArbiter.request (s.setKey _) _ _ _
  case hardResetHold => exact .next (.same rfl)
  case hardReset k => exact .next (.afterReset s _)
  case shedNAsserted => exact RunsArbiter.answer (s.setShedLine true) fun u => .shedEvent u _
  case shedNReleased => exact RunsArbiter.answer (s.setShedLine false) fun u => .shedEvent u _
  case loopTimerExpiry => exact .zoneEvent s _ fun z u => .expire u _ fun v => .loopExpiry v z
  case holdTimerExpiry => exact .zoneEvent s _ fun z u => .expire u _ fun v => .changeSetpoint v z _
  case defogTimerExpiry => exact .zoneEvent s _ fun z u => .expire u _ fun v => .endOverride v z _
  case curtainTimerExpiry => exact .zoneEvent s _ fun z u => .expire u _ fun v => .curtainExpiry v z
  case claimSaturation => exact .zoneEvent s _ fun z u => .claimAges u z
  case minimumRunExpiry => exact .expiry s (·.plant.seq.minRunTimer) .minRunExpiry
  case stageDownHoldExpiry => exact .expiry s (·.plant.seq.holdTimer) .holdDone
  case lockoutExpiry =>
    exact .expiry s (·.plant.seq.lockoutTimer) fun u => ArbRun.on (t := u.enterSeq .off) (.seqDecide _) rfl
  case compressorPollExpiry => exact .expiry s (·.plant.seq.pollTimer) fun u => ArbRun.on (.steadyStatus _ _) rfl
  case igniteWaitExpiry =>
    exact .expiry s (·.plant.heater.igniteWaitTimer) fun u => ArbRun.on (t := u.enterHeater .off) (.heaterStart _) rfl
  case stopDelayExpiry => exact .expiry s (·.plant.heater.stopDelayTimer) .heaterStop
  case flamePollExpiry => exact .expiry s (·.plant.heater.flamePollTimer) fun u => ArbRun.on (.steadyStatus _ _) rfl
  case wakeTimerExpiry => exact .nodeEvent s _ fun n u => .expire u _ fun v => .wakeExpiry v n
  case nodePollTimerExpiry => exact .nodeEvent s _ fun n u => .expire u _ fun v => .nodePoll v n
  case travelTimerExpiry => exact .nodeEvent s _ fun n u => .expire u _ fun v => .travelExpiry v n
  case revivalTimerExpiry => exact .nodeEvent s _ fun n u => .expire u _ fun v => .revivalExpiry v n
  case pollTickExpiry => exact .expiry s (·.nodes.pollTick) .pollTickExpiry
  case leadEnd => exact .phase s _ .beginFrame
  case frameSent => exact .answer s fun u => .ite (.refl u) (.phaseEnd u _ fun v => .enterPhase v _ _)
  case trailEnd => exact .phase s _ .endTrail
  case replyWindowExpiry => exact .phase s _ fun u => .attemptFailed u _
  case replyCharacterReceived d m p q => exact .answer s fun u => (ArbRun.charArrives u).trans (.receiveChar _ d m p q)
  case replyGapTimeout => exact .phase s _ fun u => .attemptFailed u _
  case closingQuietEnd => exact .phase s _ .replyComplete
  case drainEnd => exact .answer s .drainEnd
  case broadcastWaitEnd => exact .phase s _ .broadcastEnds
  case gapEnd => exact .phase s _ .gapEnded
  case cutCharacterEnd =>
    exact RunsArbiter.answer s
      (f := fun u => if u.line.cut then u.phaseEnd .sending (·.enterPhase .gap Config.twoChars) else u)
      fun u => .ite (.phaseEnd u _ fun v => .enterPhase v _ _) (.refl u)
  all_goals exact .request s _ _ _

theorem step_runsArbiter (s : State) : RunsArbiter s (step s) := by
  unfold step
  split
  · exact .next (.same rfl)
  · exact fun t e => .on (t := s.withPending _) (exec_runsArbiter _ _ t e) rfl

/-- Settles O59: a step brings the arbiter a run of its own events, and each of those keeps it sound. -/
theorem everyStepKeepsThePools : Obligations.EveryStepKeepsThePools :=
  fun s t h e => (step_runsArbiter s t e).sound h

end Sys2Proof.Machine
end

section
/-! SUPPORT for O54. Which claims a grant pass takes (R59, R60), and the pass written out along the queue. -/
namespace Sys2Proof.Machine

/-! ## Records by their zone -/

theorem Pool.claimOf_of_mem {p : Pool} {c : Claim} (h : p.apart) (hc : c ∈ p.claims) : p.claimOf c.zone = some c := by
  cases e : p.claimOf c.zone with
  | none => exact absurd (List.mem_map_of_mem hc) ((Pool.claimOf_eq_none_iff p _).1 e)
  | some d =>
    obtain ⟨hd, hz⟩ := Pool.claimOf_mem e
    rw [List.inj_on_of_nodup_map h hd hc hz]

theorem Pool.grantOf_mem {p : Pool} {z : Zone} {g : Grant} (h : p.grantOf z = some g) : g ∈ p.grants ∧ g.zone = z :=
  ⟨List.mem_of_find?_eq_some h, of_decide_eq_true (List.find?_some (p := fun g : Grant => decide (g.zone = z)) h)⟩

/-- R49: the zone's record with the units added and the number given. -/
theorem Pool.grantOf_addGrant_same (p : Pool) (z : Zone) (u n : Nat) :
    (p.addGrant z u n).grantOf z = some ⟨z, p.unitsOf z + u, n⟩ := by
  unfold Pool.addGrant Pool.unitsOf
  cases h : p.grantOf z with
  | none =>
    have none : p.grants.find? (fun g => decide (g.zone = z)) = none := h
    simp [Pool.grantOf, List.find?_append, none]
  | some g =>
    obtain ⟨hg, rfl⟩ := Pool.grantOf_mem h
    have found : p.grants.find? (fun b => decide (b.zone = g.zone)) = some g := h
    have zones : (fun b : Grant => decide (b.zone = g.zone)) ∘
        (fun b : Grant => if b.zone = g.zone then { b with units := b.units + u, number := n } else b) =
        fun b => decide (b.zone = g.zone) := by
      funext b
      by_cases e : b.zone = g.zone <;> simp [e]
    rw [Pool.grantOf, List.find?_map, zones, found, Option.map_some, if_pos rfl]

theorem Pool.grantOf_addGrant_ne (p : Pool) {z y : Zone} (h : y ≠ z) (u n : Nat) :
    (p.addGrant z u n).grantOf y = p.grantOf y := by
  unfold Pool.addGrant
  split
  · have zones : (fun b : Grant => decide (b.zone = y)) ∘
        (fun b : Grant => if b.zone = z then { b with units := b.units + u, number := n } else b) =
        fun b => decide (b.zone = y) := by
      funext b
      by_cases e : b.zone = z <;> simp [e]
    rw [Pool.grantOf, List.find?_map, zones]
    cases e : p.grants.find? (fun b => decide (b.zone = y)) with
    | none => rw [Pool.grantOf, e, Option.map_none]
    | some b =>
      have hb : b.zone ≠ z := (Pool.grantOf_mem (p := p) e).2 ▸ h
      rw [Pool.grantOf, e, Option.map_some, if_neg hb]
  · have e : decide (z = y) = false := decide_eq_false (Ne.symm h)
    simp [Pool.grantOf, List.find?_append, e]

/-! ## Which claims are taken -/

/-- R59, R60: of a queue, with room units free, a pass takes the claims that took marks. The pass is tight where a claim that
it has gone past, with nothing taken behind it yet, stands at a passed count of 2: it stops once a claim is taken. -/
inductive PassTakes (took : Claim → Bool) : Nat → Bool → List Claim → Prop
  | done (room : Nat) (tight : Bool) : PassTakes took room tight []
  | take {room : Nat} {c : Claim} {q : List Claim} (fits : c.units ≤ room) (taken : took c = true)
      (next : PassTakes took (room - c.units) false q) : PassTakes took room false (c :: q)
  | last {room : Nat} {c : Claim} {q : List Claim} (fits : c.units ≤ room) (taken : took c = true)
      (rest : ∀ x ∈ q, took x = false) : PassTakes took room true (c :: q)
  | leave {room : Nat} {tight : Bool} {c : Claim} {q : List Claim} (large : room < c.units) (left : took c = false)
      (below : c.passed < 3) (next : PassTakes took room (tight || decide (c.passed = 2)) q) :
      PassTakes took room tight (c :: q)
  | stop {room : Nat} {tight : Bool} {c : Claim} {q : List Claim} (large : room < c.units) (left : took c = false)
      (full : 3 ≤ c.passed) (rest : ∀ x ∈ q, took x = false) : PassTakes took room tight (c :: q)

theorem PassTakes.congr {took took' : Claim → Bool} {room : Nat} {tight : Bool} {q : List Claim}
    (h : PassTakes took room tight q) (same : ∀ c ∈ q, took' c = took c) : PassTakes took' room tight q := by
  induction h with
  | done room tight => exact .done room tight
  | take fits taken _ ih =>
    obtain ⟨hc, hq⟩ := List.forall_mem_cons.1 same
    exact .take fits (hc.trans taken) (ih hq)
  | last fits taken rest =>
    obtain ⟨hc, hq⟩ := List.forall_mem_cons.1 same
    exact .last fits (hc.trans taken) fun x hx => (hq x hx).trans (rest x hx)
  | leave large left below _ ih =>
    obtain ⟨hc, hq⟩ := List.forall_mem_cons.1 same
    exact .leave large (hc.trans left) below (ih hq)
  | stop large left full rest =>
    obtain ⟨hc, hq⟩ := List.forall_mem_cons.1 same
    exact .stop large (hc.trans left) full fun x hx => (hq x hx).trans (rest x hx)

/-- Every queue of distinct claims has its marks. -/
theorem PassTakes.exist {q : List Claim} (h : q.Nodup) :
    ∀ (room : Nat) (tight : Bool), ∃ took, PassTakes took room tight q := by
  induction q with
  | nil => exact fun room tight => ⟨fun _ => false, .done room tight⟩
  | cons c q ih =>
    obtain ⟨hc, hq⟩ := List.nodup_cons.1 h
    have other {took : Claim → Bool} {b : Bool} : ∀ x ∈ q, Function.update took c b x = took x := fun x hx =>
      Function.update_of_ne (ne_of_mem_of_not_mem hx hc) b took
    intro room tight
    rcases Nat.lt_or_ge room c.units with large | fits
    · rcases Nat.lt_or_ge c.passed 3 with below | full
      · obtain ⟨took, hn⟩ := ih hq room (tight || decide (c.passed = 2))
        exact ⟨Function.update took c false, .leave large (Function.update_self _ _ _) below (hn.congr other)⟩
      · exact ⟨fun _ => false, .stop large rfl full fun _ _ => rfl⟩
    · cases tight with
      | false =>
        obtain ⟨took, hn⟩ := ih hq (room - c.units) false
        exact ⟨Function.update took c true, .take fits (Function.update_self _ _ _) (hn.congr other)⟩
      | true =>
        exact ⟨Function.update (fun _ => false) c true, .last fits (Function.update_self _ _ _) other⟩

/-! ## The marks, claim by claim -/

theorem passReaches_cons {took : Claim → Bool} {c : Claim} {pre : List Claim} :
    passReaches took (c :: pre) ↔
      (took c = false → c.passed < 3 ∧ (c.passed = 2 → ∀ w ∈ pre, took w = false)) ∧ passReaches took pre := by
  refine ⟨fun h => ⟨fun hc => h [] c pre rfl hc, fun p x q e => h (c :: p) x q (by rw [e]; rfl)⟩, fun ⟨hc, hp⟩ p x q e => ?_⟩
  cases p with
  | nil =>
    obtain ⟨rfl, rfl⟩ := List.cons.inj e
    exact hc
  | cons y p => exact hp p x q (List.cons.inj e).2

theorem passReaches_nil (took : Claim → Bool) : passReaches took [] := fun p x q e => by simp at e

/-- R59, R60: a claim is taken exactly when the pass reaches it, no claim gone past before is brought to 3 on the way, and it
fits beside the claims taken before it. -/
theorem PassTakes.taken_iff {took : Claim → Bool} {room : Nat} {tight : Bool} {q : List Claim}
    (h : PassTakes took room tight q) : ∀ pre c post, q = pre ++ c :: post →
      (took c = true ↔ (passReaches took pre ∧ (tight = true → ∀ x ∈ pre, took x = false)) ∧
        c.units + ((pre.filter took).map Claim.units).sum ≤ room) := by
  induction h with
  | done room tight => exact fun pre c post e => by simp at e
  | @take room d q fits taken next ih =>
    intro pre c post e
    cases pre with
    | nil =>
      obtain ⟨rfl, rfl⟩ := List.cons.inj e
      simp [taken, fits, passReaches_nil]
    | cons x pre =>
      obtain ⟨rfl, tail⟩ := List.cons.inj e
      rw [ih pre c post tail, passReaches_cons, List.filter_cons_of_pos taken]
      simp only [Bool.false_eq_true, false_imp_iff, and_true, taken, Bool.true_eq_false, true_and, List.map_cons,
        List.sum_cons]
      refine and_congr_right fun _ => ?_
      omega
  | @last room d q fits taken rest =>
    intro pre c post e
    cases pre with
    | nil =>
      obtain ⟨rfl, rfl⟩ := List.cons.inj e
      simp [taken, fits, passReaches_nil]
    | cons x pre =>
      obtain ⟨rfl, tail⟩ := List.cons.inj e
      have hc : took c = false := rest c (by simp [tail])
      rw [hc]
      refine iff_of_false Bool.false_ne_true fun ⟨⟨_, idle⟩, _⟩ => ?_
      exact absurd (idle rfl d List.mem_cons_self) (by simp [taken])
  | @leave room tight d q large left below next ih =>
    intro pre c post e
    cases pre with
    | nil =>
      obtain ⟨rfl, rfl⟩ := List.cons.inj e
      simp [left, large]
    | cons x pre =>
      obtain ⟨rfl, tail⟩ := List.cons.inj e
      rw [ih pre c post tail, passReaches_cons, List.filter_cons_of_neg (by simp [left])]
      simp only [Bool.or_eq_true, decide_eq_true_eq, left, true_imp_iff, below, true_and, List.forall_mem_cons]
      tauto
  | @stop room tight d q large left full rest =>
    intro pre c post e
    cases pre with
    | nil =>
      obtain ⟨rfl, rfl⟩ := List.cons.inj e
      simp [left, large]
    | cons x pre =>
      obtain ⟨rfl, tail⟩ := List.cons.inj e
      have hc : took c = false := rest c (by simp [tail])
      rw [hc]
      refine iff_of_false Bool.false_ne_true fun ⟨⟨reach, _⟩, _⟩ => ?_
      have := ((passReaches_cons.1 reach).1 left).1
      omega

/-! ## The queue after the pass -/

/-- R60: the claim with its passed count one more, if a claim behind it is taken. -/
def Claim.passedBy (b : Bool) (c : Claim) : Claim := { c with passed := if b then c.passed + 1 else c.passed }

theorem Claim.passedBy_false (c : Claim) : c.passedBy false = c := rfl

/-- R59, R60: what the pass leaves of a queue. -/
def leftBy (took : Claim → Bool) : List Claim → List Claim
  | [] => []
  | c :: q => if took c then leftBy took q else c.passedBy (q.any took) :: leftBy took q

theorem leftBy_zones (took : Claim → Bool) (q : List Claim) :
    (leftBy took q).map Claim.zone = (q.filter (fun c => !took c)).map Claim.zone := by
  induction q with
  | nil => rfl
  | cons c q ih =>
    cases h : took c with
    | true => rw [leftBy, if_pos h, ih, List.filter_cons_of_neg (by simp [h])]
    | false =>
      rw [leftBy, if_neg (by simp [h]), List.map_cons, ih, List.filter_cons_of_pos (by simp [h])]
      rfl

theorem mem_leftBy {took : Claim → Bool} {c : Claim} (h : took c = false) (pre post : List Claim) :
    c.passedBy (post.any took) ∈ leftBy took (pre ++ c :: post) := by
  induction pre with
  | nil =>
    rw [List.nil_append, leftBy, if_neg (by simp [h])]
    exact List.mem_cons_self
  | cons x pre ih =>
    rw [List.cons_append, leftBy]
    split
    · exact ih
    · exact List.mem_cons_of_mem _ ih

theorem leftBy_none {took : Claim → Bool} {q : List Claim} (h : ∀ x ∈ q, took x = false) : leftBy took q = q := by
  induction q with
  | nil => rfl
  | cons c q ih =>
    obtain ⟨hc, hq⟩ := List.forall_mem_cons.1 h
    rw [leftBy, if_neg (by simp [hc]), ih hq, List.any_eq_false.2 fun x hx => by simp [hq x hx]]
    rfl

/-! ## One claim taken -/

theorem Arbiter.grantClaim_below {a : Arbiter} (h : a.counter < 4294967295) (i : PoolId) (c : Claim) :
    a.grantClaim i c = { a with counter := a.counter + 1 }.setPool i
      (((a.pool i).withoutClaim c.zone).addGrant c.zone c.units (a.counter + 1)) := by
  unfold Arbiter.grantClaim Arbiter.withdraw
  rw [Arbiter.tick_below (by rwa [Arbiter.setPool_counter])]
  cases i <;> rfl

/-- R59, R60: the arbiter once claim c of the queue left ++ fresh ++ c :: q has been taken and the claims of fresh, which the
pass has gone past since it took one before, have had their counts raised. -/
def Arbiter.taken (a : Arbiter) (i : PoolId) (left fresh : List Claim) (c : Claim) (q : List Claim) : Arbiter :=
  { a with counter := a.counter + 1 }.setPool i
    { (a.pool i).addGrant c.zone c.units (a.counter + 1) with claims := left ++ fresh.map (Claim.passedBy true) ++ q }

section
variable {a : Arbiter} {i : PoolId} {left fresh : List Claim} {c : Claim} {q : List Claim}

theorem Arbiter.taken_pool : (a.taken i left fresh c q).pool i =
    { (a.pool i).addGrant c.zone c.units (a.counter + 1) with claims := left ++ fresh.map (Claim.passedBy true) ++ q } :=
  Arbiter.setPool_pool _ _ _

theorem Arbiter.taken_other {j : PoolId} (h : j ≠ i) : (a.taken i left fresh c q).pool j = a.pool j := by
  rw [Arbiter.taken, Arbiter.setPool_other h]
  cases j <;> rfl

theorem Arbiter.taken_counter : (a.taken i left fresh c q).counter = a.counter + 1 := Arbiter.setPool_counter _ _ _

theorem raisePassed_fresh (below : ∀ x ∈ fresh, x.passed < 3) :
    raisePassed left.length (left ++ fresh).length (left ++ fresh ++ q) =
      left ++ fresh.map (Claim.passedBy true) ++ q := by
  have raised : fresh.map (fun c => { c with passed := min 3 (c.passed + 1) }) = fresh.map (Claim.passedBy true) :=
    List.map_congr_left fun x hx => by
      have : min 3 (x.passed + 1) = x.passed + 1 := Nat.min_eq_right (below x hx)
      simp [Claim.passedBy, this]
  rw [raisePassed, List.take_left, List.drop_left, List.drop_left, raised, List.append_assoc left fresh q, List.take_left]

theorem anyAtThree_fresh (below : ∀ x ∈ fresh, x.passed < 3) :
    anyAtThree left.length (left ++ fresh).length (left ++ fresh.map (Claim.passedBy true) ++ q) =
      fresh.any (fun c => decide (c.passed = 2)) := by
  have length : (left ++ fresh).length = (left ++ fresh.map (Claim.passedBy true)).length := by simp
  rw [anyAtThree, length, List.take_left, List.drop_left, List.any_map]
  rw [Bool.eq_iff_iff, List.any_eq_true, List.any_eq_true]
  refine exists_congr fun x => and_congr_right fun hx => ?_
  have := below x hx
  simp only [Function.comp_apply, Claim.passedBy, if_true, decide_eq_true_eq]
  omega

variable (h : (a.pool i).tidy) (e : (a.pool i).claims = left ++ fresh ++ c :: q)
  (below : ∀ x ∈ fresh, x.passed < 3)
include h e

theorem Pool.withoutClaim_between : ((a.pool i).withoutClaim c.zone).claims = left ++ fresh ++ q := by
  have zones := h.claims
  rw [e, List.map_append, List.map_cons, List.nodup_append, List.nodup_cons] at zones
  obtain ⟨_, ⟨hq, _⟩, hlr⟩ := zones
  have before : (left ++ fresh).filter (fun x => !decide (x.zone = c.zone)) = left ++ fresh :=
    List.filter_eq_self.2 fun x hx => by simpa using hlr x.zone (List.mem_map_of_mem hx) c.zone List.mem_cons_self
  have behind : q.filter (fun x => !decide (x.zone = c.zone)) = q :=
    List.filter_eq_self.2 fun x hx => by
      simpa using fun ez : x.zone = c.zone => hq (ez ▸ List.mem_map_of_mem hx)
  rw [Pool.withoutClaim, e, List.filter_append, before, List.filter_cons_of_neg (by simp), behind]

include below

theorem Arbiter.taken_tidy : ((a.taken i left fresh c q).pool i).tidy := by
  have thin : Thinned ((a.pool i).addGrant c.zone c.units (a.counter + 1)) ((a.taken i left fresh c q).pool i) := by
    rw [Arbiter.taken_pool]
    refine ⟨.refl _, ?_, fun hp x hx => ?_⟩
    · rw [Pool.waiting_addGrant, e]
      simp only [List.map_append, List.map_map, List.map_cons]
      exact (List.Sublist.refl _).append (List.sublist_cons_self _ _)
    · rw [Pool.waiting_addGrant, e] at hp
      simp only [List.mem_append, List.mem_map] at hx
      rcases hx with (hx | ⟨y, hy, rfl⟩) | hx
      · exact hp x (by simp [hx])
      · exact below y hy
      · exact hp x (by simp [hx])
  exact thin.tidy (h.addGrant _ _ _)

/-- R59, R60: one turn of the walk at a claim that fits. -/
theorem Arbiter.walk_taken (hc : a.counter < 4294967295) (fits : c.units ≤ (a.pool i).free) (fuel : Nat) :
    Arbiter.walk i (fuel + 1) (left ++ fresh).length left.length a =
      if fresh.any (fun c => decide (c.passed = 2)) then a.taken i left fresh c q
      else Arbiter.walk i fuel (left ++ fresh).length (left ++ fresh).length (a.taken i left fresh c q) := by
  have here : (a.pool i).claims[(left ++ fresh).length]? = some c := by simp [e]
  have pool : (a.grantClaim i c).pool i = ((a.pool i).withoutClaim c.zone).addGrant c.zone c.units (a.counter + 1) := by
    rw [Arbiter.grantClaim_below hc, Arbiter.setPool_pool]
  have claims : ((a.grantClaim i c).pool i).claims = left ++ fresh ++ q := by
    rw [pool, Pool.waiting_addGrant, Pool.withoutClaim_between h e]
  have turned : (a.grantClaim i c).setPool i { (a.grantClaim i c).pool i with
      claims := left ++ fresh.map (Claim.passedBy true) ++ q } = a.taken i left fresh c q := by
    rw [pool, Arbiter.grantClaim_below hc, Arbiter.taken]
    cases i <;> simp only [Arbiter.setPool, Pool.addGrant, Pool.withoutClaim, Pool.grantOf, Arbiter.pool] <;>
      split <;> rfl
  rw [Arbiter.walk, here]
  dsimp only
  rw [if_pos fits, claims, raisePassed_fresh below, anyAtThree_fresh below, turned]

end

end Sys2Proof.Machine
end

section
/-! Settles O54: what a grant pass takes and leaves, and the passed-count guard (R49, R58 to R61). -/
namespace Sys2Proof.Machine

/-- What the rest of a pass makes of the claims q, which it has still to reach, and of the claims of fresh, which it has gone
past since it took one: the claims that took marks are granted in queue order. -/
structure PassEnds (took : Claim → Bool) (i : PoolId) (left fresh q : List Claim) (a t : Arbiter) : Prop where
  claims : (t.pool i).claims = left ++ fresh.map (Claim.passedBy (q.any took)) ++ leftBy took q
  granted : ∀ pre c post, q = pre ++ c :: post → took c = true → (t.pool i).grantOf c.zone =
    some ⟨c.zone, (a.pool i).unitsOf c.zone + c.units, a.counter + 1 + (pre.filter took).length⟩
  kept : ∀ z, (∀ c ∈ q, c.zone = z → took c = false) → (t.pool i).grantOf z = (a.pool i).grantOf z
  others : ∀ j, j ≠ i → t.pool j = a.pool j
  counter : t.counter = a.counter + (q.filter took).length
  idle : (∀ c ∈ q, took c = false) → t = a

section
variable {took : Claim → Bool} {i : PoolId} {left fresh : List Claim} {c : Claim} {q : List Claim} {a t : Arbiter}

/-- A pass that takes nothing more. -/
theorem PassEnds.rest (e : (a.pool i).claims = left ++ fresh ++ q) (none : ∀ x ∈ q, took x = false) :
    PassEnds took i left fresh q a a where
  claims := by
    have any : q.any took = false := List.any_eq_false.2 fun x hx => by simp [none x hx]
    rw [any, leftBy_none none, e, show Claim.passedBy false = id from funext Claim.passedBy_false, List.map_id]
  granted pre c post e hc := absurd (none c (by simp [e])) (by simp [hc])
  kept _ _ := rfl
  others _ _ := rfl
  counter := by
    rw [List.filter_eq_nil_iff.2 fun x hx => by simp [none x hx]]
    rfl
  idle _ := rfl

/-- A claim taken, and then the rest of the pass. -/
theorem PassEnds.take (h : (a.pool i).tidy) (e : (a.pool i).claims = left ++ fresh ++ c :: q) (taken : took c = true)
    (next : PassEnds took i (left ++ fresh.map (Claim.passedBy true)) [] q (a.taken i left fresh c q) t) :
    PassEnds took i left fresh (c :: q) a t := by
  have zones := h.claims
  rw [e, List.map_append, List.map_cons, List.nodup_append, List.nodup_cons] at zones
  obtain ⟨_, ⟨hq, _⟩, _⟩ := zones
  have apart : ∀ x ∈ q, x.zone ≠ c.zone := fun x hx ez => hq (ez ▸ List.mem_map_of_mem hx)
  have here : ((a.taken i left fresh c q).pool i).grantOf c.zone =
      some ⟨c.zone, (a.pool i).unitsOf c.zone + c.units, a.counter + 1⟩ := by
    rw [Arbiter.taken_pool]
    exact Pool.grantOf_addGrant_same _ _ _ _
  have away {z : Zone} (hz : z ≠ c.zone) : ((a.taken i left fresh c q).pool i).grantOf z = (a.pool i).grantOf z := by
    rw [Arbiter.taken_pool]
    exact Pool.grantOf_addGrant_ne _ hz _ _
  refine ⟨?_, fun pre x post ex hx => ?_, fun z hz => ?_, fun j hj => (next.others j hj).trans (Arbiter.taken_other hj), ?_,
    fun none => absurd (none c List.mem_cons_self) (by simp [taken])⟩
  · rw [next.claims, leftBy, if_pos taken, List.any_cons, taken, Bool.true_or, List.map_nil, List.append_nil]
  · cases pre with
    | nil =>
      obtain ⟨rfl, rfl⟩ := List.cons.inj ex
      rw [next.kept _ fun y hy ey => absurd ey (apart y hy), here]
      rfl
    | cons y pre =>
      obtain ⟨rfl, tail⟩ := List.cons.inj ex
      have hxz := apart x (by simp [tail])
      rw [next.granted pre x post tail hx, Arbiter.taken_counter, Pool.unitsOf, away hxz, ← Pool.unitsOf,
        List.filter_cons_of_pos taken, List.length_cons]
      congr 2
      omega
  · have hzc : z ≠ c.zone := fun ez => by simpa [taken] using hz c List.mem_cons_self ez.symm
    rw [next.kept z fun x hx => hz x (List.mem_cons_of_mem _ hx), away hzc]
  · rw [next.counter, Arbiter.taken_counter, List.filter_cons_of_pos taken, List.length_cons]
    omega

/-- A claim that the pass goes past, and then its rest. -/
theorem PassEnds.leave (skipped : took c = false) (next : PassEnds took i left (fresh ++ [c]) q a t) :
    PassEnds took i left fresh (c :: q) a t := by
  have tail {p : Claim → Prop} (all : ∀ x ∈ c :: q, p x) : ∀ x ∈ q, p x := fun x hx => all x (List.mem_cons_of_mem _ hx)
  refine ⟨?_, fun pre x post ex hx => ?_, fun z hz => next.kept z (tail hz), next.others, ?_, fun none => next.idle (tail none)⟩
  · rw [next.claims, leftBy, if_neg (by simp [skipped]), List.any_cons, skipped, Bool.false_or]
    simp
  · cases pre with
    | nil =>
      obtain ⟨rfl, rfl⟩ := List.cons.inj ex
      exact absurd hx (by simp [skipped])
    | cons y pre =>
      obtain ⟨rfl, tail⟩ := List.cons.inj ex
      rw [next.granted pre x post tail hx, List.filter_cons_of_neg (by simp [skipped])]
  · rw [next.counter, List.filter_cons_of_neg (by simp [skipped])]

end

/-- What is free once a claim has been taken. -/
theorem Arbiter.taken_free {a : Arbiter} {i : PoolId} {left fresh : List Claim} {c : Claim} {q : List Claim}
    (h : (a.pool i).tidy) : ((a.taken i left fresh c q).pool i).free = (a.pool i).free - c.units := by
  have total := Pool.grantedTotal_addGrant h.grants c.zone c.units (a.counter + 1)
  rw [Arbiter.taken_pool]
  show (Pool.capacity _) - Pool.grantedTotal ((a.pool i).addGrant c.zone c.units (a.counter + 1)) = _
  rw [total, Pool.addGrant_capacity, Pool.free]
  omega

/-- R58 to R60: the walk along the queue, from the place it has reached. -/
theorem Arbiter.walk_ends {took : Claim → Bool} {i : PoolId} {room : Nat} {tight : Bool} {q : List Claim}
    (h : PassTakes took room tight q) : ∀ (left fresh : List Claim) (a : Arbiter), (a.pool i).tidy →
      (a.pool i).claims = left ++ fresh ++ q → (a.pool i).free = room → (∀ x ∈ fresh, x.passed < 3) →
      fresh.any (fun c => decide (c.passed = 2)) = tight → a.counter + q.length ≤ 4294967295 →
      PassEnds took i left fresh q a (Arbiter.walk i q.length (left ++ fresh).length left.length a) := by
  induction h with
  | done room tight => exact fun left fresh a _ e _ _ _ _ => .rest e fun x hx => by simp at hx
  | @take room c q fits taken next ih =>
    intro left fresh a ta e free below tight count
    rw [List.length_cons] at count ⊢
    rw [Arbiter.walk_taken ta e below (by omega) (by omega), tight, if_neg Bool.false_ne_true]
    refine .take ta e taken ?_
    have ends := ih (left ++ fresh.map (Claim.passedBy true)) [] (a.taken i left fresh c q) (Arbiter.taken_tidy ta e below)
      (by rw [Arbiter.taken_pool, List.append_nil]) (by rw [Arbiter.taken_free ta, free]) (by simp) rfl
      (by rw [Arbiter.taken_counter]; omega)
    simpa using ends
  | @last room c q fits taken rest =>
    intro left fresh a ta e free below tight count
    rw [List.length_cons] at count ⊢
    rw [Arbiter.walk_taken ta e below (by omega) (by omega), tight, if_pos rfl]
    exact .take ta e taken (.rest (by rw [Arbiter.taken_pool, List.append_nil]) rest)
  | @leave room tight c q large skipped under next ih =>
    intro left fresh a ta e free below ht count
    have here : (a.pool i).claims[(left ++ fresh).length]? = some c := by simp [e]
    rw [List.length_cons] at count ⊢
    rw [Arbiter.walk, here]
    dsimp only
    rw [if_neg (by omega), if_pos under]
    refine .leave skipped ?_
    have ends := ih left (fresh ++ [c]) a ta (by simp [e]) free
      (fun x hx => (List.mem_append.1 hx).elim (below x) fun hx => List.mem_singleton.1 hx ▸ under)
      (by simp [ht]) (by omega)
    rwa [← List.append_assoc, List.length_append] at ends
  | @stop room tight c q large skipped full rest =>
    intro left fresh a ta e free below ht count
    have here : (a.pool i).claims[(left ++ fresh).length]? = some c := by simp [e]
    rw [List.length_cons, Arbiter.walk, here]
    dsimp only
    rw [if_neg (by omega), if_neg (by omega)]
    exact .rest e fun x hx => (List.mem_cons.1 hx).elim (fun ex => ex ▸ skipped) (rest x)

/-- A pass with the marks of the queue. -/
theorem Arbiter.pass_ends {took : Claim → Bool} {a : Arbiter} {i : PoolId} (h : a.sound)
    (count : a.counter + (a.pool i).claims.length ≤ 4294967295)
    (takes : PassTakes took (a.pool i).free false (a.pool i).claims) :
    PassEnds took i [] [] (a.pool i).claims a (a.pass i) :=
  Arbiter.walk_ends takes [] [] a (h.tidy.pools i) rfl rfl (by simp) rfl count

/-- R59: a claim of the queue is taken exactly when its zone waits no longer after the pass. -/
theorem PassEnds.took_iff {took : Claim → Bool} {i : PoolId} {a t : Arbiter} {q : List Claim}
    (ends : PassEnds took i [] [] q a t) (apart : (q.map Claim.zone).Nodup) {c : Claim} (hc : c ∈ q) :
    took c = ((t.pool i).claimOf c.zone).isNone := by
  rw [Bool.eq_iff_iff, Option.isNone_iff_eq_none, Pool.claimOf_eq_none_iff, ends.claims]
  simp only [List.map_nil, List.nil_append, leftBy_zones, List.mem_map, List.mem_filter, Bool.not_eq_true', not_exists,
    not_and]
  refine ⟨fun taken x ⟨hx, left⟩ ez => ?_, fun gone => ?_⟩
  · rw [List.inj_on_of_nodup_map apart hx hc ez, taken] at left
    exact absurd left (by simp)
  · by_contra left
    exact gone c ⟨hc, by simpa using left⟩ rfl

/-- The marks that a pass leaves readable are the marks of its queue. -/
theorem Arbiter.pass_takes {took : Claim → Bool} {a : Arbiter} {i : PoolId} (h : a.sound)
    (count : a.counter + (a.pool i).claims.length ≤ 4294967295)
    (marks : ∀ c, took c = (((a.pass i).pool i).claimOf c.zone).isNone) :
    PassTakes took (a.pool i).free false (a.pool i).claims := by
  have apart := (h.tidy.pools i).claims
  obtain ⟨took', takes⟩ := PassTakes.exist (List.Nodup.of_map _ apart) (a.pool i).free false
  have ends := Arbiter.pass_ends h count takes
  exact takes.congr fun c hc => (marks c).trans (ends.took_iff apart hc).symm

/-- Settles O54: the marks of the queue are those of PassTakes, and the walk along the queue ends as PassEnds says. -/
theorem grantPassServesTheQueue : Obligations.GrantPassServesTheQueue := by
  intro a t i took h count ht marks
  subst ht
  have takes := Arbiter.pass_takes h count marks
  have ends := Arbiter.pass_ends h count takes
  have size := SameSize.pass a i
  refine ⟨fun pre c post e => ⟨?_, ends.granted pre c post e, fun left => ?_⟩, ?_, ends.kept, size.pool i, ends.others,
    size.saturationTime, ends.counter, ends.idle⟩
  · rw [takes.taken_iff pre c post e]
    simp
  · have hm := mem_leftBy left pre post
    rw [← e] at hm
    exact Pool.claimOf_of_mem (c := c.passedBy (post.any took)) (Arbiter.pools_apart (h.pass i) i)
      (by rw [ends.claims]; exact hm)
  · rw [ends.claims]
    exact leftBy_zones took _

end Sys2Proof.Machine
end

section
/-! SUPPORT for O55. The order of a revocation (R62), and the arbiter after each of its turns, written out (R63). -/
namespace Sys2Proof.Machine

/-! ## Which grant is taken from next (R62) -/

section
variable (rankOf : Zone → Nat)

theorem takenBefore_iff (g b : Grant) : takenBefore rankOf g b = true ↔
    rankOf g.zone < rankOf b.zone ∨ (rankOf g.zone = rankOf b.zone ∧ b.number < g.number) := by
  simp [takenBefore]

theorem takenBefore_self (g : Grant) : takenBefore rankOf g g = false := by simp [takenBefore]

theorem takenBefore_asymm {g b : Grant} (h : takenBefore rankOf g b = true) : takenBefore rankOf b g = false := by
  rw [takenBefore_iff] at h
  rw [Bool.eq_false_iff, Ne, takenBefore_iff]
  omega

/-- Between a grant and one taken after it any third one stands after the first or before the second. -/
theorem takenBefore_between {g b : Grant} (h : takenBefore rankOf g b = true) (x : Grant) :
    takenBefore rankOf g x = true ∨ takenBefore rankOf x b = true := by
  rw [takenBefore_iff] at h ⊢
  rw [takenBefore_iff]
  omega

theorem takenBefore_of_not {g b : Grant} (n : g.number ≠ b.number) (h : takenBefore rankOf b g = false) :
    takenBefore rankOf g b = true := by
  rw [Bool.eq_false_iff, Ne, takenBefore_iff] at h
  rw [takenBefore_iff]
  omega

/-- R62: no grant is taken before the one to take from next. -/
theorem nextVictim_first {gs : List Grant} {g : Grant} (h : nextVictim rankOf gs = some g) :
    ∀ b ∈ gs, takenBefore rankOf b g = false := by
  induction gs generalizing g with
  | nil => simp
  | cons x gs ih =>
    unfold nextVictim at h
    split at h
    · rename_i hn
      obtain rfl := Option.some.inj h
      simp [nextVictim_none hn, takenBefore_self]
    · rename_i b hb
      split at h
      · rename_i before
        obtain rfl := Option.some.inj h
        exact List.forall_mem_cons.2 ⟨takenBefore_asymm rankOf before, ih hb⟩
      · rename_i before
        obtain rfl := Option.some.inj h
        refine List.forall_mem_cons.2 ⟨takenBefore_self rankOf x, fun y hy => ?_⟩
        by_contra hyx
        rcases takenBefore_between rankOf (Bool.eq_true_of_not_eq_false hyx) b with h1 | h1
        · exact absurd (ih hb y hy) (by simp [h1])
        · exact before h1

/-! ## What each grant loses (R62) -/

variable {l r : List Grant} {g : Grant}

theorem lossOf_zero (gs : List Grant) (x : Grant) : lossOf rankOf gs 0 x = 0 := by simp [lossOf]

/-- R62: the first grant loses all it can. -/
theorem lossOf_first {gs : List Grant} (first : ∀ b ∈ gs, takenBefore rankOf b g = false) (e : Nat) :
    lossOf rankOf gs e g = min g.units e := by
  rw [lossOf, List.filter_eq_nil_iff.2 fun b hb => by simp [first b hb]]
  rfl

theorem filter_takenBefore_perm (x : Grant) (before : takenBefore rankOf g x = true) :
    ((l ++ g :: r).filter (fun b => takenBefore rankOf b x)).Perm
      (g :: (l ++ r).filter (fun b => takenBefore rankOf b x)) := by
  have p : (l ++ g :: r).Perm (g :: (l ++ r)) := List.perm_middle
  have q := p.filter (fun b => takenBefore rankOf b x)
  rwa [List.filter_cons_of_pos (p := fun b => takenBefore rankOf b x) before] at q

/-- R62: what a grant loses after the first one has lost its part of the excess. -/
theorem lossOf_after {x : Grant} (before : takenBefore rankOf g x = true) (e : Nat) :
    lossOf rankOf (l ++ g :: r) e x = lossOf rankOf (l ++ r) (e - g.units) x := by
  rw [lossOf, ((filter_takenBefore_perm rankOf x before).map Grant.units).sum_nat, List.map_cons, List.sum_cons,
    ← Nat.sub_sub, lossOf]

end

/-! ## A claim put in the queue -/

theorem Pool.claimOf_withClaim_same {p : Pool} {c : Claim} (h : p.claimOf c.zone = none) :
    (p.withClaim c).claimOf c.zone = some c := by
  have ahead : (p.claims.takeWhile (fun x => decide (c.rank ≤ x.rank))).find? (fun x => decide (x.zone = c.zone)) = none :=
    List.find?_eq_none.2 fun x hx => List.find?_eq_none.1 h x ((List.takeWhile_prefix _).subset hx)
  rw [Pool.claimOf, Pool.withClaim, insertClaim, List.find?_append, ahead]
  simp

theorem Pool.claimOf_withClaim_ne (p : Pool) {c : Claim} {z : Zone} (h : z ≠ c.zone) :
    (p.withClaim c).claimOf z = p.claimOf z := by
  have e : decide (c.zone = z) = false := decide_eq_false (Ne.symm h)
  rw [Pool.claimOf, Pool.withClaim, insertClaim, List.find?_append, List.find?_cons, e, ← List.find?_append,
    List.takeWhile_append_dropWhile]
  rfl

theorem Pool.claimOf_withoutClaim_ne (p : Pool) {z y : Zone} (h : y ≠ z) : (p.withoutClaim z).claimOf y = p.claimOf y := by
  rw [Pool.claimOf, Pool.withoutClaim, List.find?_filter, Pool.claimOf]
  congr 1
  funext c
  by_cases e : c.zone = y <;> simp [e, h]

/-- R50: a claim with a number above all others keeps the order of the queue. -/
theorem insertClaim_inQueueOrder {c : Claim} {q : List Claim} (h : inQueueOrder q) (new : ∀ x ∈ q, x.arrival < c.arrival) :
    inQueueOrder (insertClaim c q) := by
  unfold inQueueOrder insertClaim at *
  induction q with
  | nil => exact List.pairwise_singleton _ _
  | cons x q ih =>
    obtain ⟨hx, hq⟩ := List.pairwise_cons.1 h
    obtain ⟨nx, nq⟩ := List.forall_mem_cons.1 new
    by_cases hc : c.rank ≤ x.rank
    · simp only [List.takeWhile_cons, List.dropWhile_cons, hc, decide_true, if_true, List.cons_append, List.pairwise_cons]
      refine ⟨fun b hb => ?_, ih hq nq⟩
      rcases List.mem_cons.1 ((insertClaim_perm c q).mem_iff.1 hb) with rfl | hb
      · omega
      · exact hx b hb
    · simp only [List.takeWhile_cons, List.dropWhile_cons, hc, decide_false, Bool.false_eq_true, if_false, List.nil_append,
        List.pairwise_cons]
      refine ⟨fun b hb => .inl ?_, hx, hq⟩
      rcases List.mem_cons.1 hb with rfl | hb
      · omega
      · have := hx b hb
        omega

/-! ## One turn of a revocation (R63) -/

/-- The units of the zone's claim, 0 if it does not wait. -/
def Pool.waitingOf (p : Pool) (z : Zone) : Nat :=
  match p.claimOf z with
  | none => 0
  | some c => c.units

/-- R63: the claim by which the units that the grant has lost wait again, with number n. -/
def Pool.refiled (p : Pool) (rankOf : Zone → Nat) (now : Time) (g : Grant) (units n : Nat) : Claim :=
  ⟨g.zone, min 16 (p.waitingOf g.zone + units), rankOf g.zone, n, 0, now, false⟩

/-- R63: a number below the last: the pool's queue with the revoked units in it again. -/
theorem Arbiter.revokeOne_below {a : Arbiter} (hc : a.counter < 4294967295) (i : PoolId) (rankOf : Zone → Nat) (now : Time)
    (g : Grant) {t : Nat} (ht : t ≤ 16) :
    a.revokeOne i rankOf now g t = { a with counter := a.counter + 1 }.setPool i
      ((((a.pool i).lessGrant g.zone t).withoutClaim g.zone).withClaim
        ((a.pool i).refiled rankOf now g t (a.counter + 1))) := by
  have pool : ∀ j, ({ a with counter := a.counter + 1 } : Arbiter).pool j = a.pool j := fun j => by cases j <;> rfl
  have twice : ∀ (b : Arbiter) (p q : Pool), (b.setPool i p).setPool i q = b.setPool i q := fun b p q => by cases i <;> rfl
  have ticked : (a.giveBack i g.zone t).tick =
      { a with counter := a.counter + 1 }.setPool i ((a.pool i).lessGrant g.zone t) := by
    rw [Arbiter.tick_below (by rwa [Arbiter.giveBack, Arbiter.setPool_counter]), Arbiter.giveBack]
    cases i <;> rfl
  have same : ((a.giveBack i g.zone t).pool i).claimOf g.zone = (a.pool i).claimOf g.zone := by
    rw [Arbiter.giveBack, Arbiter.setPool_pool]
    rfl
  unfold Arbiter.revokeOne Arbiter.refile
  rw [same]
  cases e : (a.pool i).claimOf g.zone with
  | none =>
    have absent : ((a.pool i).lessGrant g.zone t).withoutClaim g.zone = (a.pool i).lessGrant g.zone t := by
      rw [Pool.withoutClaim, List.filter_eq_self.2 fun c hcl => by simpa using List.find?_eq_none.1 e c hcl]
    have units : min 16 ((a.pool i).waitingOf g.zone + t) = t := by
      rw [Pool.waitingOf, e]
      show min 16 (0 + t) = t
      omega
    dsimp only
    rw [Arbiter.file, ticked, Arbiter.setPool_counter, Arbiter.setPool_pool, twice, absent, Pool.refiled, units]
    rfl
  | some c =>
    have units : min 16 ((a.pool i).waitingOf g.zone + t) = min 16 (c.units + t) := by rw [Pool.waitingOf, e]
    dsimp only
    rw [Arbiter.moveClaim, ticked, Arbiter.setPool_counter, Arbiter.setPool_pool, twice, Pool.refiled, units]
    rfl

section
variable {a : Arbiter} {i : PoolId} {rankOf : Zone → Nat} {now : Time} {g : Grant} {t : Nat}
  (hc : a.counter < 4294967295) (ht : t ≤ 16)
include hc ht

theorem Arbiter.revokeOne_pool : (a.revokeOne i rankOf now g t).pool i =
    (((a.pool i).lessGrant g.zone t).withoutClaim g.zone).withClaim ((a.pool i).refiled rankOf now g t (a.counter + 1)) := by
  rw [Arbiter.revokeOne_below hc i rankOf now g ht, Arbiter.setPool_pool]

theorem Arbiter.revokeOne_counter : (a.revokeOne i rankOf now g t).counter = a.counter + 1 := by
  rw [Arbiter.revokeOne_below hc i rankOf now g ht, Arbiter.setPool_counter]

theorem Arbiter.revokeOne_elsewhere {j : PoolId} (hj : j ≠ i) : (a.revokeOne i rankOf now g t).pool j = a.pool j := by
  rw [Arbiter.revokeOne_below hc i rankOf now g ht, Arbiter.setPool_other hj]
  cases j <;> rfl

theorem Arbiter.revokeOne_claim : ((a.revokeOne i rankOf now g t).pool i).claimOf g.zone =
    some ((a.pool i).refiled rankOf now g t (a.counter + 1)) := by
  rw [Arbiter.revokeOne_pool hc ht]
  exact Pool.claimOf_withClaim_same (c := (a.pool i).refiled rankOf now g t (a.counter + 1)) (Pool.claimOf_withoutClaim _ _)

theorem Arbiter.revokeOne_claim_ne {z : Zone} (hz : z ≠ g.zone) :
    ((a.revokeOne i rankOf now g t).pool i).claimOf z = (a.pool i).claimOf z := by
  rw [Arbiter.revokeOne_pool hc ht, Pool.claimOf_withClaim_ne _ (c := (a.pool i).refiled rankOf now g t (a.counter + 1)) hz,
    Pool.claimOf_withoutClaim_ne _ hz]
  rfl

/-- R50, R63: the queue stays in order, and no number in it is above the counter. -/
theorem Arbiter.revokeOne_order (order : inQueueOrder (a.pool i).claims)
    (known : ∀ c ∈ (a.pool i).claims, c.arrival ≤ a.counter) :
    inQueueOrder ((a.revokeOne i rankOf now g t).pool i).claims ∧
    ∀ c ∈ ((a.revokeOne i rankOf now g t).pool i).claims, c.arrival ≤ (a.revokeOne i rankOf now g t).counter := by
  rw [Arbiter.revokeOne_pool hc ht, Arbiter.revokeOne_counter hc ht]
  have old : ∀ c ∈ ((a.pool i).withoutClaim g.zone).claims, c.arrival ≤ a.counter := fun c hm =>
    known c (List.mem_filter.1 hm).1
  refine ⟨insertClaim_inQueueOrder (order.sublist List.filter_sublist) fun x hx => Nat.lt_succ_of_le (old x hx),
    fun c hm => ?_⟩
  rcases List.mem_cons.1 ((insertClaim_perm _ _).mem_iff.1 hm) with rfl | hm
  · exact le_rfl
  · exact (old c hm).trans (Nat.le_succ _)

theorem Arbiter.revokeOne_split (h : (a.pool i).tidy) {l r : List Grant} (e : (a.pool i).grants = l ++ g :: r) :
    ((a.revokeOne i rankOf now g t).pool i).grants =
      l ++ ((if g.units ≤ t then [] else [{ g with units := g.units - t }]) ++ r) := by
  rw [Arbiter.revokeOne_pool hc ht]
  exact Pool.lessGrant_split h.grants e t

end

end Sys2Proof.Machine
end

section
/-! Settles O55: a capacity write, what it revokes, re-files and renumbers (R47, R48, R50, R62, R63). -/
namespace Sys2Proof.Machine

theorem Pool.grantOf_of_mem {p : Pool} {g : Grant} (h : (p.grants.map Grant.zone).Nodup) (hg : g ∈ p.grants) :
    p.grantOf g.zone = some g := by
  cases e : p.grantOf g.zone with
  | none => exact absurd (List.mem_map_of_mem hg) ((Pool.grantOf_eq_none_iff p _).1 e)
  | some b =>
    obtain ⟨hb, hz⟩ := Pool.grantOf_mem e
    rw [List.inj_on_of_nodup_map h hb hg hz]

/-! ## A revocation (R62, R63) -/

/-- What a revocation starts from, its counter too low for a renumbering: grants of 1 to 16 units, each with a number of its
own. -/
structure Revocable (a : Arbiter) (i : PoolId) : Prop where
  tidy : a.tidy
  units : ∀ g ∈ (a.pool i).grants, 1 ≤ g.units ∧ g.units ≤ 16
  numbers : (a.pool i).grants.Pairwise (fun g b => g.number ≠ b.number)
  room : a.counter + (a.pool i).grants.length ≤ 4294967295

/-- What the revocation of an excess of e units comes to: each grant's loss is taken from it and waits again. -/
structure Revoked (rankOf : Zone → Nat) (now : Time) (i : PoolId) (e : Nat) (a t : Arbiter) : Prop where
  whole : ∀ g ∈ (a.pool i).grants, lossOf rankOf (a.pool i).grants e g = g.units → (t.pool i).grantOf g.zone = none
  part : ∀ g ∈ (a.pool i).grants, lossOf rankOf (a.pool i).grants e g < g.units →
    (t.pool i).grantOf g.zone = some { g with units := g.units - lossOf rankOf (a.pool i).grants e g }
  filed : ∀ g ∈ (a.pool i).grants, 0 < lossOf rankOf (a.pool i).grants e g → (t.pool i).claimOf g.zone =
    some ((a.pool i).refiled rankOf now g (lossOf rankOf (a.pool i).grants e g)
      (a.counter + 1 + ((a.pool i).grants.filter (fun b => takenBefore rankOf b g)).length))
  spared : ∀ g ∈ (a.pool i).grants, lossOf rankOf (a.pool i).grants e g = 0 →
    (t.pool i).claimOf g.zone = (a.pool i).claimOf g.zone
  others : ∀ z, (a.pool i).grantOf z = none → (t.pool i).grantOf z = none ∧ (t.pool i).claimOf z = (a.pool i).claimOf z
  order : inQueueOrder (a.pool i).claims → (∀ c ∈ (a.pool i).claims, c.arrival ≤ a.counter) → inQueueOrder (t.pool i).claims
  elsewhere : ∀ j, j ≠ i → t.pool j = a.pool j

section
variable {rankOf : Zone → Nat} {now : Time} {i : PoolId} {e : Nat} {a t : Arbiter} {g : Grant} {l r : List Grant}

/-- Nothing is lost. -/
theorem Revoked.idle (h : Revocable a i) (none : ∀ g ∈ (a.pool i).grants, lossOf rankOf (a.pool i).grants e g = 0) :
    Revoked rankOf now i e a a where
  whole g hg loss := absurd (loss.symm.trans (none g hg)) (by have := (h.units g hg).1; omega)
  part g hg _ := by
    rw [none g hg]
    exact Pool.grantOf_of_mem (h.tidy.pools i).grants hg
  filed g hg loss := absurd (none g hg) (by omega)
  spared _ _ _ := rfl
  others _ hz := ⟨hz, rfl⟩
  order h _ := h
  elsewhere _ _ := rfl

variable (h : Revocable a i) (hg : (a.pool i).grants = l ++ g :: r)
  (first : ∀ b ∈ (a.pool i).grants, takenBefore rankOf b g = false)
include h hg

theorem Revocable.turn : a.counter < 4294967295 ∧ g.units ≤ 16 ∧ ∀ x ∈ l ++ r, x.zone ≠ g.zone ∧ x.number ≠ g.number := by
  have room := h.room
  have zones := (h.tidy.pools i).grants
  have numbers := h.numbers
  have perm : (l ++ g :: r).Perm (g :: (l ++ r)) := List.perm_middle
  rw [hg] at room zones numbers
  rw [List.length_append, List.length_cons] at room
  refine ⟨by omega, (h.units g (by simp [hg])).2, fun x hx => ⟨fun ez => ?_, fun en => ?_⟩⟩
  · have nodup := (perm.map Grant.zone).nodup_iff.1 zones
    exact (List.nodup_cons.1 nodup).1 (ez ▸ List.mem_map_of_mem hx)
  · have pair := (perm.pairwise_iff (fun n => Ne.symm n)).1 numbers
    exact (List.pairwise_cons.1 pair).1 x hx en.symm

omit h in
theorem mem_grants_split {x : Grant} : x ∈ (a.pool i).grants ↔ x = g ∨ x ∈ l ++ r := by
  rw [hg]
  exact List.perm_middle.mem_iff.trans List.mem_cons

/-- A zone without a grant is not the zone of the grant that is taken from. -/
theorem Revocable.zone_ne {z : Zone} (hz : (a.pool i).grantOf z = none) : z ≠ g.zone := by
  rintro rfl
  rw [Pool.grantOf_of_mem (h.tidy.pools i).grants ((mem_grants_split hg).2 (.inl rfl))] at hz
  simp at hz

include first

/-- The first grant loses the whole excess and keeps units: nothing more is lost. -/
theorem Revoked.partly (excess : 0 < e) (small : e < g.units) : Revoked rankOf now i e a (a.revokeOne i rankOf now g e) := by
  obtain ⟨hc, hu, apart⟩ := h.turn hg
  have ht : e ≤ 16 := by omega
  have split := Arbiter.revokeOne_split (rankOf := rankOf) (now := now) hc ht (h.tidy.pools i) hg
  rw [if_neg (Nat.not_le.2 small)] at split
  have zones := ((h.tidy.revokeOne ((mem_grants_split hg).2 (.inl rfl)) rankOf now e).pools i).grants
  have own : lossOf rankOf (a.pool i).grants e g = e := by
    rw [lossOf_first rankOf first, Nat.min_eq_right small.le]
  have none : ∀ x ∈ l ++ r, lossOf rankOf (a.pool i).grants e x = 0 := fun x hx => by
    have before := takenBefore_of_not rankOf (apart x hx).2.symm (first x ((mem_grants_split hg).2 (.inr hx)))
    rw [hg, lossOf_after rankOf before, Nat.sub_eq_zero_of_le small.le, lossOf_zero]
  refine ⟨fun x hx loss => ?_, fun x hx loss => ?_, fun x hx loss => ?_, fun x hx loss => ?_, fun z hz => ?_,
    fun order known => (Arbiter.revokeOne_order hc ht order known).1, fun j hj => Arbiter.revokeOne_elsewhere hc ht hj⟩
  · have := (h.units x hx).1
    rcases (mem_grants_split hg).1 hx with rfl | hx
    · omega
    · rw [none x hx] at loss
      omega
  · rcases (mem_grants_split hg).1 hx with rfl | hx
    · rw [own]
      exact Pool.grantOf_of_mem (g := { x with units := x.units - e }) zones (by simp [split])
    · rw [none x hx]
      refine Pool.grantOf_of_mem zones ?_
      rw [split]
      simp only [List.mem_append, List.mem_singleton] at hx ⊢
      tauto
  · rcases (mem_grants_split hg).1 hx with rfl | hx
    · rw [own, Arbiter.revokeOne_claim hc ht, List.filter_eq_nil_iff.2 fun b hb => by simp [first b hb]]
      rfl
    · rw [none x hx] at loss
      omega
  · rcases (mem_grants_split hg).1 hx with rfl | hx
    · omega
    · exact Arbiter.revokeOne_claim_ne hc ht (apart x hx).1
  · have hzg := h.zone_ne hg hz
    refine ⟨?_, Arbiter.revokeOne_claim_ne hc ht hzg⟩
    rw [Pool.grantOf_eq_none_iff] at hz ⊢
    rw [hg] at hz
    rw [split]
    simpa using hz

/-- The first grant goes whole; the rest of the excess is taken from the others. -/
theorem Revoked.wholly (large : g.units ≤ e)
    (next : Revoked rankOf now i (e - g.units) (a.revokeOne i rankOf now g g.units) t) : Revoked rankOf now i e a t := by
  obtain ⟨hc, ht, apart⟩ := h.turn hg
  have split := Arbiter.revokeOne_split (rankOf := rankOf) (now := now) hc ht (h.tidy.pools i) hg
  rw [if_pos le_rfl, List.nil_append] at split
  have own : lossOf rankOf (a.pool i).grants e g = g.units := by
    rw [lossOf_first rankOf first, Nat.min_eq_left large]
  have gone : ((a.revokeOne i rankOf now g g.units).pool i).grantOf g.zone = none := by
    rw [Pool.grantOf_eq_none_iff, split, List.mem_map]
    exact fun ⟨x, hx, ez⟩ => (apart x hx).1 ez
  have before : ∀ x ∈ l ++ r, takenBefore rankOf g x = true := fun x hx =>
    takenBefore_of_not rankOf (apart x hx).2.symm (first x ((mem_grants_split hg).2 (.inr hx)))
  have loss : ∀ x ∈ l ++ r, lossOf rankOf (a.pool i).grants e x =
      lossOf rankOf ((a.revokeOne i rankOf now g g.units).pool i).grants (e - g.units) x := fun x hx => by
    rw [hg, split, lossOf_after rankOf (before x hx)]
  have claims {z : Zone} (hz : z ≠ g.zone) := Arbiter.revokeOne_claim_ne (i := i) (rankOf := rankOf) (now := now) hc ht hz
  obtain ⟨whole, part, filed, spared, others, order, elsewhere⟩ := next
  rw [split] at whole part filed spared
  refine ⟨fun x hx hl => ?_, fun x hx hl => ?_, fun x hx hl => ?_, fun x hx hl => ?_, fun z hz => ?_, fun ho known => ?_,
    fun j hj => (elsewhere j hj).trans (Arbiter.revokeOne_elsewhere hc ht hj)⟩
  · rcases (mem_grants_split hg).1 hx with rfl | hx
    · exact (others x.zone gone).1
    · rw [loss x hx, split] at hl
      exact whole x hx hl
  · rcases (mem_grants_split hg).1 hx with rfl | hx
    · omega
    · rw [loss x hx, split] at hl ⊢
      exact part x hx hl
  · rcases (mem_grants_split hg).1 hx with rfl | hx
    · rw [(others x.zone gone).2, own, Arbiter.revokeOne_claim hc ht,
        List.filter_eq_nil_iff.2 fun b hb => by simp [first b hb]]
      rfl
    · have count := (filter_takenBefore_perm (l := l) (r := r) rankOf x (before x hx)).length_eq
      rw [loss x hx, split] at hl ⊢
      rw [filed x hx hl, Arbiter.revokeOne_counter hc ht, hg, count, List.length_cons, Pool.refiled, Pool.refiled,
        Pool.waitingOf, claims (apart x hx).1, ← Pool.waitingOf]
      congr 2
      omega
  · rcases (mem_grants_split hg).1 hx with rfl | hx
    · have := (h.units x ((mem_grants_split hg).2 (.inl rfl))).1
      omega
    · rw [loss x hx, split] at hl
      rw [spared x hx hl, claims (apart x hx).1]
  · have hzg := h.zone_ne hg hz
    rw [← claims hzg]
    refine others z ?_
    rw [Pool.grantOf_eq_none_iff] at hz ⊢
    rw [hg] at hz
    rw [split]
    simp only [List.map_append, List.map_cons, List.mem_append, List.mem_cons, not_or] at hz ⊢
    exact ⟨hz.1, hz.2.2⟩
  · obtain ⟨ho', known'⟩ := Arbiter.revokeOne_order (rankOf := rankOf) (now := now) (g := g) hc ht ho known
    exact order ho' known'

omit first in
/-- What is left after a grant has gone whole can be revoked from. -/
theorem Revocable.next (rankOf : Zone → Nat) (now : Time) : Revocable (a.revokeOne i rankOf now g g.units) i := by
  obtain ⟨hc, ht, _⟩ := h.turn hg
  have split := Arbiter.revokeOne_split (rankOf := rankOf) (now := now) hc ht (h.tidy.pools i) hg
  rw [if_pos le_rfl, List.nil_append] at split
  have sub : (l ++ r).Sublist (a.pool i).grants := hg ▸ (List.Sublist.refl l).append (List.sublist_cons_self g r)
  have room := h.room
  rw [hg, List.length_append, List.length_cons] at room
  refine ⟨h.tidy.revokeOne ((mem_grants_split hg).2 (.inl rfl)) rankOf now _, ?_, ?_, ?_⟩
  · rw [split]
    exact fun x hx => h.units x (sub.subset hx)
  · rw [split]
    exact h.numbers.sublist sub
  · rw [split, Arbiter.revokeOne_counter hc ht, List.length_append]
    omega

end

/-- R62, R63: the revocation of an excess, with a turn for each grant. -/
theorem Arbiter.revoke_revoked (rankOf : Zone → Nat) (now : Time) (i : PoolId) (fuel : Nat) : ∀ (e : Nat) (a : Arbiter),
    Revocable a i → (a.pool i).grants.length ≤ fuel → Revoked rankOf now i e a (Arbiter.revoke i rankOf now fuel e a) := by
  have empty {e : Nat} {a : Arbiter} (h : Revocable a i) (none : (a.pool i).grants = []) : Revoked rankOf now i e a a :=
    .idle h fun g hg => by simp [none] at hg
  induction fuel with
  | zero => exact fun e a h len => empty h (List.eq_nil_of_length_eq_zero (Nat.le_zero.1 len))
  | succ fuel ih =>
    intro e a h len
    by_cases e0 : e = 0
    · subst e0
      rw [Arbiter.revoke, if_pos rfl]
      exact .idle h fun g _ => lossOf_zero rankOf _ g
    · cases hv : nextVictim rankOf (a.pool i).grants with
      | none =>
        rw [Arbiter.revoke, if_neg e0, hv]
        exact empty h (nextVictim_none hv)
      | some g =>
        obtain ⟨l, r, hg⟩ := List.append_of_mem (nextVictim_mem hv)
        have first := nextVictim_first rankOf hv
        rw [Arbiter.revoke_victim now fuel e0 hv]
        rcases Nat.lt_or_ge e g.units with small | large
        · have done : ∀ b, Arbiter.revoke i rankOf now fuel (e - e) b = b := fun b => by
            cases fuel <;> simp [Arbiter.revoke]
          rw [Nat.min_eq_right small.le, done]
          exact .partly h hg first (Nat.pos_of_ne_zero e0) small
        · obtain ⟨hc, ht, _⟩ := h.turn hg
          rw [Nat.min_eq_left large]
          refine .wholly h hg first large (ih _ _ (h.next hg rankOf now) ?_)
          have split := Arbiter.revokeOne_split (rankOf := rankOf) (now := now) hc ht (h.tidy.pools i) hg
          rw [hg, List.length_append, List.length_cons] at len
          rw [split, if_pos le_rfl, List.nil_append, List.length_append]
          omega

/-- R49: a pool has at most 24 grants, one of each zone. -/
theorem Pool.tidy.grants_length {p : Pool} (h : p.tidy) : p.grants.length ≤ 24 := by
  have card := h.grants.length_le_card
  rwa [List.length_map, Fintype.card_fin] at card

/-- R47: a capacity write below the grants is the revocation of what stands above it. -/
theorem Arbiter.writeCapacity_revoked {a : Arbiter} (h : a.sound) {i : PoolId} {v : Nat} (rankOf : Zone → Nat) (now : Time)
    (above : v < (a.pool i).grantedTotal) (room : a.counter + 24 ≤ 4294967295)
    (units : ∀ g ∈ (a.pool i).grants, 1 ≤ g.units ∧ g.units ≤ 16)
    (numbers : (a.pool i).grants.Pairwise (fun g b => g.number ≠ b.number)) :
    Revoked rankOf now i ((a.pool i).grantedTotal - v) a (a.writeCapacity i v rankOf now) := by
  obtain ⟨tidy, within⟩ := (Arbiter.sound_iff a).1 h
  have short := (tidy.pools i).grants_length
  have fits := within i
  have thin : Thins a (a.setPool i { a.pool i with capacity := v }) := .setPool (.capacity _ v)
  unfold Arbiter.writeCapacity
  dsimp only
  rw [if_neg (by omega), if_neg (by omega), if_pos above]
  have counter : (a.setPool i { a.pool i with capacity := v }).counter = a.counter := Arbiter.setPool_counter _ _ _
  have pool : (a.setPool i { a.pool i with capacity := v }).pool i = { a.pool i with capacity := v } :=
    Arbiter.setPool_pool _ _ _
  have other : ∀ j, j ≠ i → (a.setPool i { a.pool i with capacity := v }).pool j = a.pool j := fun j hj =>
    Arbiter.setPool_other hj _ _
  have tidy' := thin.tidy tidy
  generalize a.setPool i { a.pool i with capacity := v } = b at counter pool other tidy'
  have start : Revocable b i := by
    refine ⟨tidy', ?_, ?_, ?_⟩ <;> rw [pool]
    · exact units
    · exact numbers
    · rw [counter]
      exact (Nat.add_le_add_left short _).trans room
  have ends := Arbiter.revoke_revoked rankOf now i (a.pool i).grants.length ((a.pool i).grantedTotal - v) b start
    (by rw [pool])
  obtain ⟨whole, part, filed, spared, others, order, elsewhere⟩ := ends
  rw [pool] at whole part filed spared others order
  rw [counter] at filed order
  exact ⟨whole, part, filed, spared, others, order, fun j hj => (elsewhere j hj).trans (other j hj)⟩

/-! ## A number at the last value of the counter (R48) -/

theorem Arbiter.tick_last {a : Arbiter} (h : 4294967295 ≤ a.counter) : a.tick.counter = a.numbers.length + 1 ∧
    ∀ i, a.tick.pool i = (a.pool i).renumber a.placeOf := by
  unfold Arbiter.tick Arbiter.readyNumber
  rw [if_neg (show ¬ a.counter < Config.counterMax from Nat.not_lt.2 h)]
  exact ⟨rfl, fun i => by cases i <;> rfl⟩

theorem Arbiter.tick_counter (a : Arbiter) :
    a.tick.counter = if a.counter < 4294967295 then a.counter + 1 else a.numbers.length + 1 := by
  split
  · rename_i h
    rw [Arbiter.tick_below h]
  · rename_i h
    exact (Arbiter.tick_last (Nat.le_of_not_lt h)).1

/-- R63: a claim that waits takes the revoked units and the number that is due. -/
theorem Arbiter.refile_waiting {a : Arbiter} {i : PoolId} {z : Zone} {c : Claim} (h : (a.pool i).claimOf z = some c)
    (u rank : Nat) (now : Time) : ((a.refile i z u rank now).pool i).claimOf z =
      some ⟨z, min 16 (c.units + u), rank, a.tick.counter, 0, now, false⟩ := by
  unfold Arbiter.refile
  rw [h]
  dsimp only
  rw [Arbiter.moveClaim, Arbiter.setPool_pool]
  exact Pool.claimOf_withClaim_same (c := ⟨z, min 16 (c.units + u), rank, a.tick.counter, 0, now, false⟩)
    (Pool.claimOf_withoutClaim _ z)

/-- Settles O55: the three ways of a capacity write, the revocation grant by grant, and the number at the counter's end. -/
theorem capacityWriteAndRevocation : Obligations.CapacityWriteAndRevocation := by
  refine ⟨fun a i v rankOf now h => ?_, fun a t i v rankOf now ht => ?_,
    fun a t i v rankOf now loss h above room units numbers hl ht => ?_,
    fun a => ⟨Arbiter.tick_below, fun hc => ?_, fun i z u rank now c hz _ => ?_⟩⟩
  · have capacity := Arbiter.writeCapacity_capacity a i v rankOf now
    obtain ⟨sound, total⟩ := Arbiter.writeCapacity_sound h i v rankOf now
    exact ⟨capacity, (Arbiter.pool_sound sound i).within.trans_eq capacity, total⟩
  · subst ht
    unfold Arbiter.writeCapacity
    dsimp only
    refine ⟨fun same => if_pos same, fun rise => ?_, fun fall within => ?_⟩
    · rw [if_neg (by omega), if_pos rise]
    · rw [if_neg (by omega), if_neg (by omega), if_neg (by omega)]
  · subst ht
    have revoked := Arbiter.writeCapacity_revoked h rankOf now above room units numbers
    refine ⟨fun g hg => ?_, revoked.others, revoked.order, revoked.elsewhere⟩
    rw [hl g]
    exact ⟨revoked.whole g hg, revoked.part g hg, revoked.filed g hg, revoked.spared g hg⟩
  · exact Arbiter.tick_last hc
  · rw [Arbiter.refile_waiting hz, Arbiter.tick_counter]

end Sys2Proof.Machine
end

section
/-! SUPPORT for O57. The level conditions and their causes (R73, R94, R153, R179): what leaves both as they are, the three
acts that move a cause and its condition together, and what the zone controller and the plant controller do. -/
namespace Sys2Proof.Machine

/-- The three level conditions, each beside its cause. -/
def State.levels (s : State) : (Bool × PartState) × (Bool × HeaterState) × (Bool × Bool) :=
  ((s.cond.stopped, s.op.state), (s.cond.auxLockout, s.plant.heater.state), (s.cond.shedActive, s.plant.shedView))

theorem State.levelsFollowCauses_iff (s : State) :
    s.levelsFollowCauses ↔
      (s.levels.1.1 = true ↔ s.levels.1.2 = .stopped) ∧ (s.levels.2.1.1 = true ↔ s.levels.2.1.2 = .lockedOut) ∧
      (s.levels.2.2.1 = true ↔ s.levels.2.2.2 = true) := Iff.rfl

theorem NodeSide.levels {s t : State} (h : NodeSide s t) : t.levels = s.levels := by
  have op : t.op.state = s.op.state := by rw [h.op]
  rw [State.levels, h.cond, h.plant, op]
  rfl

/-- Where the level conditions follow their causes before, they do after. -/
def Levelled (s t : State) : Prop := s.levelsFollowCauses → t.levelsFollowCauses

theorem Levelled.same {s t : State} (h : t.levels = s.levels) : Levelled s t := fun k => by
  rwa [State.levelsFollowCauses_iff, h]

theorem Levelled.refl (s : State) : Levelled s s := id

theorem Levelled.trans {s t u : State} (a : Levelled s t) (b : Levelled t u) : Levelled s u := fun k => b (a k)

/-- What begins after the levels have been left as they are. -/
theorem Levelled.on {s t u : State} (h : Levelled t u) (e : t.levels = s.levels) : Levelled s u := (Levelled.same e).trans h

/-- R181: a sticky condition raised or cleared leaves the levels as they are. -/
theorem State.levels_setCond {s : State} {c : CondBlock} (h : StickyOnly s.cond c) : (s.setCond c).levels = s.levels := by
  rw [State.levels, State.setCond_cond, h.stopped, h.auxLockout, h.shedActive]
  rfl

theorem Levelled.raise (s : State) (c : StickyCond) (i : Option Nat) : Levelled s (s.raise c i) :=
  .same (State.levels_setCond (.setSticky ⟨rfl, rfl, rfl, rfl, rfl⟩ _ _))

/-! ## A cause moves, and its condition with it (R73, R94, R153, R165) -/

theorem Levelled.enterPart (s : State) (p : PartState) : Levelled s (s.enterPart p) :=
  fun ⟨_, aux, shed⟩ => ⟨decide_eq_true_iff, aux, shed⟩

theorem Levelled.enterHeater (s : State) (q : HeaterState) : Levelled s (s.enterHeater q) :=
  fun ⟨stopped, _, shed⟩ => ⟨stopped, decide_eq_true_iff, shed⟩

theorem Levelled.viewShed (s : State) (b : Bool) : Levelled s (s.viewShed b) :=
  fun ⟨stopped, aux, _⟩ => ⟨stopped, aux, Iff.rfl⟩

theorem Levelled.afterReset (s : State) (c : ResetCause) : Levelled s (s.afterReset c) :=
  fun _ => ⟨by simp [State.afterReset, CondBlock.reset, OpControl.reset],
    by simp [State.afterReset, CondBlock.reset, Plant.reset], Iff.rfl⟩

/-! ## Runs of such acts -/

theorem Levelled.ite {c : Prop} [Decidable c] {s t u : State} (a : Levelled s t) (b : Levelled s u) :
    Levelled s (if c then t else u) := by
  split
  · exact a
  · exact b

theorem Levelled.foldl {α : Type} {f : State → α → State} (h : ∀ s a, Levelled s (f s a)) (l : List α) :
    ∀ s, Levelled s (l.foldl f s) := by
  induction l with
  | nil => exact Levelled.refl
  | cons a l ih => exact fun s => (h s a).trans (ih (f s a))

theorem Levelled.eachZone {f : State → Zone → State} (h : ∀ s z, Levelled s (f s z)) (s : State) :
    Levelled s (s.eachZone f) :=
  .foldl h allZones s

theorem Levelled.eachNode {f : State → NodeId → State} (h : ∀ s n, Levelled s (f s n)) (s : State) :
    Levelled s (s.eachNode f) :=
  .foldl h allNodes s

theorem NodeSide.levelled {s t : State} (h : NodeSide s t) : Levelled s t := .same h.levels


/-! ## The notices, and the start and stop of the heater (R69, R80 to R83, R96, R99, R102) -/

theorem Levelled.plantMove (s : State) (n : Option NodeId) (a : Nat) (o : Origin) : Levelled s (s.plantMove n a o) :=
  (NodeSide.plantMove s n a o).levelled

theorem Levelled.testHold (s : State) : Levelled s s.testHold := by
  unfold State.testHold
  split
  · exact .ite (.ite (.same rfl) (.refl s)) (.same rfl)
  · exact .refl s

theorem Levelled.seqRise (s : State) : Levelled s s.seqRise := by
  unfold State.seqRise
  split
  · exact .ite ((Levelled.plantMove s _ _ _).trans (.same rfl)) (.refl s)
  · exact .ite ((Levelled.plantMove s _ _ _).trans (.same rfl)) (.refl s)
  · exact .refl s

theorem Levelled.heaterStart (s : State) : Levelled s s.heaterStart :=
  .ite ((Levelled.plantMove s _ _ _).trans (.enterHeater _ _)) (.refl s)

theorem Levelled.testStopDelay (s : State) : Levelled s s.testStopDelay :=
  .ite (.ite (.ite (.same rfl) (.refl s)) (.same rfl)) (.refl s)

theorem Levelled.hearCool (s : State) (b : Arbiter) : Levelled s (s.hearCool b) := by
  have seen : Levelled s (s.setPlant { s.plant with viewCool := s.arb.cool.view }).testHold := .on (.testHold _) rfl
  exact .ite (.refl s) (.ite (seen.trans (.seqRise _)) seen)

theorem Levelled.hearHeat (s : State) (b : Arbiter) : Levelled s (s.hearHeat b) := by
  have seen : Levelled s (s.setPlant { s.plant with viewHeat := s.arb.heat.view }).testStopDelay :=
    .on (.testStopDelay _) rfl
  exact .ite (.refl s) (.ite (seen.trans (.heaterStart _)) seen)

theorem Levelled.notices (s : State) (b : Arbiter) (z : Option Zone) : Levelled s (s.notices b z) :=
  ((NodeSide.grantNotices s b z).levelled.trans (.hearHeat _ b)).trans (.hearCool _ b)

theorem Levelled.heaterFailure (s : State) : Levelled s s.heaterFailure :=
  .ite (.on (.enterHeater _ _) rfl) (.on (.enterHeater _ _) rfl)

theorem Levelled.modeNotice (s : State) (a b : EffMode) : Levelled s (s.modeNotice a b) := by
  have told (b : Bool) : Levelled s (s.purgeNotice b) := .on (NodeSide.intakeCompare _).levelled rfl
  exact .ite (.refl s) (.ite (told _) (.ite (told _) (.refl s)))

/-! ## An evaluation, and the writes of a capacity (R11, R47, R77, R93) -/

theorem Levelled.evaluate (s : State) (z : Zone) : Levelled s (s.evaluate z) := by
  have settled : Levelled s ((s.writeDemand z).settleZone z) := .same rfl
  exact .ite (.ite (NodeSide.zoneTargets s z).levelled
    ((settled.trans (NodeSide.zoneTargets _ z).levelled).trans (Levelled.notices _ _ _))) (.refl s)

theorem Levelled.writeCapacity (s : State) (i : PoolId) (v : Nat) : Levelled s (s.writeCapacity i v) := by
  have written : Levelled s (s.setArb (s.arb.writeCapacity i v s.claimRankOf s.now)) := .same rfl
  exact .ite (.refl s) (written.trans (Levelled.notices _ _ _))

theorem Levelled.refreshCool (s : State) : Levelled s s.refreshCool := .writeCapacity s _ _
theorem Levelled.refreshHeat (s : State) : Levelled s s.refreshHeat := .writeCapacity s _ _

/-! ## The sequencer and the heater (chapters 4 and 5) -/

theorem Levelled.shedStage (s : State) (k : Nat) : Levelled s (s.shedStage k) := by
  have moved (a : Nat) (q : Seq) : Levelled s (((s.plantMove s.plant.defn.compressor a .plant).enterSeq q).refreshCool) :=
    (NodeSide.plantMove s _ a _).levelled.trans (.on (.refreshCool _) rfl)
  exact .ite (moved _ _) (moved _ _)

theorem Levelled.seqDecide (s : State) : Levelled s s.seqDecide := by
  have rise := (Levelled.seqRise s)
  unfold State.seqDecide
  split
  · exact rise
  · exact .ite (.ite (.shedStage s _) (.ite rise (.ite (.shedStage s _) (.refl s)))) (.refl s)
  · exact .refl s

theorem Levelled.enterRunning (s : State) (k : Nat) : Levelled s (s.enterRunning k) := by
  have written : Levelled s (s.enterSeq (.running k)).refreshCool := .on (.refreshCool _) rfl
  exact (written.trans (Levelled.testHold _)).trans (.seqDecide _)

theorem Levelled.allowedChanged (s : State) (k : Nat) : Levelled s (s.allowedChanged k) :=
  .ite (.refl s) ((Levelled.refreshCool s).trans (.seqDecide _))

theorem Levelled.completeStep (s : State) : Levelled s s.completeStep := by
  unfold State.completeStep
  split
  · exact .on (.enterRunning _ 1) rfl
  · exact .enterRunning s _
  · exact .enterRunning s _
  · exact .on (.refreshCool _) rfl
  · exact .refl s

theorem Levelled.flameOut (s : State) : Levelled s s.flameOut := (Levelled.heaterFailure s).trans (.refreshHeat _)

theorem Levelled.heaterStop (s : State) : Levelled s s.heaterStop := by
  unfold State.heaterStop
  split
  case h_1 => exact ((Levelled.plantMove s _ _ _).trans (.enterHeater _ _)).trans (.refreshHeat _)
  case h_2 => exact .on (NodeSide.plantMove _ _ _ _).levelled rfl
  all_goals exact .refl s

theorem Levelled.heaterLit (s : State) : Levelled s s.heaterLit := by
  have lit : Levelled s ((s.setHeater { s.plant.heater with failures := 0 }).enterHeater .running) :=
    .on (.enterHeater _ _) rfl
  exact (lit.trans (.refreshHeat _)).trans (.testStopDelay _)

theorem Levelled.restReport (s : State) : Levelled s s.restReport := .ite (.enterPart s _) (.refl s)

theorem Levelled.setCoolant (s : State) (k : Nat) : Levelled s (s.setCoolant k) := by
  have written : Levelled s (s.setPlant { s.plant with coolant := k }).refreshHeat := .on (.refreshHeat _) rfl
  exact .ite (.refl s) (written.trans (Levelled.testStopDelay _))

/-! ## Zones (chapters 1 and 2) -/

theorem Levelled.changeStack (s : State) (z : Zone) (f : ZoneRec → ZoneRec) : Levelled s (s.changeStack z f) :=
  .on (Levelled.modeNotice (s.modZone z f) _ _) rfl

theorem Levelled.changeMode (s : State) (z : Zone) (f : ZoneRec → ZoneRec) : Levelled s (s.changeMode z f) :=
  .ite (.changeStack s z f) ((Levelled.changeStack s z f).trans (.evaluate _ z))

theorem Levelled.startOverride (s : State) (z : Zone) (k : EntryKind) (c : Option PurgeCause) :
    Levelled s (s.startOverride z k c) := .ite (.refl s) (.changeMode s z _)

theorem Levelled.endOverride (s : State) (z : Zone) (k : EntryKind) : Levelled s (s.endOverride z k) :=
  .ite (.changeMode s z _) (.refl s)

theorem Levelled.changeSetpoint (s : State) (z : Zone) (f : ZoneRec → ZoneRec) : Levelled s (s.changeSetpoint z f) :=
  .ite (.same rfl) (.on (.evaluate (s.modZone z f) z) rfl)

theorem Levelled.changePlan (s : State) (z : Zone) (m : BaseMode) (f : ZoneRec → ZoneRec) :
    Levelled s (s.changePlan z m f) :=
  .ite (.on (.evaluate (s.setZone z { f (s.zone z) with baseMode := m }) z) rfl) (.same rfl)

theorem Levelled.failedRead (s : State) (z : Zone) : Levelled s (s.failedRead z) :=
  .ite (.refl s) (.ite (.same rfl) (.on (.evaluate _ z) rfl))

theorem Levelled.purgeCheck (s : State) (z : Zone) (c : Nat) : Levelled s (s.purgeCheck z c) := by
  unfold State.purgeCheck
  dsimp only
  split
  · exact .ite (.changeStack s z _) (.refl s)
  · exact .ite (.changeStack s z _) (.refl s)

theorem Levelled.takeReading (s : State) (z : Zone) (t : Int) (c : Nat) : Levelled s (s.takeReading z t c) := by
  have checked : Levelled s ((s.modZone z fun r =>
      { r with temperature := some t, co2 := some c, sensorStatus := .ok, missed := 0 }).purgeCheck z c) :=
    .on (.purgeCheck _ z c) rfl
  exact .ite (checked.trans (.evaluate _ z)) (.failedRead s z)

theorem Levelled.readFailed (s : State) (z : Zone) : Levelled s (s.readFailed z) := .ite (.failedRead s z) (.refl s)

theorem Levelled.readGood (s : State) (z : Zone) (t : Int) (c : Nat) : Levelled s (s.readGood z t c) :=
  .ite (.takeReading s z t c) (.refl s)

theorem Levelled.loopExpiry (s : State) (z : Zone) : Levelled s (s.loopExpiry z) := by
  have failed : Levelled s
      ((s.modZone z fun r => { r with loopTimer := some (s.now + r.loopPeriod * Config.second) }).failedRead z) :=
    .on (.failedRead _ z) rfl
  unfold State.loopExpiry
  dsimp only
  split
  · exact failed
  · exact .ite (.ite (.same rfl) (.on (NodeSide.askRead _ _ _).levelled rfl)) failed

theorem Levelled.doorOpened (s : State) (d : Door) (z : Zone) : Levelled s (s.doorOpened d z) :=
  .ite (.refl s) (.ite (.ite (.same rfl) (.on (.changeMode _ z _) rfl)) (.same rfl))

theorem Levelled.doorClosed (s : State) (d : Door) (z : Zone) : Levelled s (s.doorClosed d z) := by
  have ended : Levelled s ((s.setZone z { s.zone z with openDoors := (s.zone z).openDoors &&& ~~~ BitVec.twoPow 4 d.val
      }).endOverride z .curtain) := .on (.endOverride _ z _) rfl
  exact .ite (.ite ended (.same rfl)) (.refl s)

theorem Levelled.curtainExpiry (s : State) (z : Zone) : Levelled s (s.curtainExpiry z) := .endOverride s z _

theorem Levelled.defogFor (s : State) (z : Zone) (k : Nat) : Levelled s (s.defogFor z k) :=
  .ite (.same rfl) (.changeMode s z _)

theorem Levelled.claimAges (s : State) (z : Zone) : Levelled s (s.claimAges z) := by
  unfold State.claimAges
  split
  · exact .refl s
  · exact .ite (.refl s) (.same rfl)

/-! ## Entry to RUN (R161), and a node that goes down (R19, R88, R105, R151) -/

theorem Levelled.startZones (s : State) : Levelled s s.startZones :=
  (Levelled.eachZone (f := State.startZone) (fun _ _ => .ite (.same rfl) (.refl _)) s).trans (.eachZone Levelled.evaluate _)

theorem Levelled.plantRun (s : State) : Levelled s s.plantRun :=
  (((Levelled.refreshCool s).trans (.seqDecide _)).trans (Levelled.heaterStart _)).trans
    (.on (NodeSide.intakeCompare _).levelled rfl)

theorem Levelled.enterRun (s : State) : Levelled s s.enterRun := by
  have zones : Levelled s (s.enterPart .run).clearMarks.startZones :=
    (Levelled.enterPart s _).trans (.on (.startZones _) rfl)
  have revived := (zones.trans (.plantRun _)).trans
    (Levelled.eachNode (f := State.startRevival) (fun _ _ => .ite (.same rfl) (.refl _)) _)
  exact revived.trans (.raise _ _ _)

theorem Levelled.testCommissioned (s : State) : Levelled s s.testCommissioned := .ite (.enterRun s) (.refl s)

theorem Levelled.markDone (s : State) (n : NodeId) : Levelled s (s.markDone n) := .on (.testCommissioned _) rfl

theorem Levelled.opFollow (s : State) : Levelled s s.opFollow :=
  .ite (.eachNode (fun u n => .ite (.markDone u n) (.refl u)) s) (.refl s)

theorem Levelled.heaterNodeDown (s : State) : Levelled s s.heaterNodeDown := by
  unfold State.heaterNodeDown
  split
  case h_1 | h_3 => exact .enterHeater s _
  case h_2 => exact (Levelled.enterHeater s _).trans (.refreshHeat _)
  all_goals exact .refl s

theorem Levelled.plantNodeDown (s : State) (n : NodeId) (role : PlantRole) : Levelled s (s.plantNodeDown n role) := by
  cases role with
  | compressor =>
    have faulted : Levelled s (s.seqFault n) := .on (.refreshCool (s.enterSeq .fault)) rfl
    exact .ite (.refl s) (faulted.trans (.restReport _))
  | auxHeater => exact (Levelled.heaterNodeDown s).trans (.restReport _)
  | intake => exact .refl s

theorem Levelled.downNotice (s : State) (n : NodeId) : Levelled s (s.downNotice n) := by
  unfold State.downNotice
  split
  · exact .refl s
  · exact .ite (.refl s) (.on (.evaluate _ _) rfl)
  · exact .plantNodeDown s n _

theorem Levelled.opNodeDown (s : State) (n : NodeId) : Levelled s (s.opNodeDown n) := .ite (.markDone s n) (.refl s)

theorem Levelled.faultNotices (s : State) (n : NodeId) : Levelled s (s.faultNotices n) :=
  (Levelled.downNotice s n).trans (.on (.opNodeDown _ n) rfl)

theorem Levelled.offlineNotices (s : State) (n : NodeId) : Levelled s (s.offlineNotices n) :=
  (Levelled.downNotice s n).trans (.on (.opNodeDown _ n) rfl)

end Sys2Proof.Machine
end

section
/-! SUPPORT for O57, continued: the node manager's outcomes and the changes of part state. -/
namespace Sys2Proof.Machine

/-! ## The changes of a node's state (R144 to R149) -/

theorem Levelled.faultRecord (s : State) (n : NodeId) (why : FaultReason) : Levelled s (s.faultRecord n why) :=
  .ite (.on (NodeSide.askHalt _ n).levelled rfl) (.same rfl)

theorem Levelled.enterFault (s : State) (n : NodeId) (why : FaultReason) : Levelled s (s.enterFault n why) :=
  (Levelled.faultRecord s n why).trans (.faultNotices _ n)

theorem Levelled.unexpectedValue (s : State) (n : NodeId) : Levelled s (s.unexpectedValue n) :=
  .ite (.refl s) (.enterFault s n _)

theorem Levelled.startUp (s : State) (n : NodeId) (c : StartCause) : Levelled s (s.startUp n c) :=
  .on (NodeSide.askStart (s.startingRecord n c 0 .wake) n).levelled rfl

theorem Levelled.revive (s : State) (n : NodeId) (b : Bool) : Levelled s (s.revive n b) :=
  .ite (.same rfl) (.on (NodeSide.askStart (s.startingRecord n .revival 0 .ident) n).levelled rfl)

theorem Levelled.startFailed (s : State) (n : NodeId) (b : Bool) : Levelled s (s.startFailed n b) :=
  .ite (.on (.offlineNotices _ n) rfl) (.same rfl)

theorem Levelled.enterBusy (s : State) (n : NodeId) (b : Bool) : Levelled s (s.enterBusy n b) := by
  unfold State.enterBusy State.pendQueued
  split <;> exact .same rfl

/-! ## The plant controller on a node's reports (chapters 4 and 5) -/

theorem Levelled.askMove (s : State) (n : NodeId) (a : Nat) (o : Origin) : Levelled s (s.askMove n a o) :=
  (NodeSide.askMove s n a o).levelled

theorem Levelled.setSequencer (s : State) (q : Sequencer) : Levelled s (s.setSequencer q) := .same rfl
theorem Levelled.enterSeq (s : State) (q : Seq) : Levelled s (s.enterSeq q) := .same rfl

theorem Levelled.leaveFault (s : State) (n : NodeId) : Levelled s (s.leaveFault n) :=
  .ite ((Levelled.askMove s n 0 .plant).trans (.on (.refreshCool _) rfl)) (.on (.refreshCool _) rfl)

theorem Levelled.watchReport (s : State) (n : NodeId) : Levelled s (s.watchReport n) :=
  .ite (.ite (.same rfl) (.ite (.unexpectedValue s n) (.refl s))) (.refl s)

theorem Levelled.seqReport (s : State) (n : NodeId) : Levelled s (s.seqReport n) := by
  refine .ite ?_ (.refl s)
  split
  · exact .ite ((Levelled.completeStep s).trans (.restReport _)) (.ite (.refl s) (.unexpectedValue s n))
  · exact .refl s

theorem Levelled.seqStopAgain (s : State) (n : NodeId) : Levelled s (s.seqStopAgain n) := .ite (.askMove s n _ _) (.refl s)

theorem Levelled.compressorNodeReady (s : State) (n : NodeId) (q : NodeState) (c : Option StartCause) :
    Levelled s (s.compressorNodeReady n q c) :=
  .ite (.ite (.leaveFault s n) (.refl s))
    (((Levelled.seqReport s n).trans (.watchReport _ n)).trans
      ((Levelled.ite (.seqStopAgain _ n) (.refl _)).trans (.seqDecide _)))

theorem Levelled.seqSteadyCheck (s : State) (n : NodeId) (b : Bool) (v : Nat) : Levelled s (s.seqSteadyCheck n b v) := by
  unfold State.seqSteadyCheck
  split
  · exact .ite (.unexpectedValue s n) (.refl s)
  · exact .refl s

theorem Levelled.heaterStopReport (s : State) (n : NodeId) (o : Origin) : Levelled s (s.heaterStopReport n o) := by
  have stopped : Levelled s (s.enterHeater .off).heaterStart :=
    (Levelled.enterHeater s _).trans (.heaterStart _)
  exact .ite (.ite (stopped.trans (.restReport _)) (.ite (.askMove s n _ _) (.refl s))) (.refl s)

theorem Levelled.ignitionReport (s : State) (n : NodeId) : Levelled s (s.ignitionReport n) :=
  .ite (.enterHeater s _)
    (.ite
      (.ite (.ite ((Levelled.enterHeater s _).trans (.heaterStopReport _ n _)) (.heaterLit s))
        (.ite (.enterHeater s _) (.heaterFailure s)))
      (.refl s))

theorem Levelled.heaterReport (s : State) (n : NodeId) : Levelled s (s.heaterReport n) := by
  unfold State.heaterReport
  split
  case h_1 => exact .ignitionReport s n
  case h_2 => exact .heaterStopReport s n _
  all_goals exact .refl s

theorem Levelled.auxNodeReady (s : State) (n : NodeId) (q : NodeState) (c : Option StartCause) :
    Levelled s (s.auxNodeReady n q c) := by
  unfold State.auxNodeReady
  split
  · exact (Levelled.ignitionReport s n).trans (.heaterStart _)
  · exact .heaterStopReport s n _
  · exact .ite (.flameOut s) (.refl s)
  · exact .ite ((Levelled.askMove s n 0 .plant).trans (.enterHeater _ _)) (.heaterStart s)
  all_goals exact .ite (.askMove s n _ _) (.refl s)

theorem Levelled.plantNodeReady (s : State) (n : NodeId) (role : PlantRole) (q : NodeState) (c : Option StartCause) :
    Levelled s (s.plantNodeReady n role q c) := by
  cases role with
  | compressor => exact .compressorNodeReady s n q c
  | auxHeater => exact .auxNodeReady s n q c
  | intake => exact (NodeSide.intakeNodeReady s n).levelled

theorem Levelled.readyNotice (s : State) (n : NodeId) (q : NodeState) (c : Option StartCause) :
    Levelled s (s.readyNotice n q c) := by
  unfold State.readyNotice
  split
  · exact .refl s
  · exact .ite (.refl s) (.ite (.evaluate s _) (.ite (NodeSide.zoneTargets s _).levelled (.refl s)))
  · exact .plantNodeReady s n _ q c

theorem Levelled.plantMoved (s : State) (n : NodeId) (role : PlantRole) (t : Txn) (res : MoveResult) :
    Levelled s (s.plantMoved n role t res) := by
  cases role with
  | compressor =>
    have watched (b : Bool) : Levelled s (if b then s.setSequencer { s.plant.seq with watch := true } else s) :=
      .ite (.setSequencer s _) (.refl s)
    exact ((watched _).trans (.seqReport _ n)).trans (.ite (.watchReport _ n) (.refl _))
  | auxHeater => exact .ite (.enterHeater s _) (.ite (.enterHeater s _) (.heaterReport s n))
  | intake => exact .refl s

theorem Levelled.plantStatus (s : State) (n : NodeId) (role : PlantRole) (t : Txn) (b : Bool) (v : Nat) :
    Levelled s (s.plantStatus n role t b v) := by
  cases role with
  | compressor =>
    exact (Levelled.ite (.seqSteadyCheck s n b v) (.refl s)).trans
      (.ite ((Levelled.seqReport _ n).trans (.seqStopAgain _ n)) (.refl _))
  | auxHeater =>
    exact (Levelled.ite (.ite (.flameOut s) (.refl s)) (.refl s)).trans (.ite (.heaterStopReport _ n _) (.refl _))
  | intake => exact .refl s

/-! ## Commissioning a node, and the reports of an outcome (R16, R134, R160) -/

theorem Levelled.initialMove (s : State) (n : NodeId) : Levelled s (s.initialMove n) := (NodeSide.initialMove s n).levelled

theorem Levelled.opNodeCheck (s : State) (n : NodeId) : Levelled s (s.opNodeCheck n) := by
  refine .ite ?_ (.refl s)
  split
  · exact .on (.startUp _ n _) rfl
  · exact .ite (.markDone s n) (.initialMove s n)
  all_goals exact .refl s

theorem Levelled.opMoved (s : State) (n : NodeId) (res : MoveResult) : Levelled s (s.opMoved n res) :=
  .ite (.ite (.ite (.initialMove s n) (.refl s)) (.same rfl)) (.refl s)

theorem Levelled.reportFailure (s : State) (t : Txn) : Levelled s (s.reportFailure t) := by
  refine .ite (.foldl (fun u o => ?_) _ s) (.refl s)
  split
  · exact .readFailed u _
  · exact .refl u

theorem Levelled.reportReading (s : State) (t : Txn) (temp : Int) (c : Nat) : Levelled s (s.reportReading t temp c) := by
  refine .foldl (fun u o => ?_) _ s
  split
  · exact .readGood u _ _ _
  · exact .refl u

theorem Levelled.reportMove (s : State) (t : Txn) (n : NodeId) (res : MoveResult) : Levelled s (s.reportMove t n res) := by
  unfold State.reportMove
  split
  · exact (Levelled.plantMoved s n _ t res).trans (.ite (.opMoved _ n res) (.refl _))
  all_goals exact .ite (.opMoved s n res) (.refl s)

theorem Levelled.reportStatus (s : State) (t : Txn) (n : NodeId) (b : Bool) (v : Nat) :
    Levelled s (s.reportStatus t n b v) := by
  unfold State.reportStatus
  split
  · exact .plantStatus s n _ t b v
  all_goals exact .refl s

/-- The reports of a transaction that has ended: the READ as a failure, then the MOVE. -/
theorem Levelled.reported (s : State) (t : Txn) (n : NodeId) (res : MoveResult) :
    Levelled s (if t.cmd = .move then (s.reportFailure t).reportMove t n res else s.reportFailure t) :=
  .ite ((Levelled.reportFailure s t).trans (.reportMove _ t n res)) (.reportFailure s t)

/-! ## A failed transaction (R144, R147, R148) -/

theorem Levelled.failedActive (s : State) (t : Txn) (n : NodeId) : Levelled s (s.failedActive t n) := by
  have told (u : State) (b : Bool) : Levelled u
      (let v := (if b then u.offlineRecord n else u).reportFailure t
       let w := if t.cmd = .move then v.reportMove t n .failed else v
       if b then w.offlineNotices n else w) :=
    ((Levelled.ite (c := b = true) (t := u.offlineRecord n) (.same rfl) (.refl u)).trans (.reported _ t n .failed)).trans
      (.ite (.offlineNotices _ n) (.refl _))
  exact .on (told (s.modNode n fun r => { r with failCount := r.failCount + 1 }) _) rfl

theorem Levelled.outcomeFailed (s : State) (t : Txn) (n : NodeId) : Levelled s (s.outcomeFailed t n) := by
  unfold State.outcomeFailed
  split
  · exact .refl s
  · exact .failedActive s t n
  · exact .failedActive s t n
  · exact .ite (.startFailed s n _) (.ite (.startFailed s n _) (.refl s))
  · exact .refl s
  · exact .ite (.same rfl) (.refl s)

/-! ## Replies (R130 to R134, R142, R145, R147 to R149) -/

theorem Levelled.replyFault (s : State) (t : Txn) (n : NodeId) (why : FaultReason) : Levelled s (s.replyFault t n why) :=
  ((Levelled.faultRecord s n why).trans (.reportFailure _ t)).trans (.faultNotices _ n)

theorem Levelled.replyRestart (s : State) (t : Txn) (n : NodeId) : Levelled s (s.replyRestart t n) :=
  .on ((Levelled.reported (s.startingRecord n .restart 0 .wake) t n .restarted).trans (NodeSide.askStart _ n).levelled) rfl

theorem Levelled.endBusy (s : State) (n : NodeId) : Levelled s (s.endBusy n) := by
  unfold State.endBusy
  dsimp only
  split
  · exact .same rfl
  · exact .ite (.same rfl) (.on (NodeSide.request _ _).levelled rfl)

theorem Levelled.statusReply (s : State) (t : Txn) (n : NodeId) (b : Bool) (v g : Nat) :
    Levelled s (s.statusReply t n b v g) := by
  have busy (u : State) (p : Prop) [Decidable p] : Levelled u (if p then u.enterBusy n false else u) :=
    .ite (.enterBusy u n _) (.refl u)
  refine .on (t := s.modNode n fun r => r.withStatus v g) ?_ rfl
  exact .ite ((busy _ _).trans (.reportStatus _ t n b v))
    (.ite (((Levelled.endBusy _ n).trans (.reportStatus _ t n b v)).trans (.ite (.readyNotice _ n _ _) (.refl _)))
      (.reportStatus _ t n b v))

theorem Levelled.readReply (s : State) (t : Txn) (n : NodeId) (b : Bool) (temp : Int) (c : Nat) :
    Levelled s (s.readReply t n b temp c) :=
  .on (t := s.modNode n fun r => { r with value := some (.reading temp c) })
    ((Levelled.ite (.enterBusy _ n _) (.refl _)).trans (.reportReading _ t temp c)) rfl

theorem Levelled.moveReply (s : State) (t : Txn) (n : NodeId) (b q : Bool) (x : Byte) :
    Levelled s (s.moveReply t n b q x) := by
  have moving (u : State) (res : MoveResult) : Levelled u ((u.enterBusy n false).reportMove t n res) :=
    (Levelled.enterBusy u n false).trans (.reportMove _ t n res)
  refine .ite ?_ (.replyFault s t n _)
  split
  · exact .on (moving _ _) rfl
  · exact .on (.reportMove _ t n _) rfl
  · exact .on (moving _ _) rfl
  · exact .ite (.reportMove s t n _) (.replyFault s t n _)

theorem Levelled.moveReplyStarting (s : State) (t : Txn) (n : NodeId) (b q : Bool) (x : Byte) :
    Levelled s (s.moveReplyStarting t n b q x) := by
  refine .ite ?_ (.replyFault s t n _)
  split
  · exact .same rfl
  · exact .same rfl
  · exact .refl s
  · exact .ite (.refl s) (.replyFault s t n _)

theorem Levelled.replyActive (s : State) (t : Txn) (n : NodeId) (st : Byte) (data : List Byte) :
    Levelled s (s.replyActive t n st data) := by
  refine .ite (.replyRestart s t n) (.ite (.replyFault s t n _) (.ite (.replyFault s t n _) ?_))
  split
  · exact .ite (.statusReply s t n _ _ _) (.replyFault s t n _)
  · exact .readReply s t n _ _ _
  · exact .moveReply s t n _ _ _
  · exact .refl s

theorem Levelled.restore (s : State) (n : NodeId) : Levelled s (s.restore n) := by
  unfold State.restore
  split
  · exact .refl s
  · exact .ite (.refl s) (NodeSide.request s _).levelled

theorem Levelled.startEnds (s : State) (n : NodeId) (v : Byte) : Levelled s (s.startEnds n v) :=
  .on (t := s.modNode n fun r => { r with state := .ready, version := some v, wakeTimer := none })
    ((Levelled.ite (.restore _ n) (.refl _)).trans (.readyNotice _ n _ _)) rfl

theorem Levelled.replyStarting (s : State) (t : Txn) (n : NodeId) (st : Byte) (data : List Byte) :
    Levelled s (s.replyStarting t n st data) := by
  refine .ite (.ite (.startFailed s n _) (.ite (.startFailed s n _) (.refl s)))
    (.ite (.replyFault s t n _) (.ite (.replyFault s t n _) ?_))
  split
  · exact .ite (.on (NodeSide.askStart _ n).levelled rfl) (.refl s)
  · exact .ite (.startEnds s n _) (.replyFault s t n _)
  · exact .ite (.same rfl) (.replyFault s t n _)
  · exact .same rfl
  · exact .moveReplyStarting s t n _ _ _
  · exact .refl s

theorem Levelled.replyOffline (s : State) (t : Txn) (n : NodeId) (st : Byte) : Levelled s (s.replyOffline t n st) :=
  .ite (.replyFault s t n _) (.ite (.replyFault s t n _) (.ite (.revive s n _) (.refl s)))

theorem Levelled.retrySucceeds (s : State) (n : NodeId) (v : Byte) : Levelled s (s.retrySucceeds n v) :=
  .ite (.on (.enterBusy _ n _) rfl) (.on (.readyNotice _ n _ _) rfl)

theorem Levelled.replyRetry (s : State) (t : Txn) (n : NodeId) (st : Byte) (data : List Byte) :
    Levelled s (s.replyRetry t n st data) := by
  refine .ite (.startUp s n _) (.ite (.startUp s n _) (.ite (.same rfl) (.ite (.same rfl) ?_)))
  split
  · exact .ite (.on (NodeSide.askOwn _ n _ _).levelled rfl) (.same rfl)
  · exact .ite (.retrySucceeds s n _) (.same rfl)
  · exact .refl s

theorem Levelled.outcomeOk (s : State) (t : Txn) (n : NodeId) (st : Byte) (data : List Byte) :
    Levelled s (s.outcomeOk t n st data) := by
  unfold State.outcomeOk
  split
  · exact .refl s
  · exact .on (.replyActive _ t n st data) rfl
  · exact .on (.replyActive _ t n st data) rfl
  · exact .on (.replyStarting _ t n st data) rfl
  · exact .on (.replyOffline _ t n st) rfl
  · exact .ite (.on (.replyRetry _ t n st data) rfl) (.same rfl)

theorem Levelled.takeOutcome (s : State) (t : Txn) (n : NodeId) (res : TxnResult) : Levelled s (s.takeOutcome t n res) := by
  cases res with
  | ok st data => exact ((Levelled.outcomeOk s t n st data).trans (.opNodeCheck _ n)).trans (.opFollow _)
  | failed a b => exact ((Levelled.outcomeFailed s t n).trans (.opNodeCheck _ n)).trans (.opFollow _)

/-! ## Entry to COMMISSIONING and to STOPPING (R157, R159, R163) -/

theorem Levelled.beginWork (s : State) (n : NodeId) : Levelled s (s.beginWork n) := by
  have started : Levelled s ((s.setWork n .startUp).startUp n .commission) := .on (.startUp _ n _) rfl
  refine .ite ?_ (.refl s)
  split
  · exact started
  · exact started
  · exact started
  · exact .same rfl
  · exact .same rfl
  · exact .markDone s n

theorem Levelled.seqCommissioning (s : State) (w : Bool) : Levelled s (s.seqCommissioning w) :=
  (Levelled.ite (.enterSeq s _) (.refl s)).trans (.setSequencer _ _)

theorem Levelled.intakeCommissioning (s : State) : Levelled s s.intakeCommissioning := .same rfl

theorem Levelled.enterCommissioning (s : State) : Levelled s s.enterCommissioning := by
  have entered : Levelled s
      ((s.setOp { s.op with configChanged := false, lastRefusal := none, haltSent := false }).clearMarks.enterPart
        .commissioning) := .on (.enterPart _ _) rfl
  have bound := entered.trans (.eachNode (f := State.bind) (fun _ _ => .same rfl) _)
  have planned := (bound.trans (.seqCommissioning _ s.compressorBound)).trans (.intakeCommissioning _)
  exact (planned.trans (NodeSide.askBroadcast _ _ _).levelled).trans (.eachNode Levelled.beginWork _)

theorem Levelled.quietZones (s : State) : Levelled s s.quietZones :=
  .eachZone (f := fun u z => u.modZone z ZoneRec.quieted) (fun _ _ => .same rfl) s

theorem Levelled.quietNodes (s : State) : Levelled s s.quietNodes :=
  .on (t := (s.setQueue []).setLine { s.line with txn := s.line.txn.map Txn.cutOff })
    (.eachNode (f := State.quietNode) (fun _ _ => .same rfl) _) rfl

theorem Levelled.quietSequencer (s : State) : Levelled s s.quietSequencer :=
  (Levelled.ite (.enterSeq s _) (.refl s)).trans (.setSequencer _ _)

theorem Levelled.quietHeater (s : State) : Levelled s s.quietHeater := by
  unfold State.quietHeater
  split
  case h_1 | h_2 => exact .enterHeater s _
  all_goals exact .refl s

theorem Levelled.quietPlant (s : State) : Levelled s s.quietPlant :=
  ((Levelled.quietSequencer s).trans (.quietHeater _)).trans
    (.on ((Levelled.refreshCool _).trans (.refreshHeat _)) rfl)

theorem Levelled.enterStopping (s : State) : Levelled s s.enterStopping := by
  have dropped : Levelled s ((s.clearMarks.enterPart .stopping).setArb (s.clearMarks.enterPart .stopping).arb.dropAll) :=
    .on (Levelled.enterPart s.clearMarks _) rfl
  have quiet := ((dropped.trans (.quietZones _)).trans (.quietNodes _)).trans (.quietPlant _)
  exact (quiet.trans (NodeSide.askBroadcast _ _ _).levelled).trans (.restReport _)

end Sys2Proof.Machine
end

section
/-! SUPPORT for O57, continued: the field line and the timers. -/
namespace Sys2Proof.Machine

/-! ## The field line (chapter 6) -/

theorem Levelled.phaseEnd (s : State) (p : LinePhase) {f : State → State} (h : ∀ u, Levelled u (f u)) :
    Levelled s (s.phaseEnd p f) := by
  unfold State.phaseEnd
  split
  · exact .refl s
  · exact .ite (.on (h _) rfl) (.refl s)

theorem Levelled.freeLine (s : State) : Levelled s s.freeLine := (NodeSide.freeLine s).levelled

theorem Levelled.enterPhase (s : State) (p : LinePhase) (w : Nat) : Levelled s (s.enterPhase p w) := .same rfl

theorem Levelled.deliver (s : State) (t : Txn) (res : TxnResult) : Levelled s (s.deliver t res) := by
  unfold State.deliver
  dsimp only
  split
  · exact .on (.freeLine _) rfl
  · exact .on (t := s.setLine { s.line with timer := none }) ((Levelled.takeOutcome _ t _ res).trans (.freeLine _)) rfl

theorem Levelled.attemptFailed (s : State) (k : FailKind) : Levelled s (s.attemptFailed k) := by
  unfold State.attemptFailed
  split
  · exact .freeLine s
  · exact .ite (.same rfl) (.deliver s _ _)

theorem Levelled.beginFrame (s : State) : Levelled s s.beginFrame := by
  unfold State.beginFrame
  split
  · exact .refl s
  · exact .enterPhase s _ _

theorem Levelled.endTrail (s : State) : Levelled s s.endTrail := by
  unfold State.endTrail
  split
  · exact .refl s
  · split
    · exact .enterPhase s _ _
    · exact .enterPhase s _ _

theorem Levelled.reportSent (s : State) (t : Txn) : Levelled s (s.reportSent t) := by
  have marked (u : State) : Levelled u (u.setOp { u.op with haltSent := true }).testCommissioned :=
    .on (.testCommissioned _) rfl
  exact .ite (.afterReset s _)
    (.on (t := s.setLine { s.line with timer := none }) ((Levelled.ite (marked _) (.refl _)).trans (.freeLine _)) rfl)

theorem Levelled.broadcastEnds (s : State) : Levelled s (match s.line.txn with
    | none => s.freeLine
    | some t => s.reportSent t) := by
  split
  · exact .freeLine s
  · exact .reportSent s _

theorem Levelled.receiveChar (s : State) (d : Byte) (m p q : Bool) : Levelled s (s.receiveChar d m p q) := by
  have taken (u : State) (start : Time) (c : Command) : Levelled u (u.takeChar start c d) :=
    .ite (.same rfl) (.ite (.same rfl) (.same rfl))
  unfold State.receiveChar
  dsimp only
  split
  · exact .ite (.on (taken _ _ _) rfl) (.same rfl)
  · exact .ite (taken s _ _) (.same rfl)
  · exact .same rfl
  · exact .same rfl
  · exact .refl s

theorem Levelled.charArrives (s : State) : Levelled s s.charArrives := by
  unfold State.charArrives
  split <;> exact .same rfl

theorem Levelled.replyComplete (s : State) : Levelled s s.replyComplete := by
  unfold State.replyComplete
  split
  · exact .ite (.attemptFailed s _) (.deliver s _ _)
  · exact .refl s

theorem Levelled.drainEnd (s : State) : Levelled s s.drainEnd := by
  have drained (u : State) : Levelled u u.drained := .ite (.enterPhase u _ _) (.attemptFailed u _)
  unfold State.drainEnd
  split
  · exact .refl s
  · exact .ite (.on (drained _) rfl) (.refl s)

theorem Levelled.gapEnded (s : State) : Levelled s s.gapEnded :=
  .ite (.on (t := s.setLine Line.reset)
      (.ite (.on (NodeSide.startTxn _ _).levelled rfl) (NodeSide.handOver _).levelled) rfl)
    (.enterPhase s _ _)

/-! ## The timers -/

theorem Levelled.expire (s : State) (t : Timer) {f : State → State} (h : ∀ u, Levelled u (f u)) :
    Levelled s (s.expire t f) := by
  unfold State.expire
  split
  · exact .refl s
  · exact .on (h _) rfl

theorem Levelled.minRunExpiry (s : State) : Levelled s s.minRunExpiry :=
  .on (t := s.setSequencer { s.plant.seq with minRunTimer := none, minRunExpired := true })
    (.ite (.shedStage _ 1) (.refl _)) rfl

theorem Levelled.holdDone (s : State) : Levelled s s.holdDone := by
  unfold State.holdDone
  dsimp only
  split
  · exact .on (t := s.setSequencer { s.plant.seq with holdTimer := none }) (.ite (.shedStage _ _) (.setSequencer _ _)) rfl
  · exact .setSequencer s _

theorem Levelled.steadyStatus (s : State) (n : Option NodeId) : Levelled s (s.steadyStatus n) :=
  (NodeSide.steadyStatus s n).levelled

theorem Levelled.wakeExpiry (s : State) (n : NodeId) : Levelled s (s.wakeExpiry n) :=
  .on (t := s.modNode n fun r => { r with wakeTimer := some (s.now + Config.wakePeriod) })
    (.ite (.refl _) (NodeSide.askStart _ n).levelled) rfl

theorem Levelled.nodePoll (s : State) (n : NodeId) : Levelled s (s.nodePoll n) :=
  .on (t := s.modNode n fun r => { r with pollTimer := some (s.now + s.nodes.tuning.pollInterval * Config.ms) })
    (((NodeSide.askStatus _ n .poll).levelled.trans (NodeSide.dueAtPoll _ n).levelled).trans (.opFollow _)) rfl

theorem Levelled.travelExpiry (s : State) (n : NodeId) : Levelled s (s.travelExpiry n) :=
  .ite ((Levelled.enterFault s n _).trans (.opFollow _)) (.refl s)

theorem Levelled.revivalExpiry (s : State) (n : NodeId) : Levelled s (s.revivalExpiry n) :=
  .on (t := s.modNode n fun r => { r with revivalTimer := some (s.now + Config.revivalPeriod) })
    (NodeSide.askOwn _ n _ _).levelled rfl

theorem Levelled.pollTickExpiry (s : State) : Levelled s s.pollTickExpiry :=
  .on (t := { s with nodes := { s.nodes with pollTick := some (s.now + s.nodes.tuning.pollInterval * Config.ms) } })
    ((Levelled.eachNode (fun u n => (NodeSide.tickNode u n).levelled) _).trans (.opFollow _)) rfl

end Sys2Proof.Machine
end

section
/-! SUPPORT for O57, continued: what the owners do with a request, and the port. -/
namespace Sys2Proof.Machine

/-! ## The owners (chapters 1 to 8) -/

/-- What an owner gives back follows its causes where the state that it took did. -/
def Taken.levelled (s : State) (x : Taken) : Prop := Levelled s x.1

theorem Taken.levelled.same {s t : State} (a : Answer) (h : t.levels = s.levels) : Taken.levelled s (t, a) :=
  Levelled.same h

theorem Taken.levelled.accepted {s t : State} (h : Levelled s t) : Taken.levelled s (accept t) := h

theorem Taken.levelled.ite {s : State} {c : Prop} [Decidable c] {x y : Taken} (a : Taken.levelled s x)
    (b : Taken.levelled s y) :
    Taken.levelled s (if c then x else y) := by
  split
  · exact a
  · exact b

theorem Taken.levelled.field {α : Type} {s : State} (v : Option α) {f : α → Taken} (h : ∀ a, Taken.levelled s (f a)) :
    Taken.levelled s (withField s v f) := by
  unfold withField
  split
  · exact .same _ rfl
  · exact h _

theorem Taken.levelled.zone {s : State} (zone : Byte) {f : Zone → Taken} (h : ∀ z, Taken.levelled s (f z)) :
    Taken.levelled s (s.withZone zone f) := .field _ fun z => .ite (h z) (.same _ rfl)

theorem Taken.levelled.source {s : State} (zone source : Byte) {f : Source → Taken} (h : ∀ q, Taken.levelled s (f q)) :
    Taken.levelled s (s.withSource zone source f) := .field _ fun q => .ite (.same _ rfl) (h q)

theorem Levelled.unbindZone (s : State) (z : Zone) : Levelled s (s.unbindZone z) := by
  refine .eachNode (fun u n => ?_) s
  split
  · exact .ite (.same rfl) (.refl u)
  · exact .refl u
  · exact .refl u

theorem Levelled.configured {s t : State} (h : Levelled s t) : Levelled s t.configChange := h

theorem Taken.levelled.takeZoneDef (s : State) (act : Byte) (a : ZoneDefArgs) : Taken.levelled s (s.takeZoneDef act a) := by
  have unbound (z : Zone) (r : ZoneRec) : Levelled s ((s.setZone z r).unbindZone z) :=
    .on (t := s.setZone z r) (.unbindZone _ z) rfl
  have written (z : Zone) (r : ZoneRec) : Taken.levelled s (accept ((s.setZone z r).unbindZone z).configChange) :=
    .accepted (unbound z r).configured
  exact .field _ fun _ => .field _ fun _ => .ite
    (.field _ fun z => .field _ fun _ => .field _ fun _ => .field _ fun _ => .field _ fun _ => .field _ fun _ =>
      .field _ fun _ => .field _ fun _ => .field _ fun _ => .field _ fun _ => .field _ fun _ => written z _)
    (.field _ fun z => written z _)

theorem Taken.levelled.takeNodeDef (s : State) (a c k : Byte) : Taken.levelled s (s.takeNodeDef a c k) :=
  .field _ fun _ => .field _ fun _ => .ite (.field _ fun _ => .same _ rfl) (.same _ rfl)

theorem Taken.levelled.takeDoorDef (s : State) (d : Byte) (zs : BitVec 24) : Taken.levelled s (s.takeDoorDef d zs) :=
  .field _ fun _ => .same _ rfl

theorem Taken.levelled.takePlantDef (s : State) (a : PlantDefArgs) : Taken.levelled s (s.takePlantDef a) :=
  .field _ fun d => .accepted (Levelled.on (t := s.setPlant { s.plant with defn := d }) (.refreshHeat _) rfl)

theorem Taken.levelled.takeTuneDef (s : State) (a : TuneDefArgs) : Taken.levelled s (s.takeTuneDef a) :=
  .field _ fun t => .accepted (t := (s.tune t).configChange) (.same rfl)

theorem Taken.levelled.takeCommission (s : State) : Taken.levelled s s.takeCommission := by
  unfold State.takeCommission
  split
  · exact .same _ rfl
  · exact .accepted (.enterCommissioning s)

theorem Taken.levelled.takeSetpoint (s : State) (zone : Byte) (q : Source) (v : Word) :
    Taken.levelled s (s.takeSetpoint zone q v) :=
  .zone _ fun z => .field _ fun _ => .ite (.accepted (.changeSetpoint s z _)) (.same _ rfl)

theorem Taken.levelled.takePlan (s : State) (zone : Byte) (q : Source) (m : Byte) (v : Word) :
    Taken.levelled s (s.takePlan zone q m v) :=
  .zone _ fun z => .field _ fun _ => .field _ fun _ => .ite (.accepted (.changePlan s z _ _)) (.same _ rfl)

theorem Levelled.eachDoorZone {f : State → Zone → State} (h : ∀ u z, Levelled u (f u z)) (s : State) (d : Door) :
    Levelled s (s.eachDoorZone d f) := .eachZone (fun u z => .ite (h u z) (.refl u)) s

theorem Taken.levelled.takeDoor (s : State) (d a : Byte) : Taken.levelled s (s.takeDoor d a) :=
  .field _ fun d => .ite (.accepted (.eachDoorZone (fun u z => .doorOpened u d z) s d))
    (.ite (.accepted (.eachDoorZone (fun u z => .doorClosed u d z) s d)) (.same _ rfl))

theorem Taken.levelled.takeDefog (s : State) (zone d : Byte) : Taken.levelled s (s.takeDefog zone d) :=
  .zone _ fun z => .field _ fun _ => .accepted (.ite (.endOverride s z _) (.defogFor s z _))

theorem Taken.levelled.takePurge (s : State) (zone a : Byte) : Taken.levelled s (s.takePurge zone a) :=
  .zone _ fun z => .ite (.accepted (.startOverride s z _ _)) (.ite (.accepted (.endOverride s z _)) (.same _ rfl))

theorem Taken.levelled.takeEngine (s : State) (b k : Byte) : Taken.levelled s (s.takeEngine b k) :=
  .field _ fun b => .field _ fun _ => .accepted
    (Levelled.on (t := s.setPlant { s.plant with band := b }) ((Levelled.allowedChanged _ _).trans (.setCoolant _ _)) rfl)

theorem Taken.levelled.takeAux (s : State) (a : Byte) : Taken.levelled s (s.takeAux a) :=
  .ite (.accepted (Levelled.on (t := s.setHeater { s.plant.heater with permit := true }) (.heaterStart _) rfl))
    (.ite (.accepted (Levelled.on (t := s.setHeater { s.plant.heater with permit := false }) (.heaterStop _) rfl))
      (.same _ rfl))

theorem Taken.levelled.takeAuxClear (s : State) : Taken.levelled s s.takeAuxClear :=
  .ite (.accepted
    (Levelled.on (t := s.setHeater { s.plant.heater with failures := 0 })
      ((Levelled.enterHeater _ .off).trans (.heaterStart _)) rfl))
    (.same _ rfl)

theorem Taken.levelled.takeNodeRetry (s : State) (n a : Byte) : Taken.levelled s (s.takeNodeRetry n a) :=
  .field _ fun n => .field _ fun a => .ite (.accepted (NodeSide.retryNode s n a).levelled) (.same _ rfl)

theorem Taken.levelled.takeCondClear (s : State) (set : Word) : Taken.levelled s (s.takeCondClear set) :=
  .field _ fun named => Levelled.on (t := s.setCond (s.cond.clearNamed named))
    (.eachZone (f := fun u z => u.modZone z fun r => { r with flags := r.flags.clearNamed named (u.actuatorsSound z) })
      (fun _ _ => .same rfl) _) (State.levels_setCond (CondBlock.clearNamed_spec _ _).1)

theorem Taken.levelled.takeCondMask (s : State) (set : Word) (e : Byte) : Taken.levelled s (s.takeCondMask set e) :=
  .field _ fun _ => .field _ fun _ => .same _ rfl

/-! ## The port's own requests (R174 to R178) -/

theorem Taken.levelled.takeRangeOpen (s : State) (f : Byte) : Taken.levelled s (s.takeRangeOpen f) :=
  .field _ fun _ => .same _ rfl

theorem Taken.levelled.takeRangeClose (s : State) (found : RangeTag) (k : Byte) :
    Taken.levelled s (s.takeRangeClose found k) := by
  cases found with
  | none => exact .same _ rfl
  | opened f => exact .field _ fun _ => .same _ rfl
  | closed f k' => exact .field _ fun _ => .same _ rfl

theorem Levelled.walkTag (s : State) (zs : List Zone) (p : State → Zone → Bool) {f : State → Zone → State}
    (h : ∀ u z, Levelled u (f u z)) : Levelled s (s.walkTag zs p f).1 := by
  have walked (k : Nat) : Levelled s (zs.foldl (fun r z => if p r.1 z then (f r.1 z, r.2 + 1) else r) (s, k)).1 := by
    induction zs generalizing s k with
    | nil => exact .refl s
    | cons z zs ih =>
      rw [List.foldl_cons]
      split
      · exact (h s z).trans (ih _ _)
      · exact ih s k
  exact walked 0

theorem Taken.levelled.writeProtection (s : State) (p : Protection) (a b : Nat) :
    Taken.levelled s (s.writeProtection p a b) := .ite (.same _ rfl) (.same _ rfl)

theorem Taken.levelled.applyUnprotect (s : State) (q : Source) (a b : Nat) : Taken.levelled s (s.applyUnprotect q a b) := by
  refine .ite (.same _ rfl) ?_
  split
  · exact .same _ rfl
  · exact .writeProtection s _ _ _

theorem Taken.levelled.takeRangeApply (s : State) (found : RangeTag) (q x : Byte) (v : Word) :
    Taken.levelled s (s.takeRangeApply found q x v) := by
  cases found with
  | none => exact .same _ rfl
  | opened f => exact .same _ rfl
  | closed a b =>
    refine .field _ fun q => .field _ fun x => ?_
    cases x with
    | planMode m => exact Levelled.walkTag s _ _ fun u z => .changePlan u z m _
    | planSetpoint v => exact Levelled.walkTag s _ _ fun u z => .changeSetpoint u z (u.setpointChange q v)
    | protect k => exact .ite (.same _ rfl) (.writeProtection s _ _ _)
    | unprotect => exact .applyUnprotect s q a b

/-! ## A frame is taken (R168 to R172) -/

theorem Taken.levelled.ownerTakes (s : State) (k : Kind) (found : RangeTag) (p : List Byte) :
    Taken.levelled s (s.ownerTakes k found p) := by
  cases k
  all_goals (unfold State.ownerTakes; dsimp only)
  case commission => exact .takeCommission s
  case shutdown => exact .accepted (.enterStopping s)
  case restart => exact .same _ rfl
  case auxClear => exact .takeAuxClear s
  case protectLock => exact .ite (.same _ rfl) (.same _ rfl)
  case stateQuery | plantQuery | condQuery => exact .same _ rfl
  -- a payload of another length than its kind's is refused; the rest in the order of the kinds
  all_goals (split; case h_2 => exact .same _ rfl)
  · exact .takeZoneDef s _ _
  · exact .takeNodeDef s _ _ _
  · exact .takeDoorDef s _ _
  · exact .takePlantDef s _
  · exact .takeTuneDef s _
  · exact .source _ _ fun q => .takePlan s _ q _ _
  · exact .source _ _ fun q => .takeSetpoint s _ q _
  · exact .takeRangeOpen s _
  · exact .takeRangeClose s _ _
  · exact .takeRangeApply s _ _ _ _
  · exact .takeDoor s _ _
  · exact .takeEngine s _ _
  · exact .source _ _ fun _ => .takeDefog s _ _
  · exact .source _ _ fun _ => .takePurge s _ _
  · exact .takeAux s _
  · exact .takeNodeRetry s _ _
  · exact .field _ fun _ => .same _ rfl
  · exact .field _ fun _ => .field _ fun _ => .field _ fun _ => .same _ rfl
  · exact .field _ fun _ => .same _ rfl
  · exact .takeCondClear s _
  · exact .takeCondMask s _ _

theorem Taken.levelled.takeRequest (s : State) (k : Kind) (p : List Byte) : Taken.levelled s (s.takeRequest k p) :=
  .ite
    (.ite (.same _ rfl)
      (.ite (Levelled.on (t := s.setTag (k.tagEffect.after s.port.tag)) (Taken.levelled.ownerTakes _ k _ p) rfl)
        (.same _ rfl)))
    (.same _ rfl)

theorem Levelled.takeFrame (s : State) (f : RxFrame) : Levelled s (s.takeFrame f) := by
  cases f with
  | badLen => exact .same rfl
  | whole k t p c =>
    refine .ite ?_ (.same rfl)
    unfold State.takeGood
    split
    · exact .same rfl
    · exact Levelled.trans (Taken.levelled.takeRequest s _ p) (.same rfl)

theorem Levelled.offer (s : State) (f : RxFrame) : Levelled s (s.offer f) :=
  .ite (.same rfl) (.ite (.same rfl) (.takeFrame s f))

theorem Levelled.orderCut (s : State) : Levelled s s.orderCut := by
  unfold State.orderCut
  dsimp only
  split <;> exact .same rfl

theorem Levelled.takeSlot (s : State) : Levelled s s.takeSlot := by
  unfold State.takeSlot
  split
  · exact .refl s
  · exact .on (.takeFrame _ _) rfl

theorem Levelled.replyEnds (s : State) : Levelled s s.replyEnds := by
  unfold State.replyEnds
  split
  · exact .refl s
  · exact .on (t := s.setPort { s.port with sending := none }) (.ite (.orderCut _) (.takeSlot _)) rfl

theorem Levelled.takeByte (s : State) (b : Byte) : Levelled s (s.takeByte b) := by
  have heard (f : RxFrame) : Levelled s ((s.setRx .hunt).offer f) := .on (.offer _ f) rfl
  unfold State.takeByte
  split
  · exact .ite (.same rfl) (.refl s)
  · exact .ite (.same rfl) (heard _)
  · exact .ite (.same rfl) (heard _)

theorem Levelled.frameGap (s : State) : Levelled s (match s.port.rxTimer with
    | none => s
    | some t => (s.reach t).setRx .hunt) := by
  split
  · exact .refl s
  · exact .same rfl

theorem Levelled.shedEvent (s : State) (b : Bool) : Levelled s (s.shedEvent b) :=
  (Levelled.viewShed s b).trans (.allowedChanged _ _)

end Sys2Proof.Machine
end

section
/-! Every step keeps the level conditions equal to their causes (O57). -/
namespace Sys2Proof.Machine

/-- Where the outcome is a next state, its level conditions follow their causes if the state's did. -/
def NextLevelled (s : State) (o : Host.Outcome State Fault Refusal) : Prop := ∀ t, o = .next t → Levelled s t

theorem NextLevelled.next {s t : State} (h : Levelled s t) : NextLevelled s (.next t) := fun u e => by
  cases e
  exact h

theorem NextLevelled.answer (s : State) {f : State → State} (h : ∀ u, Levelled u (f u)) : NextLevelled s (s.answer f) :=
  .next (.ite (.refl s) (h s))

theorem NextLevelled.expiry (s : State) (timer : State → Timer) {f : State → State} (h : ∀ u, Levelled u (f u)) :
    NextLevelled s (s.answer fun s => s.expire (timer s) f) := .answer s fun u => .expire u _ h

theorem NextLevelled.phase (s : State) (p : LinePhase) {f : State → State} (h : ∀ u, Levelled u (f u)) :
    NextLevelled s (s.answer (·.phaseEnd p f)) := .answer s fun u => .phaseEnd u p h

theorem NextLevelled.request (s : State) (k : Kind) (tag : Byte) (p : List Byte) :
    NextLevelled s (s.answer (·.hostRequest k tag p)) := .answer s fun u => .offer u _

theorem NextLevelled.zoneEvent (s : State) (k : Nat) {f : Zone → State → State} (h : ∀ z u, Levelled u (f z u)) :
    NextLevelled s (s.zoneEvent k f) := by
  unfold State.zoneEvent
  split
  · exact fun t e => by cases e
  · exact .answer s (h _)

theorem NextLevelled.nodeEvent (s : State) (k : Nat) {f : NodeId → State → State} (h : ∀ n u, Levelled u (f n u)) :
    NextLevelled s (s.nodeEvent k f) := by
  unfold State.nodeEvent
  split
  · exact fun t e => by cases e
  · exact .answer s (h _)

/-- A command keeps the level conditions equal to their causes. -/
theorem exec_levelled (c : Instr) (s : State) : NextLevelled s (exec c s) := by
  cases c
  case frameReceived bs => exact .answer s fun u => .foldl Levelled.takeByte bs u
  case frameGapTimeout => exact .answer s .frameGap
  case replySent => exact .answer s .replyEnds
  case rangeApplyProtect | rangeApplyUnprotect | protectLock => exact NextLevelled.request (s.setKey _) _ _ _
  case hardResetHold => exact .next (.same rfl)
  case hardReset k => exact .next (.afterReset s _)
  case shedNAsserted => exact NextLevelled.answer (s.setShedLine true) fun u => .shedEvent u _
  case shedNReleased => exact NextLevelled.answer (s.setShedLine false) fun u => .shedEvent u _
  case loopTimerExpiry => exact .zoneEvent s _ fun z u => .expire u _ fun v => .loopExpiry v z
  case holdTimerExpiry => exact .zoneEvent s _ fun z u => .expire u _ fun v => .changeSetpoint v z _
  case defogTimerExpiry => exact .zoneEvent s _ fun z u => .expire u _ fun v => .endOverride v z _
  case curtainTimerExpiry => exact .zoneEvent s _ fun z u => .expire u _ fun v => .curtainExpiry v z
  case claimSaturation => exact .zoneEvent s _ fun z u => .claimAges u z
  case minimumRunExpiry => exact .expiry s (·.plant.seq.minRunTimer) .minRunExpiry
  case stageDownHoldExpiry => exact .expiry s (·.plant.seq.holdTimer) .holdDone
  case lockoutExpiry =>
    exact .expiry s (·.plant.seq.lockoutTimer) fun u => Levelled.on (t := u.enterSeq .off) (.seqDecide _) rfl
  case compressorPollExpiry => exact .expiry s (·.plant.seq.pollTimer) fun u => Levelled.on (.steadyStatus _ _) rfl
  case igniteWaitExpiry =>
    exact .expiry s (·.plant.heater.igniteWaitTimer) fun u =>
      (Levelled.enterHeater u .off).trans (.heaterStart _)
  case stopDelayExpiry => exact .expiry s (·.plant.heater.stopDelayTimer) .heaterStop
  case flamePollExpiry => exact .expiry s (·.plant.heater.flamePollTimer) fun u => Levelled.on (.steadyStatus _ _) rfl
  case wakeTimerExpiry => exact .nodeEvent s _ fun n u => .expire u _ fun v => .wakeExpiry v n
  case nodePollTimerExpiry => exact .nodeEvent s _ fun n u => .expire u _ fun v => .nodePoll v n
  case travelTimerExpiry => exact .nodeEvent s _ fun n u => .expire u _ fun v => .travelExpiry v n
  case revivalTimerExpiry => exact .nodeEvent s _ fun n u => .expire u _ fun v => .revivalExpiry v n
  case pollTickExpiry => exact .expiry s (·.nodes.pollTick) .pollTickExpiry
  case leadEnd => exact .phase s _ .beginFrame
  case frameSent => exact .answer s fun u => .ite (.refl u) (.phaseEnd u _ fun v => .enterPhase v _ _)
  case trailEnd => exact .phase s _ .endTrail
  case replyWindowExpiry => exact .phase s _ fun u => .attemptFailed u _
  case replyCharacterReceived d m p q => exact .answer s fun u => (Levelled.charArrives u).trans (.receiveChar _ d m p q)
  case replyGapTimeout => exact .phase s _ fun u => .attemptFailed u _
  case closingQuietEnd => exact .phase s _ .replyComplete
  case drainEnd => exact .answer s .drainEnd
  case broadcastWaitEnd => exact .phase s _ .broadcastEnds
  case gapEnd => exact .phase s _ .gapEnded
  case cutCharacterEnd =>
    exact NextLevelled.answer s
      (f := fun u => if u.line.cut then u.phaseEnd .sending (·.enterPhase .gap Config.twoChars) else u)
      fun u => .ite (.phaseEnd u _ fun v => .enterPhase v _ _) (.refl u)
  all_goals exact .request s _ _ _

theorem step_levelled (s : State) : NextLevelled s (step s) := by
  unfold step
  split
  · exact .next (.same rfl)
  · exact fun t e => .on (t := s.withPending _) (exec_levelled _ _ t e) rfl

/-- Settles O57: a command moves a cause only together with its condition. -/
theorem everyStepKeepsTheLevels : Obligations.EveryStepKeepsTheLevels :=
  fun s t h e => step_levelled s t e h

end Sys2Proof.Machine
end

section
/-! SUPPORT for O26, O34, O36 and O44. The sequencer through the notices of an arbiter event: it may rise by a step and no
more, so that what A and COOL capacity are computed from stays (R69, R74, R77, R80, R81, R83). -/
namespace Sys2Proof.Machine

/-- R80, R81: the sequencer as notices can leave it: where it was, or in the step up from there, with the minimum run as it
was and with no hold newly marked met. -/
structure Rises (a b : Sequencer) : Prop where
  state : b.state = a.state ∨ (a.state = .off ∧ b.state = .engaging) ∨ ∃ k, a.state = .running k ∧ b.state = .stepUp k
  minRunTimer : b.minRunTimer = a.minRunTimer
  holdMet : b.holdMet = true → a.holdMet = true

theorem Rises.refl (a : Sequencer) : Rises a a := ⟨.inl rfl, rfl, id⟩

theorem Rises.trans {a b c : Sequencer} (x : Rises a b) (y : Rises b c) : Rises a c := by
  refine ⟨?_, y.minRunTimer.trans x.minRunTimer, fun h => x.holdMet (y.holdMet h)⟩
  rcases x.state with same | ⟨off, engaging⟩ | ⟨k, running, up⟩
  · rw [← same]
    exact y.state
  · rcases y.state with same | ⟨h, _⟩ | ⟨k, h, _⟩
    · exact .inr (.inl ⟨off, same.trans engaging⟩)
    · simp [engaging] at h
    · simp [engaging] at h
  · rcases y.state with same | ⟨h, _⟩ | ⟨j, h, _⟩
    · exact .inr (.inr ⟨k, running, same.trans up⟩)
    · simp [up] at h
    · simp [up] at h

theorem Rises.committed {a b : Sequencer} (h : Rises a b) : b.state.committed = a.state.committed := by
  rcases h.state with same | ⟨off, engaging⟩ | ⟨k, running, up⟩
  · rw [same]
  · rw [off, engaging]; rfl
  · rw [running, up]; rfl

theorem Rises.fault {a b : Sequencer} (h : Rises a b) : b.state = .fault ↔ a.state = .fault := by
  rcases h.state with same | ⟨off, engaging⟩ | ⟨k, running, up⟩
  · rw [same]
  · simp [off, engaging]
  · simp [running, up]

theorem Rises.running {a b : Sequencer} {k : Nat} (h : Rises a b) (hk : a.state = .running k) :
    b.state ∈ [Seq.running k, .stepUp k] := by
  rcases h.state with same | ⟨off, _⟩ | ⟨j, running, up⟩
  · simp [same, hk]
  · simp [hk] at off
  · obtain rfl : k = j := by simpa [hk] using running
    simp [up]

/-! ## The notices and the decisions up (R69, R80, R81, R83) -/

theorem State.rises_testHold (s : State) : Rises s.plant.seq s.testHold.plant.seq := by
  unfold State.testHold
  split
  · split
    · split
      · exact ⟨.inl rfl, rfl, id⟩
      · exact .refl _
    · exact ⟨.inl rfl, rfl, nofun⟩
  · exact .refl _

theorem State.rises_enterSeq {s t : State} (h : t.plant = s.plant) {q : Seq} (up : (s.plant.seq.state = .off ∧ q = .engaging) ∨
    ∃ k, s.plant.seq.state = .running k ∧ q = .stepUp k) : Rises s.plant.seq (t.enterSeq q).plant.seq := by
  refine ⟨.inr up, ?_, nofun⟩
  have low : ¬ (q = .disengaging ∨ q = .fault) := by
    rcases up with ⟨_, rfl⟩ | ⟨k, _, rfl⟩ <;> simp
  simp [State.enterSeq, low, h]

theorem State.rises_seqRise (s : State) : Rises s.plant.seq s.seqRise.plant.seq := by
  unfold State.seqRise
  split
  · rename_i off
    split
    · exact State.rises_enterSeq (s.plantMove_plant _ _ _) (.inl ⟨off, rfl⟩)
    · exact .refl _
  · rename_i k running
    split
    · exact State.rises_enterSeq (s.plantMove_plant _ _ _) (.inr ⟨k, running, rfl⟩)
    · exact .refl _
  · exact .refl _

theorem State.rises_hearCool (s : State) (b : Arbiter) : Rises s.plant.seq (s.hearCool b).plant.seq := by
  have tested := State.rises_testHold (s.setPlant { s.plant with viewCool := s.arb.cool.view })
  unfold State.hearCool
  dsimp only
  split
  · exact .refl _
  · split
    · exact tested.trans (State.rises_seqRise _)
    · exact tested

theorem State.rises_notices (s : State) (b : Arbiter) (z : Option Zone) : Rises s.plant.seq (s.notices b z).plant.seq := by
  have before : ((s.grantNotices b z).hearHeat b).plant.seq = s.plant.seq := by
    rw [State.hearHeat_seq, State.grantNotices_plant]
  exact before ▸ State.rises_hearCool _ b

theorem State.rises_writeCapacity (s : State) (i : PoolId) (v : Nat) : Rises s.plant.seq (s.writeCapacity i v).plant.seq := by
  unfold State.writeCapacity
  split
  · exact .refl _
  · exact State.rises_notices (s.setArb (s.arb.writeCapacity i v s.claimRankOf s.now)) s.arb none

/-! ## A and COOL capacity are computed from what stays (R74, R77) -/

/-- R77: the COOL pool holds the capacity that the stages now give. -/
def State.coolWritten (s : State) : Prop := s.arb.cool.capacity = s.coolCapacity

theorem State.allowedStages_congr {s t : State} (shed : t.plant.shedView = s.plant.shedView) (band : t.plant.band = s.plant.band)
    (fault : t.plant.seq.state = .fault ↔ s.plant.seq.state = .fault) (op : t.op.state = s.op.state)
    (defn : t.plant.defn = s.plant.defn) : t.allowedStages = s.allowedStages := by
  simp only [State.allowedStages, shed, band, fault, op, defn]

theorem ShareSide.opState {s t : State} (h : ShareSide s t) : t.op.state = s.op.state := by rw [h.op]
theorem ShareSide.defn {s t : State} (h : ShareSide s t) : t.plant.defn = s.plant.defn := by rw [h.plant]

theorem ShareSide.allowedStages {s t : State} (h : ShareSide s t)
    (fault : t.plant.seq.state = .fault ↔ s.plant.seq.state = .fault) : t.allowedStages = s.allowedStages :=
  State.allowedStages_congr (by rw [h.plant]) (by rw [h.plant]) fault h.opState h.defn

theorem ShareSide.coolCapacity {s t : State} (h : ShareSide s t) (r : Rises s.plant.seq t.plant.seq) :
    t.coolCapacity = s.coolCapacity := by
  rw [State.coolCapacity, State.coolCapacity, h.allowedStages r.fault, h.defn, r.committed]

theorem State.coolWritten.kept {s t : State} (w : s.coolWritten) (h : PlantSide s t) (r : Rises s.plant.seq t.plant.seq) :
    t.coolWritten := by
  rw [State.coolWritten, h.arb, (ShareSide.ofPlant h).coolCapacity r]
  exact w

theorem State.refreshCool_written (s : State) : s.refreshCool.coolWritten :=
  (State.writeCapacity_capacity s .cool _).trans
    ((ShareSide.refreshCool s).coolCapacity (State.rises_writeCapacity s .cool _)).symm

theorem State.shedStage_written (s : State) (k : Nat) : (s.shedStage k).coolWritten := by
  unfold State.shedStage
  split <;> exact State.refreshCool_written _

theorem State.coolWritten.seqDecide {s : State} (w : s.coolWritten) : s.seqDecide.coolWritten := by
  have risen : s.seqRise.coolWritten := w.kept (PlantSide.seqRise s) s.rises_seqRise
  unfold State.seqDecide
  split
  · exact risen
  · split
    · split
      · exact s.shedStage_written _
      · split
        · exact risen
        · split
          · exact s.shedStage_written _
          · exact w
    · exact w
  · exact w

theorem State.enterRunning_written (s : State) (k : Nat) : (s.enterRunning k).coolWritten :=
  ((State.refreshCool_written _).kept (PlantSide.testHold _) (State.rises_testHold _)).seqDecide

theorem State.completeStep_written {s : State} {g : Nat} (h : s.plant.seq.state.stepTarget = some g) :
    s.completeStep.coolWritten := by
  unfold State.completeStep
  split
  · exact State.enterRunning_written _ 1
  · exact State.enterRunning_written s _
  · exact State.enterRunning_written s _
  · exact State.refreshCool_written _
  · rename_i h1 h2 h3 h4
    cases hq : s.plant.seq.state with
    | engaging => exact absurd hq h1
    | stepUp k => exact absurd hq (h2 k)
    | stepDown k => exact absurd hq (h3 k)
    | disengaging => exact absurd hq h4
    | _ => simp [hq, Seq.stepTarget] at h

end Sys2Proof.Machine
end

section
/-! SUPPORT for O36 and O44. A sequencer in FAULT or LOCKOUT stays as it is through what follows an outcome, an entry to RUN
with it: no notice and no decision moves it, and COOL capacity stays at 0 (R77, R86, R88, R160, R161). -/
namespace Sys2Proof.Machine

/-- R76: FAULT and LOCKOUT, which no decision leaves. -/
def Seq.held (q : Seq) : Prop := q = .fault ∨ q = .lockout

theorem Seq.held.deaf {q : Seq} (h : q.held) : q.deaf := by
  rcases h with rfl | rfl <;> exact ⟨nofun, nofun⟩

theorem Seq.held.committed {q : Seq} (h : q.held) : q.committed = 0 := by
  rcases h with rfl | rfl <;> rfl

/-- R88: a held sequencer, a COOL capacity of 0 under it, and COMP_FAULT are as they were. -/
structure HeldKept (s t : State) : Prop where
  seq : s.plant.seq.state.held → t.plant.seq = s.plant.seq
  cool : s.plant.seq.state.held → s.arb.cool.capacity = 0 → t.arb.cool.capacity = 0
  compFault : t.cond.compFault = s.cond.compFault

theorem HeldKept.same {s t : State} (seq : t.plant.seq = s.plant.seq) (arb : t.arb.cool.capacity = s.arb.cool.capacity)
    (comp : t.cond.compFault = s.cond.compFault) : HeldKept s t := ⟨fun _ => seq, fun _ h => arb.trans h, comp⟩

theorem HeldKept.refl (s : State) : HeldKept s s := .same rfl rfl rfl

theorem HeldKept.trans {s t u : State} (a : HeldKept s t) (b : HeldKept t u) : HeldKept s u := by
  have next (h : s.plant.seq.state.held) : t.plant.seq.state.held := by rwa [a.seq h]
  exact ⟨fun h => (b.seq (next h)).trans (a.seq h), fun h zero => b.cool (next h) (a.cool h zero),
    b.compFault.trans a.compFault⟩

theorem HeldKept.ofNode {s t : State} (h : NodeSide s t) : HeldKept s t :=
  .same (by rw [h.plant]) (by rw [h.arb]) (by rw [h.cond])

theorem HeldKept.foldl {α : Type} (f : State → α → State) (h : ∀ s a, HeldKept s (f s a)) (l : List α) :
    ∀ s, HeldKept s (l.foldl f s) := by
  induction l with
  | nil => exact HeldKept.refl
  | cons a l ih => exact fun s => (h s a).trans (ih (f s a))

theorem HeldKept.notices (s : State) (b : Arbiter) (z : Option Zone) : HeldKept s (s.notices b z) where
  seq := fun h => State.notices_seq b z h.deaf
  cool := fun _ zero => by rw [(PlantSide.notices s b z).arb, zero]
  compFault := by rw [(PlantSide.notices s b z).cond]

theorem HeldKept.evaluate (s : State) (z : Zone) : HeldKept s (s.evaluate z) := by
  unfold State.evaluate
  dsimp only
  split
  · split
    · exact .ofNode (NodeSide.zoneTargets s z)
    · have settled : HeldKept s ((s.writeDemand z).settleZone z) :=
        .same rfl (SameSize.settle _ _ _ _ _ _).cool rfl
      exact (settled.trans (.ofNode (NodeSide.zoneTargets _ z))).trans (.notices _ _ _)
  · exact .refl s

theorem HeldKept.refreshCool (s : State) : HeldKept s s.refreshCool where
  seq := fun h => State.writeCapacity_seq .cool _ h.deaf
  cool := fun h _ => by
    have written : s.refreshCool.arb.cool.capacity = s.coolCapacity := State.writeCapacity_capacity s .cool _
    rw [written, State.coolCapacity, h.committed, Nat.zero_min]
    rfl
  compFault := by rw [(ShareSide.refreshCool s).cond]

theorem State.seqDecide_held {s : State} (h : s.plant.seq.state.held) : s.seqDecide = s := by
  rcases h with h | h <;> simp only [State.seqDecide, h]

theorem HeldKept.seqDecide (s : State) : HeldKept s s.seqDecide where
  seq := fun h => by rw [State.seqDecide_held h]
  cool := fun h zero => by rw [State.seqDecide_held h, zero]
  compFault := by rw [(ShareSide.seqDecide s).cond]

theorem HeldKept.plantRun (s : State) : HeldKept s s.plantRun := by
  have started : HeldKept s.refreshCool.seqDecide s.refreshCool.seqDecide.heaterStart :=
    .same (State.heaterStart_seq _) (by rw [(PlantSide.heaterStart _).arb]) (by rw [(PlantSide.heaterStart _).cond])
  have targeted (u : State) : HeldKept u (u.setPlant { u.plant with
      purgeCount := 0, intakeTarget := some (Plant.runIntake { u.plant with purgeCount := 0 }) }) := .same rfl rfl rfl
  exact ((((HeldKept.refreshCool s).trans (.seqDecide _)).trans started).trans (targeted _)).trans
    (.ofNode (NodeSide.intakeCompare _))

theorem HeldKept.startZone (s : State) (z : Zone) : HeldKept s (s.startZone z) := by
  unfold State.startZone
  split
  · exact .same rfl rfl rfl
  · exact .refl s

theorem HeldKept.startRevival (s : State) (n : NodeId) : HeldKept s (s.startRevival n) := by
  unfold State.startRevival
  split
  · exact .same rfl rfl rfl
  · exact .refl s

theorem HeldKept.enterRun (s : State) : HeldKept s s.enterRun := by
  have part : HeldKept s (s.enterPart .run).clearMarks := .same rfl rfl rfl
  have zones := HeldKept.foldl State.startZone HeldKept.startZone allZones (s.enterPart .run).clearMarks
  have evals := HeldKept.foldl State.evaluate HeldKept.evaluate allZones
    ((s.enterPart .run).clearMarks.eachZone State.startZone)
  have revivals (u : State) : HeldKept u (u.eachNode State.startRevival) := .foldl State.startRevival .startRevival allNodes u
  have raised (u : State) : HeldKept u (u.raise .commissionDone none) := .same rfl rfl rfl
  exact ((((part.trans zones).trans evals).trans (.plantRun _)).trans (revivals _)).trans (raised _)

/-! ## What follows an outcome (R160, R161) -/

theorem HeldKept.markDone (s : State) (n : NodeId) : HeldKept s (s.markDone n) := by
  have set : HeldKept s ((s.setOp { s.op with done := s.op.done.set n.val true n.isLt }).setWork n .idle) :=
    .same rfl rfl rfl
  refine set.trans ?_
  unfold State.markDone State.testCommissioned
  split
  · exact .enterRun _
  · exact .refl _

theorem HeldKept.opNodeDown (s : State) (n : NodeId) : HeldKept s (s.opNodeDown n) := by
  unfold State.opNodeDown
  split
  · exact .markDone s n
  · exact .refl s

theorem HeldKept.opFollow (s : State) : HeldKept s s.opFollow := by
  unfold State.opFollow
  split
  · refine .foldl State.opSettled (fun s m => ?_) allNodes s
    unfold State.opSettled
    split
    · exact .markDone s m
    · exact .refl s
  · exact .refl s

theorem HeldKept.startUp (s : State) (n : NodeId) (c : StartCause) : HeldKept s (s.startUp n c) := by
  have recorded : HeldKept s (s.startingRecord n c 0 .wake) := .same rfl rfl rfl
  refine recorded.trans ?_
  unfold State.startUp State.askStart
  split <;> exact .ofNode (NodeSide.askOwn _ _ _ _)

theorem HeldKept.opNodeCheck (s : State) (n : NodeId) : HeldKept s (s.opNodeCheck n) := by
  have worked (w : CommWork) : HeldKept s (s.setWork n w) := .same rfl rfl rfl
  unfold State.opNodeCheck
  split
  · split
    · exact (worked _).trans (.startUp _ n _)
    · split
      · exact .markDone s n
      · exact (worked _).trans (.ofNode (NodeSide.askMove _ _ _ _))
    all_goals exact .refl s
  · exact .refl s

/-- Commissioning goes on, and the line is freed. -/
theorem HeldKept.followed (s : State) (n : NodeId) : HeldKept s ((s.opNodeCheck n).opFollow).freeLine :=
  ((HeldKept.opNodeCheck s n).trans (.opFollow _)).trans (.ofNode (NodeSide.freeLine _))

end Sys2Proof.Machine
end

section
/-! SETTLES O36. A step of the sequencer ends: at its target it is complete, elsewhere the node enters FAULT (R79 to R82,
R85, R88). -/
namespace Sys2Proof.Machine

/-! ## A step is complete (R79 to R82, R85) -/

theorem State.enterSeq_allowed {s : State} {q : Seq} (h : q = .fault ↔ s.plant.seq.state = .fault) :
    (s.enterSeq q).allowedStages = s.allowedStages := State.allowedStages_congr rfl rfl h rfl rfl

/-- R81, R82: in RUNNING(k), with k within A and no hold marked met, the decision can only be a step up. -/
theorem State.seqDecide_rises {s : State} {k : Nat} (hk : s.plant.seq.state = .running k) (low : k ≤ s.allowedStages)
    (hm : s.plant.seq.holdMet = false) : Rises s.plant.seq s.seqDecide.plant.seq := by
  unfold State.seqDecide
  simp only [hk]
  rw [if_neg (Nat.not_lt.2 low), hm]
  split
  · split
    · exact s.rises_seqRise
    · simpa using Rises.refl s.plant.seq
  · exact .refl _

/-- R81, R82: so from where it was entered, also where it has stepped up already. -/
theorem Rises.decided {a : Sequencer} {t : State} {k : Nat} (h : Rises a t.plant.seq) (hk : a.state = .running k)
    (hm : a.holdMet = false) (low : k ≤ t.allowedStages) : Rises a t.seqDecide.plant.seq := by
  refine h.trans ?_
  rcases List.mem_pair.1 (h.running hk) with running | up
  · exact State.seqDecide_rises running low (by simpa using mt h.holdMet (by simp [hm]))
  · have still : t.seqDecide = t := by simp only [State.seqDecide, up]
    rw [still]
    exact .refl _

/-- R80 to R82: on entry to RUNNING(k), with k within A, the sequencer is there or steps up from there. -/
theorem State.enterRunning_rises {s : State} {k : Nat} (hf : s.plant.seq.state ≠ .fault) (low : k ≤ s.allowedStages) :
    Rises (s.enterSeq (.running k)).plant.seq (s.enterRunning k).plant.seq := by
  have entered : (s.enterSeq (.running k)).allowedStages = s.allowedStages := State.enterSeq_allowed (by simp [hf])
  have side : ShareSide (s.enterSeq (.running k)) (s.enterSeq (.running k)).refreshCool.testHold :=
    (ShareSide.refreshCool _).trans (.ofPlant (PlantSide.testHold _))
  have tested : Rises (s.enterSeq (.running k)).plant.seq (s.enterSeq (.running k)).refreshCool.testHold.plant.seq :=
    (State.rises_writeCapacity _ .cool _).trans (State.rises_testHold _)
  have low' : k ≤ (s.enterSeq (.running k)).refreshCool.testHold.allowedStages := by
    rwa [side.allowedStages tested.fault, entered]
  exact tested.decided rfl rfl low'

theorem State.enterRunning_runs {s : State} {k : Nat} (hf : s.plant.seq.state ≠ .fault) (low : k ≤ s.allowedStages) :
    (s.enterRunning k).plant.seq.state ∈ [Seq.running k, .stepUp k] ∧
    (s.enterRunning k).plant.seq.minRunTimer = s.plant.seq.minRunTimer := by
  have rises := State.enterRunning_rises hf low
  exact ⟨rises.running rfl, rises.minRunTimer.trans (by simp [State.enterSeq])⟩

/-- R85: the sequencer has entered LOCKOUT, and COOL capacity has been written. -/
theorem State.lockOut_locked (s : State) : lockedOutFrom s s.now (s.enterSeq .lockout).refreshCool := by
  have seq : (s.enterSeq .lockout).refreshCool.plant.seq = (s.enterSeq .lockout).plant.seq :=
    State.writeCapacity_seq .cool _ ⟨nofun, nofun⟩
  rw [lockedOutFrom, seq]
  exact ⟨rfl, rfl⟩

/-- R79 to R82, R85: the completion of a step. -/
theorem State.completeStep_completed {s : State} {g : Nat} (h : s.plant.seq.state.stepTarget = some g) :
    stepCompleted s s.now s.completeStep := by
  refine ⟨State.completeStep_written h, fun e low => ?_, fun k e low => ?_, fun k e low => ?_, fun e => ?_⟩
  · have runs := State.enterRunning_runs (s := s.setSequencer
      { s.plant.seq with
        minRunTimer := some (s.now + s.plant.defn.minRun * Config.second), minRunExpired := false }) (k := 1) (by simp [e])
      (low.trans_eq (State.allowedStages_congr rfl rfl Iff.rfl rfl rfl).symm)
    rw [State.completeStep, e]
    exact runs
  · rw [State.completeStep, e]
    exact (State.enterRunning_runs (by simp [e]) low).1
  · rw [State.completeStep, e]
    exact (State.enterRunning_runs (by simp [e]) low).1
  · rw [State.completeStep, e]
    exact s.lockOut_locked

/-! ## The node has another value (R88, R146) -/

theorem State.enterFault_eq (s : State) (n : NodeId) {why : FaultReason} (h : why ≠ .travelTimeout) :
    s.enterFault n why = (((s.downAt n (faultedRecord (s.node n) why)).downNotice n).faultRaised n).opNodeDown n := by
  rw [State.enterFault, State.faultRecord_eq s n h]
  rfl

/-- R146, R151: the node's record and NODE_FAULT after an entry to FAULT, whatever its owner does. -/
theorem State.enterFault_stands (s : State) (n : NodeId) {why : FaultReason} (h : why ≠ .travelTimeout) :
    ((s.enterFault n why).node n).state = .fault ∧ ((s.enterFault n why).node n).faultReason = some why ∧
    (s.enterFault n why).cond.nodeFault = ⟨true, min 255 (s.cond.nodeFault.count + 1), some n.address⟩ := by
  have notice := FaultKept.downNotice (s.downAt n (faultedRecord (s.node n) why)) n
  have down := FaultKept.opNodeDown (((s.downAt n (faultedRecord (s.node n) why)).downNotice n).faultRaised n) n
  rw [s.enterFault_eq n h, down.state, down.reason, down.raised]
  refine ⟨(notice.state n).trans ?_, (notice.reason n).trans ?_, ?_⟩
  · rw [State.downAt_node]; rfl
  · rw [State.downAt_node]; rfl
  · show Sticky.mk true
      (min 255 (((s.downAt n (faultedRecord (s.node n) why)).downNotice n).cond.nodeFault.count + 1)) (some n.address) = _
    rw [notice.raised]
    rfl

theorem State.downNotice_faulted {s : State} {n : NodeId} (hb : (s.node n).binding = some (.plant .compressor))
    (hq : s.plant.seq.state ≠ .fault) :
    sequencerFaulted s n (s.downNotice n) := by
  have told : s.downNotice n = (s.seqFault n).restReport := by
    rw [State.downNotice, hb]
    exact if_neg hq
  rw [told, sequencerFaulted, State.restReport_plant, State.restReport_arb, State.restReport_compFault]
  exact s.seqFault_faulted n

theorem sequencerFaulted.kept {s t u : State} {n : NodeId} (h : sequencerFaulted s n t) (k : HeldKept t u) :
    sequencerFaulted s n u := by
  obtain ⟨seq, cool, timer, comp⟩ := h
  have held : t.plant.seq.state.held := .inl seq
  exact ⟨by rw [k.seq held, seq], k.cool held cool, by rw [k.seq held, timer], k.compFault.trans comp⟩

/-- R88: the sequencer with its node. -/
theorem State.enterFault_sequencer {s : State} {n : NodeId} {why : FaultReason} (h : why ≠ .travelTimeout)
    (hb : (s.node n).binding = some (.plant .compressor)) (hq : s.plant.seq.state ≠ .fault) :
    compressorFaulted s n why (s.enterFault n why) := by
  obtain ⟨state, reason, raised⟩ := s.enterFault_stands n h
  refine ⟨state, reason, raised, ?_⟩
  have bound : ((s.downAt n (faultedRecord (s.node n) why)).node n).binding = some (.plant .compressor) := by
    rw [State.downAt_node]
    exact hb
  have faulted := State.downNotice_faulted bound hq
  have noted : HeldKept ((s.downAt n (faultedRecord (s.node n) why)).downNotice n)
      (((s.downAt n (faultedRecord (s.node n) why)).downNotice n).faultRaised n) := .same rfl rfl rfl
  rw [s.enterFault_eq n h]
  exact sequencerFaulted.kept faulted (noted.trans (.opNodeDown _ n))

/-! ## The obligation -/

theorem State.settled_of {s : State} {n : NodeId} (ready : (s.node n).state = .ready) (left : s.moveLeft n = false) :
    s.settled n = true := by
  simp [State.settled, ready, left]

theorem State.valueIs_iff {s : State} {n : NodeId} {g : Nat} : s.valueIs n g = true ↔ (s.node n).value = some (.num g) := by
  unfold State.valueIs
  simp

theorem State.restReport_of_run {s : State} (h : s.op.state = .run) : s.restReport = s :=
  if_neg (by simp [h])

/-- Settles O36: the report finds the node settled, and its value against the target decides between the completion and
FAULT. -/
theorem sequencerStepEnds : Obligations.SequencerStepEnds := by
  unfold Obligations.SequencerStepEnds
  intro s t n g ht run _ ready left target
  rw [State.seqReport, if_pos (State.settled_of ready left), target] at ht
  constructor
  · intro value
    have side := ShareSide.completeStep s
    have completed : t = s.completeStep := by
      rw [ht]
      exact (if_pos (State.valueIs_iff.2 value)).trans (State.restReport_of_run (side.opState.trans run))
    rw [completed]
    exact ⟨side, State.completeStep_completed target⟩
  · intro value
    have faulted : t = s.enterFault n .unexpectedValue := by
      rw [ht]
      refine (if_neg (mt State.valueIs_iff.1 value)).trans ((if_neg (by simp [run])).trans ?_)
      exact if_neg (by simp [ready])
    have hq : s.plant.seq.state ≠ .fault := by
      intro e
      rw [e] at target
      simp [Seq.stepTarget] at target
    obtain ⟨state, reason, raised⟩ := s.enterFault_stands n (why := .unexpectedValue) (by simp)
    rw [faulted]
    refine ⟨state, reason, raised, fun bound => ?_⟩
    obtain ⟨_, _, _, seq, cool, _, comp⟩ :=
      State.enterFault_sequencer (why := .unexpectedValue) (by simp) bound hq
    exact ⟨seq, cool, comp⟩

end Sys2Proof.Machine
end

section
/-! SUPPORT for O13, O26, O34 and O44. A capacity write: what it leaves of the other pool and of the heater, that one which
revokes nothing where no claim waits is told to nobody, and that a request's effect is the same under another port (R47,
R69, R77, R93). -/
namespace Sys2Proof.Machine

/-! ## The same effect with another port, band, level or definition -/

theorem ShareSide.setPort {s t : State} (h : ShareSide s t) (q : Port) : ShareSide (s.setPort q) (t.setPort q) :=
  ⟨h.now, h.held, h.shedLine, h.key, h.zones, h.saturationTime, h.plant, h.cond, rfl, h.pending, h.op, h.tuning, h.pollTick,
    h.recs, h.still⟩

/-- R72: a coolant level is not read back by what shares the plant. -/
theorem ShareSide.setLevel {s t : State} (h : ShareSide s t) (l : Nat) :
    ShareSide (s.setPlant { s.plant with coolant := l }) (t.setPlant { t.plant with coolant := l }) :=
  ⟨h.now, h.held, h.shedLine, h.key, h.zones, h.saturationTime, congrArg (fun p : Plant => { p with coolant := l }) h.plant,
    h.cond, h.port, h.pending, h.op, h.tuning, h.pollTick, h.recs, h.still⟩

/-! ## The pools' capacities -/

def PoolId.other : PoolId → PoolId
  | .heat => .cool
  | .cool => .heat

/-- R47: the other pool's capacity stays. -/
theorem State.writeCapacity_other (s : State) (i : PoolId) (v : Nat) :
    ((s.writeCapacity i v).arb.pool i.other).capacity = (s.arb.pool i.other).capacity := by
  unfold State.writeCapacity
  split
  · rfl
  · rw [State.arbiterEvent_arb, (Arbiter.writeCapacity_sizes _ _ _ _ _).pool i.other]
    cases i <;> rfl

theorem State.refreshHeat_cool (s : State) : s.refreshHeat.arb.cool.capacity = s.arb.cool.capacity :=
  s.writeCapacity_other .heat _
theorem State.refreshCool_heat (s : State) : s.refreshCool.arb.heat.capacity = s.arb.heat.capacity :=
  s.writeCapacity_other .cool _

theorem State.shedStage_heat (s : State) (k : Nat) : (s.shedStage k).arb.heat.capacity = s.arb.heat.capacity := by
  unfold State.shedStage
  split <;>
    exact (State.refreshCool_heat _).trans
      (congrArg (·.heat.capacity) ((PlantSide.plantMove s _ _ _).trans (PlantSide.enterSeq _ _)).arb)

theorem State.seqDecide_heat (s : State) : s.seqDecide.arb.heat.capacity = s.arb.heat.capacity := by
  have risen : s.seqRise.arb.heat.capacity = s.arb.heat.capacity := congrArg (·.heat.capacity) (PlantSide.seqRise s).arb
  unfold State.seqDecide
  split
  · exact risen
  · split
    · split
      · exact s.shedStage_heat _
      · split
        · exact risen
        · split
          · exact s.shedStage_heat _
          · rfl
    · rfl
  · rfl

/-! ## The sequencer sheds a stage (R82, R84) -/

theorem State.enterSeq_state (s : State) (q : Seq) : (s.enterSeq q).plant.seq.state = q := rfl

theorem State.shedStage_seq (s : State) (k : Nat) :
    (s.shedStage k).plant.seq.state = if 2 ≤ k then .stepDown k else .disengaging := by
  unfold State.shedStage
  split
  · rw [State.refreshCool, State.writeCapacity_seq .cool _ ⟨by simp [State.enterSeq], by simp [State.enterSeq]⟩]
    rfl
  · rw [State.refreshCool, State.writeCapacity_seq .cool _ ⟨by simp [State.enterSeq], by simp [State.enterSeq]⟩]
    rfl

/-- R82 to R84: a decision does not take the sequencer into FAULT or out of it. -/
theorem State.seqDecide_fault (s : State) : s.seqDecide.plant.seq.state = .fault ↔ s.plant.seq.state = .fault := by
  have risen : s.seqRise.plant.seq.state = .fault ↔ s.plant.seq.state = .fault := s.rises_seqRise.fault
  have shed (k : Nat) : (s.shedStage k).plant.seq.state ≠ .fault := by
    rw [State.shedStage_seq]
    split <;> simp
  unfold State.seqDecide
  split
  · exact risen
  · rename_i k running
    split
    · split
      · simp [shed, running]
      · split
        · exact risen
        · split
          · simp [shed, running]
          · exact Iff.rfl
    · exact Iff.rfl
  · exact Iff.rfl

/-! ## The heater through the notices (R96, R102) -/

theorem State.heaterStart_running (s : State) :
    s.heaterStart.plant.heater.state = .running ↔ s.plant.heater.state = .running := by
  unfold State.heaterStart
  split
  · rename_i start
    simp [State.enterHeater, start.1]
  · exact Iff.rfl

theorem State.hearHeat_runs (s : State) (b : Arbiter) :
    (s.hearHeat b).plant.heater.state = .running ↔ s.plant.heater.state = .running := by
  have tested : (s.setPlant { s.plant with viewHeat := s.arb.heat.view }).testStopDelay.plant.heater.state =
      s.plant.heater.state := State.testStopDelay_state _
  unfold State.hearHeat
  dsimp only
  split
  · exact Iff.rfl
  · split
    · rw [State.heaterStart_running, tested]
    · rw [tested]

theorem State.writeCapacity_running (s : State) (i : PoolId) (v : Nat) :
    (s.writeCapacity i v).plant.heater.state = .running ↔ s.plant.heater.state = .running := by
  unfold State.writeCapacity
  split
  · exact Iff.rfl
  · rw [State.arbiterEvent, State.notices, State.hearCool_heater, State.hearHeat_runs, State.grantNotices_plant]
    rfl

/-- R93: HEAT capacity is read off the level, the definition and whether the heater runs. -/
theorem State.heatCapacity_congr {s t : State} (level : t.plant.coolant = s.plant.coolant)
    (defn : t.plant.defn = s.plant.defn) (running : t.plant.heater.state = .running ↔ s.plant.heater.state = .running) :
    t.heatCapacity = s.heatCapacity := by
  simp only [State.heatCapacity, Plant.coolantOnly, level, defn, running]

theorem ShareSide.coolant {s t : State} (h : ShareSide s t) : t.plant.coolant = s.plant.coolant := by rw [h.plant]

/-- R93: after the write the HEAT pool holds the capacity computed afresh. -/
theorem State.refreshHeat_written (s : State) : s.refreshHeat.arb.heat.capacity = s.refreshHeat.heatCapacity :=
  (State.writeCapacity_capacity s .heat _).trans
    (State.heatCapacity_congr (ShareSide.refreshHeat s).coolant (ShareSide.refreshHeat s).defn
      (State.writeCapacity_running s .heat _)).symm

/-! ## A write that nobody is told of (R47, R69) -/

/-- No claim waits in the pool, and its grants fit this capacity. -/
def Pool.quietAt (p : Pool) (v : Nat) : Prop := p.claims = [] ∧ p.grantedTotal ≤ v

theorem Arbiter.pass_unclaimed {a : Arbiter} {i : PoolId} (h : (a.pool i).claims = []) : a.pass i = a := by
  rw [Arbiter.pass, h]
  rfl

theorem Arbiter.writeCapacity_quiet {a : Arbiter} {i : PoolId} {v : Nat} (f : Zone → Nat) (now : Time)
    (h : (a.pool i).quietAt v) : a.writeCapacity i v f now = a.setPool i { a.pool i with capacity := v } := by
  unfold Arbiter.writeCapacity
  dsimp only
  split
  · rename_i same
    rw [same, Arbiter.setPool_same]
  · split
    · exact Arbiter.pass_unclaimed (by rw [Arbiter.setPool_pool]; exact h.1)
    · rw [if_neg (Nat.not_lt.2 h.2)]

/-- R69: where every grant and both views are as they were, the notices say nothing. -/
theorem State.notices_unchanged {s : State} {b : Arbiter} (z : Option Zone) (grants : ∀ y, b.grantOf y = s.arb.grantOf y)
    (heat : b.heat.view = s.arb.heat.view) (cool : b.cool.view = s.arb.cool.view) : s.notices b z = s := by
  have told : s.grantNotices b z = s := by
    rw [State.grantNotices_eq, List.filter_eq_nil_iff.2 (fun y _ => by simp [grants y])]
    rfl
  have heard : s.hearHeat b = s := if_pos heat
  rw [State.notices, told, heard]
  exact if_pos cool

theorem State.writeCapacity_quiet {s : State} {i : PoolId} {v : Nat} (h : (s.arb.pool i).quietAt v) :
    s.writeCapacity i v = s.setArb (s.arb.setPool i { s.arb.pool i with capacity := v }) := by
  unfold State.writeCapacity
  split
  · rename_i same
    rw [same, Arbiter.setPool_same]
    rfl
  · rw [Arbiter.writeCapacity_quiet _ _ h]
    cases i <;> exact State.notices_unchanged none (fun _ => rfl) rfl rfl

end Sys2Proof.Machine
end

section
/-! SETTLES O26. The ENGINE request and the SHED_N line: what A and the capacities are, and what a change of A or of the
coolant level writes (R72 to R74, R76, R77, R82, R93). -/
namespace Sys2Proof.Machine

/-! ## A and the capacities (R74, R76, R77, R93) -/

theorem State.allowedStages_none {s : State} (h : s.plant.shedView = true ∨ s.plant.band = .stopped ∨
    s.plant.seq.state = .fault ∨ s.op.state ≠ .run ∨ s.plant.defn.compressor = none) : s.allowedStages = 0 := if_pos h

theorem State.allowedStages_band {s : State} (shed : s.plant.shedView = false) (fault : s.plant.seq.state ≠ .fault)
    (run : s.op.state = .run) (node : s.plant.defn.compressor ≠ none) (band : s.plant.band ≠ .stopped) :
    s.allowedStages = s.plant.defn.bandMax s.plant.band :=
  if_neg (by simp [shed, fault, run, node, band])

theorem PlantDef.firstStages_take (d : PlantDef) (n : Nat) :
    d.firstStages n = ([d.u1, d.u2, d.u3, d.u4].take n).sum := by
  match n with
  | 0 => rfl
  | 1 => simp [PlantDef.firstStages]
  | 2 => simp [PlantDef.firstStages]
  | 3 => simp [PlantDef.firstStages, Nat.add_assoc]
  | n + 4 => simp [PlantDef.firstStages, Nat.add_assoc]

theorem State.coolCapacity_committed {s : State} {k : Nat} (h : s.plant.seq.state = .running k ∨
    s.plant.seq.state = .stepUp k ∨ s.plant.seq.state = .stepDown (k + 1)) : s.plant.seq.state.committed = k := by
  rcases h with h | h | h <;> rw [h] <;> rfl

theorem State.coolCapacity_uncommitted {s : State} (h : s.plant.seq.state ∈ [Seq.off, .engaging, .disengaging, .lockout,
    .fault]) : s.coolCapacity = 0 := by
  have none : s.plant.seq.state.committed = 0 := by
    simp only [List.mem_cons, List.not_mem_nil, or_false] at h
    rcases h with h | h | h | h | h <;> rw [h] <;> rfl
  rw [State.coolCapacity, none, Nat.zero_min]
  rfl

/-! ## A change of A (R74) -/

theorem State.allowedChanged_same {s : State} {a : Nat} (h : s.allowedStages = a) : s.allowedChanged a = s := if_pos h
theorem State.allowedChanged_new {s : State} {a : Nat} (h : s.allowedStages ≠ a) :
    s.allowedChanged a = s.refreshCool.seqDecide := if_neg h

theorem State.allowedChanged_allowed (s : State) (a : Nat) : (s.allowedChanged a).allowedStages = s.allowedStages := by
  refine (ShareSide.allowedChanged s a).allowedStages ?_
  by_cases h : s.allowedStages = a
  · rw [State.allowedChanged_same h]
  · rw [State.allowedChanged_new h, State.seqDecide_fault]
    exact (State.rises_writeCapacity s .cool _).fault

theorem State.allowedChanged_written {s : State} {a : Nat} (h : s.allowedStages ≠ a) : (s.allowedChanged a).coolWritten := by
  rw [State.allowedChanged_new h]
  exact s.refreshCool_written.seqDecide

theorem State.allowedChanged_heat (s : State) (a : Nat) :
    (s.allowedChanged a).arb.heat.capacity = s.arb.heat.capacity := by
  by_cases h : s.allowedStages = a
  · rw [State.allowedChanged_same h]
  · rw [State.allowedChanged_new h, State.seqDecide_heat, State.refreshCool_heat]

/-! ## A change of band, and of level (R72, R93) -/

/-- R72: the state with the new band alone. -/
def State.withBand (s : State) (b : EngineBand) : State := s.setPlant { s.plant with band := b }

theorem State.setBand_allowed (s : State) (b : EngineBand) : (s.setBand b).allowedStages = (s.withBand b).allowedStages :=
  State.allowedChanged_allowed _ _

theorem State.setCoolant_share (s : State) (l : Nat) :
    ShareSide (s.setPlant { s.plant with coolant := l }) (s.setCoolant l) := by
  unfold State.setCoolant
  split
  · rename_i same
    subst same
    exact .refl s
  · exact (ShareSide.refreshHeat _).trans (.ofPlant (PlantSide.testStopDelay _))

theorem State.rises_setCoolant (s : State) (l : Nat) : Rises s.plant.seq (s.setCoolant l).plant.seq := by
  unfold State.setCoolant
  split
  · exact .refl _
  · rw [State.testStopDelay_seq]
    exact State.rises_writeCapacity (s.setPlant { s.plant with coolant := l }) .heat _

theorem State.setCoolant_cool (s : State) (l : Nat) : (s.setCoolant l).arb.cool.capacity = s.arb.cool.capacity := by
  unfold State.setCoolant
  split
  · rfl
  · rw [(PlantSide.testStopDelay _).arb, State.refreshHeat_cool]
    rfl

theorem State.setCoolant_heat {s : State} {l : Nat} (h : s.plant.coolant ≠ l) :
    (s.setCoolant l).arb.heat.capacity = (s.setCoolant l).heatCapacity := by
  have tested := PlantSide.testStopDelay (s.setPlant { s.plant with coolant := l }).refreshHeat
  rw [State.setCoolant, if_neg h, tested.arb, State.refreshHeat_written]
  exact (State.heatCapacity_congr (ShareSide.ofPlant tested).coolant (ShareSide.ofPlant tested).defn
    (by rw [State.testStopDelay_state])).symm

theorem State.setCoolant_same {s : State} {l : Nat} (h : s.plant.coolant = l) : s.setCoolant l = s := if_pos h

theorem State.setCoolant_allowed (s : State) (l : Nat) : (s.setCoolant l).allowedStages = s.allowedStages :=
  (s.setCoolant_share l).allowedStages (s.rises_setCoolant l).fault

theorem State.coolWritten.setCoolant {s : State} (h : s.coolWritten) (l : Nat) : (s.setCoolant l).coolWritten := by
  rw [State.coolWritten, State.setCoolant_cool, (s.setCoolant_share l).coolCapacity (s.rises_setCoolant l)]
  exact h

/-! ## The request (R72) -/

theorem EngineBand.exists_code {i : Nat} (h : i ≤ 3) : ∃ e : EngineBand, e.code = i := by
  match i, h with
  | 0, _ => exact ⟨.stopped, rfl⟩
  | 1, _ => exact ⟨.idle, rfl⟩
  | 2, _ => exact ⟨.cruise, rfl⟩
  | 3, _ => exact ⟨.pull, rfl⟩

theorem bandField_code (e : EngineBand) : bandField (byteOf e.code) = some e := by cases e <;> rfl

theorem bandField_ok {b : Byte} (h : byteIn 0 3 b) : ∃ e : EngineBand, bandField b = some e ∧ e.code = b.toNat := by
  obtain ⟨e, code⟩ := EngineBand.exists_code h.2
  have byte : byteOf e.code = b := by simp [byteOf, code]
  exact ⟨e, byte ▸ bandField_code e, code⟩

theorem bandField_bad {b : Byte} (h : ¬ byteIn 0 3 b) : bandField b = none := by
  rw [bandField, if_neg (ne_of_not_byteIn h (by decide)), if_neg (ne_of_not_byteIn h (by decide)),
    if_neg (ne_of_not_byteIn h (by decide)), if_neg (ne_of_not_byteIn h (by decide))]

theorem State.takeEngine_bad (s : State) {band level : Byte} (h : ¬ byteIn 0 3 band ∨ ¬ byteIn 0 3 level) :
    s.takeEngine band level = badArgument s := by
  rcases h with h | h
  · exact withField_none _ (bandField_bad h)
  · exact withField_bad fun _ _ => withField_none _ (rangeByte_bad h)

theorem State.takeEngine_ok (s : State) {band level : Byte} {b : EngineBand} (hb : bandField band = some b)
    (hl : byteIn 0 3 level) : s.takeEngine band level = accept ((s.setBand b).setCoolant level.toNat) := by
  rw [State.takeEngine, hb, rangeByte_ok hl]
  rfl

/-- R72: what the two writes leave, beside the capacities. -/
theorem State.takeEngine_share (s : State) (b : EngineBand) (l : Nat) :
    ShareSide ((s.withBand b).setPlant { (s.withBand b).plant with coolant := l }) ((s.setBand b).setCoolant l) :=
  ((ShareSide.allowedChanged (s.withBand b) s.allowedStages).setLevel l).trans (State.setCoolant_share _ l)

/-- R72 to R74, R77, R93: the effects of an ENGINE request that is accepted. -/
theorem State.engine_effects {s u : State} {b : EngineBand} {l : Nat} (hu : u = (s.setBand b).setCoolant l) :
    (u.allowedStages ≠ s.allowedStages → u.coolWritten) ∧
    (u.allowedStages = s.allowedStages → u.arb.cool.capacity = s.arb.cool.capacity) ∧
    (l ≠ s.plant.coolant → u.arb.heat.capacity = u.heatCapacity) ∧
    (l = s.plant.coolant → u.arb.heat.capacity = s.arb.heat.capacity) ∧
    (u.allowedStages = s.allowedStages → l = s.plant.coolant → u = s.withBand b) := by
  have level : (s.setBand b).plant.coolant = s.plant.coolant := (ShareSide.allowedChanged (s.withBand b) _).coolant
  have allowed : u.allowedStages = (s.withBand b).allowedStages := by
    rw [hu, State.setCoolant_allowed, State.setBand_allowed]
  rw [allowed, hu]
  refine ⟨fun new => (State.allowedChanged_written new).setCoolant l, fun same => ?_, fun new => ?_, fun same => ?_,
    fun sameA sameL => ?_⟩
  · rw [State.setCoolant_cool]
    exact congrArg (·.arb.cool.capacity) (State.allowedChanged_same same)
  · exact State.setCoolant_heat (by rw [level]; exact Ne.symm new)
  · rw [State.setCoolant_same (level.trans same.symm)]
    exact State.allowedChanged_heat _ _
  · rw [State.setCoolant_same (level.trans sameL.symm)]
    exact State.allowedChanged_same sameA

theorem State.engine_accepted {s : State} (tag : Byte) {band level : Byte} (hf : s.portFree) (hb : byteIn 0 3 band)
    (hl : byteIn 0 3 level) :
    ∃ (b : EngineBand) (u t : State), b.code = band.toNat ∧ u = (s.untagged.setBand b).setCoolant level.toNat ∧
      exec (.engine tag band level) s = .next t ∧ t.repliesOk 0xA6#8 tag [] ∧ t = u.setPort t.port ∧
      t.port = answeredPort s t := by
  obtain ⟨b, field, code⟩ := bandField_ok hb
  obtain ⟨t, he, ok, ht, hp⟩ := State.clears_accepted s _ .engine tag [band, level] hf rfl rfl rfl
    (s.untagged.takeEngine_ok field hl) (State.takeEngine_share s.untagged b level.toNat).port
  exact ⟨b, _, t, code, rfl, he, ok, ht, hp⟩

/-! ## The SHED_N line (R73, R82) -/

theorem State.testHold_state (s : State) : s.testHold.plant.seq.state = s.plant.seq.state := by
  unfold State.testHold
  repeat' split
  all_goals rfl

/-- R80, R81: with no stage allowed nothing rises. -/
theorem State.seqRise_barred {s : State} (h : s.allowedStages = 0) : s.seqRise = s :=
  State.seqRise_still (fun off => by omega) (fun k running => by omega)

theorem State.hearCool_barred {s : State} (b : Arbiter) (h : s.allowedStages = 0) :
    (s.hearCool b).plant.seq.state = s.plant.seq.state := by
  have tested : (s.setPlant { s.plant with viewCool := s.arb.cool.view }).testHold.plant.seq.state = s.plant.seq.state :=
    State.testHold_state _
  have barred : (s.setPlant { s.plant with viewCool := s.arb.cool.view }).testHold.allowedStages = 0 :=
    ((ShareSide.ofPlant (PlantSide.testHold _)).allowedStages (State.rises_testHold _).fault).trans h
  unfold State.hearCool
  dsimp only
  rw [State.seqRise_barred barred, ite_self]
  split
  · rfl
  · exact tested

theorem State.writeCapacity_barred {s : State} (i : PoolId) (v : Nat) (h : s.allowedStages = 0) :
    (s.writeCapacity i v).plant.seq.state = s.plant.seq.state := by
  unfold State.writeCapacity
  split
  · rfl
  · generalize ha : s.arb.writeCapacity i v s.claimRankOf s.now = a
    have side : PlantSide (s.setArb a) (((s.setArb a).grantNotices s.arb none).hearHeat s.arb) :=
      (PlantSide.ofNode (NodeSide.grantNotices _ _ _)).trans (PlantSide.hearHeat _ _)
    have seq : (((s.setArb a).grantNotices s.arb none).hearHeat s.arb).plant.seq = s.plant.seq := by
      rw [State.hearHeat_seq, State.grantNotices_plant]
      rfl
    have allowed := (ShareSide.ofPlant side).allowedStages (by rw [seq]; rfl)
    exact (State.hearCool_barred _ (allowed.trans h)).trans (congrArg Sequencer.state seq)

theorem ShareSide.compressorReady {s t : State} (h : ShareSide s t) : t.compressorReady = s.compressorReady := by
  have node (n : NodeId) : (t.node n).state = (s.node n).state := by rw [h.recs n]
  unfold State.compressorReady State.readyNode
  rw [h.defn]
  cases s.plant.defn.compressor with
  | none => rfl
  | some n => exact congrArg (fun q => decide (q = NodeState.ready)) (node n)

/-- R82: with no stage allowed, a running compressor whose node is READY sheds a stage. -/
theorem State.allowedChanged_sheds {s : State} {a k : Nat} (none : s.allowedStages = 0) (ha : a ≠ 0)
    (ready : s.compressorReady = true) (hk : 1 ≤ k) (running : s.plant.seq.state = .running k) :
    (s.allowedChanged a).plant.seq.state = if 2 ≤ k then .stepDown k else .disengaging := by
  have side := ShareSide.refreshCool s
  have still : s.refreshCool.plant.seq.state = .running k := (State.writeCapacity_barred .cool _ none).trans running
  have low : s.refreshCool.allowedStages < k := by
    rw [side.allowedStages (by rw [still, running]), none]
    exact hk
  rw [State.allowedChanged_new (by omega)]
  unfold State.seqDecide
  simp only [still]
  rw [if_pos (side.compressorReady.trans ready), if_pos low, State.shedStage_seq]

/-! ## The obligation -/

/-- Settles O26: A and the capacities as their definitions give them; an ENGINE request is a change of band and then one of
level; a change of the line is one of A. -/
theorem engineAndShedLine : Obligations.EngineAndShedLine := by
  refine ⟨?_, fun s tag band level hf => ⟨fun bad => ?_, fun hb hl => ?_⟩, fun s b hh => ?_⟩
  · rintro s p d rfl rfl
    refine ⟨State.allowedStages_none, fun shed fault run node => ⟨fun b => ?_, fun b => ?_, fun b => ?_⟩,
      fun k committed => ?_, State.coolCapacity_uncommitted, rfl⟩
    · rw [State.allowedStages_band shed fault run node (by simp [b]), b]; rfl
    · rw [State.allowedStages_band shed fault run node (by simp [b]), b]; rfl
    · rw [State.allowedStages_band shed fault run node (by simp [b]), b]; rfl
    · rw [State.coolCapacity, State.coolCapacity_committed committed, PlantDef.firstStages_take]
  · exact State.clears_badArgument s .engine tag [band, level] hf rfl rfl rfl (s.untagged.takeEngine_bad bad)
  · obtain ⟨b, u, t, code, hu, he, ok, ht, hp⟩ := State.engine_accepted tag hf hb hl
    have share := (hu ▸ State.takeEngine_share s.untagged b level.toNat).setPort t.port
    rw [← ht] at share
    have hband : t.plant.band = b := by rw [share.plant]; rfl
    have hlevel : t.plant.coolant = level.toNat := by rw [share.plant]; rfl
    have allowed : t.allowedStages = u.allowedStages := by rw [ht]; rfl
    have heat : t.heatCapacity = u.heatCapacity := by rw [ht]; rfl
    have arb : t.arb = u.arb := by rw [ht]; rfl
    obtain ⟨written, cool, newHeat, sameHeat, same⟩ := State.engine_effects hu
    refine ⟨t, he, ok, hp, hband ▸ code, hlevel, ?_, ?_, ?_, ?_, ?_, ?_⟩
    · rw [hband, hlevel]
      exact share
    · rw [allowed, arb]
      exact fun new => (written new).trans (by rw [ht]; rfl)
    · rw [allowed, arb]
      exact cool
    · rw [hlevel, heat, arb]
      exact newHeat
    · rw [hlevel, arb]
      exact sameHeat
    · rw [hlevel, allowed, hband]
      intro sameA sameL
      exact ht.trans (congrArg (State.setPort · t.port) (same sameA sameL))
  · have event : exec (if b then .shedNAsserted else .shedNReleased) s =
        .next (((s.setShedLine b).viewShed b).allowedChanged s.allowedStages) := by
      cases b
      · exact State.answer_free (s := s.setShedLine false) (·.shedEvent false) hh
      · exact State.answer_free (s := s.setShedLine true) (·.shedEvent true) hh
    refine ⟨_, event, ShareSide.allowedChanged _ _, fun asserted => ?_, fun new => ?_, fun same => ?_,
      fun asserted some ready k hk running => ?_⟩
    · rw [State.allowedChanged_allowed]
      exact State.allowedStages_none (.inl asserted)
    · rw [State.allowedChanged_allowed] at new
      exact State.allowedChanged_written new
    · rw [State.allowedChanged_allowed] at same
      exact State.allowedChanged_same same
    · exact State.allowedChanged_sheds (State.allowedStages_none (.inl asserted)) some ready hk running

end Sys2Proof.Machine
end

section
/-! SETTLES O13. An accepted PLANT_DEF replaces the plant definition and writes HEAT capacity afresh (R75, R91, R93, R154). -/
namespace Sys2Proof.Machine

/-! ## The fields (R75, R91) -/

theorem nodeField_some {b : Byte} {n : Option NodeId} (h : nodeField b = some n) : byteIn 0 31 b := by
  by_contra bad
  simp [nodeField_bad b bad] at h

theorem rangeByte_some {lo hi v : Nat} {b : Byte} (h : rangeByte lo hi b = some v) : byteIn lo hi b := by
  by_contra bad
  simp [rangeByte_bad bad] at h

theorem rangeWord_some {lo hi v : Nat} {w : Word} (h : rangeWord lo hi w = some v) : wordIn lo hi w := by
  by_contra bad
  simp [rangeWord_bad bad] at h

/-- R75, R91: the definition that an accepted PLANT_DEF gives. -/
def plantDefOf (a : PlantDefArgs) (compressor auxHeater intake : Option NodeId) : PlantDef :=
  { compressor := compressor, u1 := a.u1.toNat, u2 := a.u2.toNat, u3 := a.u3.toNat, u4 := a.u4.toNat
    idleMax := a.idleMax.toNat, cruiseMax := a.cruiseMax.toNat, pullMax := a.pullMax.toNat, minRun := a.minRun.toNat
    minOff := a.minOff.toNat, stageDownHold := a.stageDownHold.toNat, auxHeater := auxHeater
    auxUnits := a.auxUnits.toNat, coolantUnits := a.coolantUnits.toNat, intake := intake }

theorem checkPlantDef_ok {a : PlantDefArgs} (h : plantDefInRange a) : ∃ compressor auxHeater intake,
    checkPlantDef a = some (plantDefOf a compressor auxHeater intake) ∧ namesNode a.compressor compressor ∧
    namesNode a.auxHeater auxHeater ∧ namesNode a.intake intake := by
  obtain ⟨hco, hu1, hu2, hu3, hu4, him, hcm, hpm, hrun, hoff, hhold, hax, hau, hcu, hik⟩ := h
  obtain ⟨compressor, fco, nco⟩ := nodeField_ok _ hco
  obtain ⟨auxHeater, fax, nax⟩ := nodeField_ok _ hax
  obtain ⟨intake, fik, nik⟩ := nodeField_ok _ hik
  refine ⟨compressor, auxHeater, intake, ?_, nco, nax, nik⟩
  simp only [checkPlantDef, fco, rangeByte_ok hu1, rangeByte_ok hu2, rangeByte_ok hu3, rangeByte_ok hu4,
    rangeByte_ok him, rangeByte_ok hcm, rangeByte_ok hpm, rangeWord_ok hrun, rangeWord_ok hoff, rangeByte_ok hhold, fax,
    rangeByte_ok hau, rangeByte_ok hcu, fik, Option.bind_some, Option.map_some, plantDefOf]

/-- Of several fields checked in turn one is out of range: this one or a later one. -/
theorem bind_field {α β : Type} {o : Option α} {f : α → Option β} {c r : Prop} (field : ∀ v, o = some v → c)
    (bad : ¬ (c ∧ r)) (rest : ¬ r → ∀ v, f v = none) : o.bind f = none := by
  cases e : o with
  | none => rfl
  | some v => exact rest (fun hr => bad ⟨field v e, hr⟩) v

theorem checkPlantDef_bad {a : PlantDefArgs} (h : ¬ plantDefInRange a) : checkPlantDef a = none := by
  refine bind_field (fun _ => nodeField_some) h fun h _ => ?_
  refine bind_field (fun _ => rangeByte_some) h fun h _ => ?_
  refine bind_field (fun _ => rangeByte_some) h fun h _ => ?_
  refine bind_field (fun _ => rangeByte_some) h fun h _ => ?_
  refine bind_field (fun _ => rangeByte_some) h fun h _ => ?_
  refine bind_field (fun _ => rangeByte_some) h fun h _ => ?_
  refine bind_field (fun _ => rangeByte_some) h fun h _ => ?_
  refine bind_field (fun _ => rangeByte_some) h fun h _ => ?_
  refine bind_field (fun _ => rangeWord_some) h fun h _ => ?_
  refine bind_field (fun _ => rangeWord_some) h fun h _ => ?_
  refine bind_field (fun _ => rangeByte_some) h fun h _ => ?_
  refine bind_field (fun _ => nodeField_some) h fun h _ => ?_
  refine bind_field (fun _ => rangeByte_some) h fun h _ => ?_
  refine bind_field (fun _ => rangeByte_some) h fun h _ => ?_
  rw [nodeField_bad _ h]
  rfl

theorem State.plantDef_owner (s : State) (found : RangeTag) (a : PlantDefArgs) :
    s.ownerTakes .plantDef found (plantDefPayload a) = s.takePlantDef a := by
  show s.takePlantDef { a with
      minRun := joinBytes (hiByte a.minRun) (loByte a.minRun), minOff := joinBytes (hiByte a.minOff) (loByte a.minOff) } = _
  rw [joinBytes_split, joinBytes_split]

/-! ## The definition taken (R93, R154) -/

theorem ShareSide.configChange {s t : State} (h : ShareSide s t) : ShareSide s.configChange t.configChange :=
  ⟨h.now, h.held, h.shedLine, h.key, h.zones, h.saturationTime, h.plant, h.cond, h.port, h.pending,
    congrArg (fun o : OpControl => { o with configChanged := true }) h.op, h.tuning, h.pollTick, h.recs, h.still⟩

/-- R93: the state with the new definition, before the capacity is written. -/
def State.withDefn (s : State) (d : PlantDef) : State := s.setPlant { s.plant with defn := d }

/-- R75, R91, R93: what an accepted PLANT_DEF leaves. -/
theorem State.definePlant_effects {s u : State} {d : PlantDef} (hu : u = (s.withDefn d).refreshHeat.configChange) :
    ShareSide (s.withDefn d).configChange u ∧ u.arb.heat.capacity = (s.withDefn d).heatCapacity ∧
    u.arb.cool.capacity = s.arb.cool.capacity ∧
    (s.arb.heat.grants = [] → s.arb.heat.claims = [] → u =
      ((s.withDefn d).setArb { s.arb with heat := { s.arb.heat with capacity := u.arb.heat.capacity } }).configChange) := by
  have written : u.arb.heat.capacity = (s.withDefn d).heatCapacity := by
    rw [hu]
    exact State.writeCapacity_capacity _ .heat _
  refine ⟨hu ▸ (ShareSide.refreshHeat _).configChange, written, ?_, fun grants claims => ?_⟩
  · rw [hu]
    exact State.refreshHeat_cool (s.withDefn d)
  · have quiet : ((s.withDefn d).arb.pool .heat).quietAt (s.withDefn d).heatCapacity :=
      ⟨claims, by show (s.arb.heat.grants.map Grant.units).sum ≤ _; simp [grants]⟩
    rw [written, hu]
    exact congrArg State.configChange (State.writeCapacity_quiet quiet)

/-- Settles O13: the fields give the definition; the capacity write tells nobody where the HEAT pool is empty. -/
theorem plantDefinition : Obligations.PlantDefinition := by
  refine fun s tag a hf hc => ⟨fun h => ?_, fun h => ?_⟩
  · obtain ⟨compressor, auxHeater, intake, check, nco, nax, nik⟩ := checkPlantDef_ok h
    generalize hu : (s.untagged.withDefn (plantDefOf a compressor auxHeater intake)).refreshHeat.configChange = u
    obtain ⟨share, heat, cool, empty⟩ := State.definePlant_effects hu.symm
    obtain ⟨t, he, ok, ht, hp⟩ := State.clears_accepted s u .plantDef tag (plantDefPayload a) hf rfl
      (State.takesConfiguration_includes .plantDef hc rfl) rfl
      ((State.plantDef_owner _ _ a).trans (by rw [State.takePlantDef, check, ← hu]; rfl)) share.port
    have share := share.setPort t.port
    rw [← ht] at share
    have defn : t.plant.defn = plantDefOf a compressor auxHeater intake := share.defn
    have arb : t.arb = u.arb := by rw [ht]; rfl
    refine ⟨t, he, ok, ?_, ?_, ?_, ?_, ?_, arb ▸ cool, hp, ?_, fun grants claims => ?_⟩
    · rw [defn]; rfl
    · rw [defn]; exact nco
    · rw [defn]; exact nax
    · rw [defn]; exact nik
    · rw [arb, heat]; rfl
    · rw [defn]; exact share
    · rw [defn, arb]
      exact ht.trans (congrArg (State.setPort · t.port) (empty grants claims))
  · exact State.clears_badArgument s .plantDef tag (plantDefPayload a) hf rfl
      (State.takesConfiguration_includes .plantDef hc rfl) rfl
      ((State.plantDef_owner _ _ a).trans (withField_none _ (checkPlantDef_bad h)))

end Sys2Proof.Machine
end

section
/-! SUPPORT for O16, O34 and O44. An URGENT command stands through requests for others, which displace NORMAL entries alone;
so the MOVE of a plant node that one role alone names stands through the notices of an arbiter event (R69, R133, R135, R136,
R138). -/
namespace Sys2Proof.Machine

/-- R135: the command, with such an argument, is queued URGENT for the node or for all, or in flight. -/
def State.urgent (s : State) (m : Option NodeId) (c : Command) (P : Nat → Prop) : Prop :=
  (∃ e ∈ s.nodes.queue, e.node = m ∧ e.cmd = c ∧ P e.argument ∧ e.urgent = true) ∨
  ∃ x, s.line.inFlight = some x ∧ x.node = m ∧ x.cmd = c ∧ P x.argument

/-- R135: so a MOVE for the node. -/
abbrev State.urgentMove (s : State) (n : NodeId) (a : Nat) : Prop := s.urgent (some n) .move (· = a)

theorem State.urgentMove.askedMove {s : State} {n : NodeId} {a : Nat} (h : s.urgentMove n a) : s.askedMove n a := by
  rcases h with ⟨e, he, hn, hc, ha, _⟩ | ⟨x, hx, rest⟩
  · exact .inl ⟨e, he, hn, hc, ha⟩
  · exact .inr ⟨x, Line.inFlight_txn hx, rest⟩

theorem State.urgent.broadcastAsked {s : State} {c : Command} {P : Nat → Prop} (h : s.urgent none c P) : s.broadcastAsked c := by
  rcases h with ⟨e, he, hn, hc, _⟩ | ⟨x, hx, hn, hc, _⟩
  · exact .inl ⟨e, he, hn, hc⟩
  · exact .inr ⟨x, Line.inFlight_txn hx, hn, hc⟩

theorem State.urgent.mono {s : State} {m : Option NodeId} {c : Command} {P Q : Nat → Prop} (h : s.urgent m c P)
    (i : ∀ a, P a → Q a) : s.urgent m c Q := by
  rcases h with ⟨e, he, hn, hc, ha, hu⟩ | ⟨x, hx, hn, hc, ha⟩
  · exact .inl ⟨e, he, hn, hc, i _ ha, hu⟩
  · exact .inr ⟨x, hx, hn, hc, i _ ha⟩

theorem State.urgent.congr {s t : State} {m : Option NodeId} {c : Command} {P : Nat → Prop} (h : s.urgent m c P)
    (queue : t.nodes.queue = s.nodes.queue) (line : t.line = s.line) : t.urgent m c P := by
  unfold State.urgent
  rw [queue, line]
  exact h

/-! ## One request (R133, R136, R138) -/

theorem State.tellRefused_queue (s : State) (n : NodeId) (c : Command) (o : Origin) :
    (s.tellRefused n c o).nodes.queue = s.nodes.queue := by
  unfold State.tellRefused
  repeat' split
  all_goals rfl

theorem State.refuseEntry_queue (s : State) (e : Entry) : (s.refuseEntry e).nodes.queue = s.nodes.queue := by
  unfold State.refuseEntry
  split
  · rfl
  · rename_i n _
    generalize e.origin :: e.absorbed = l
    induction l generalizing s with
    | nil => rfl
    | cons o l ih => exact (ih _).trans (s.tellRefused_queue n e.cmd o)

/-- R138: a NORMAL entry is displaced. -/
theorem removeLastNormal_normal {v : Entry} {q r : List Entry} (h : removeLastNormal q = some (v, r)) : v.urgent = false := by
  unfold removeLastNormal at h
  dsimp only at h
  split at h
  · simp at h
  · rename_i w rest hd
    obtain ⟨rfl, rfl⟩ := Prod.mk.injEq _ _ _ _ ▸ Option.some.inj h
    have := List.head_dropWhile_not (·.urgent) (l := q.reverse) (by rw [hd]; simp)
    simpa [hd] using this

/-- R138: an URGENT entry is not the one displaced. -/
theorem removeLastNormal_urgent {v x : Entry} {q r : List Entry} (h : removeLastNormal q = some (v, r)) (hx : x ∈ q)
    (hu : x.urgent = true) : x ∈ r := by
  have normal := removeLastNormal_normal h
  unfold removeLastNormal at h
  dsimp only at h
  split at h
  · simp at h
  · rename_i w rest hd
    obtain ⟨rfl, rfl⟩ := Prod.mk.injEq _ _ _ _ ▸ Option.some.inj h
    have mem : x ∈ q.reverse.takeWhile (·.urgent) ++ q.reverse.dropWhile (·.urgent) := by
      rw [List.takeWhile_append_dropWhile]
      exact List.mem_reverse.2 hx
    rw [hd] at mem
    rcases List.mem_append.1 mem with mem | mem
    · exact List.mem_append_right _ (List.mem_reverse.2 mem)
    · rcases List.mem_cons.1 mem with rfl | mem
      · rw [normal] at hu
        simp at hu
      · exact List.mem_append_left _ (List.mem_reverse.2 mem)

/-- R136: the entry that has taken an URGENT request in is URGENT. -/
theorem coalesce_urgent {e : Entry} {q r : List Entry} (h : coalesce e q = some r) (hu : e.urgent = true) :
    ∃ old, e.same old = true ∧ { old.absorb e with urgent := true } ∈ r := by
  unfold coalesce at h
  cases hf : q.find? (e.same ·) with
  | none => simp [hf] at h
  | some old =>
    simp only [hf] at h
    refine ⟨old, List.find?_some hf, ?_⟩
    split at h
    · obtain rfl := Option.some.inj h
      exact (mem_insertEntry _ _ _).2 (.inl rfl)
    · rename_i already
      obtain rfl := Option.some.inj h
      have urgent : (old.absorb e).urgent = true := by
        rw [Entry.absorb_urgent]
        simpa [hu] using already
      refine List.mem_map.2 ⟨old, List.mem_of_find?_eq_some hf, ?_⟩
      rw [if_pos (List.find?_some hf)]
      exact congrArg (fun u => { old.absorb e with urgent := u }) urgent

theorem State.urgent.handOver {s : State} {m : Option NodeId} {c : Command} {P : Nat → Prop} (h : s.urgent m c P) :
    s.handOver.urgent m c P := by
  rcases s.handOver_cases with e | ⟨idle, p, e, r, hq, ht⟩
  · rwa [e]
  · rw [ht]
    rcases h with ⟨x, hx, hn, hc, ha, hu⟩ | ⟨x, hx, _⟩
    · rw [hq] at hx
      rcases List.mem_append.1 hx with hx | hx
      · exact .inl ⟨x, List.mem_append_left _ hx, hn, hc, ha, hu⟩
      · rcases List.mem_cons.1 hx with rfl | hx
        · exact .inr ⟨_, rfl, hn, hc, ha⟩
        · exact .inl ⟨x, List.mem_append_right _ hx, hn, hc, ha, hu⟩
    · rw [Line.inFlight_idle _ idle] at hx
      simp at hx

/-- R133, R138: a request for another node, or of another command, leaves it standing. -/
theorem State.urgent.joinQueue {s : State} {m : Option NodeId} {c : Command} {P : Nat → Prop} {e : Entry} (h : s.urgent m c P)
    (other : ¬ (e.node = m ∧ e.cmd = c)) : (s.joinQueue e).urgent m c P := by
  have differs (y : Entry) (hn : y.node = m) (hc : y.cmd = c) : e.same y = false :=
    Bool.eq_false_iff.2 fun hs => other (by rw [← hn, ← hc]; exact (Entry.same_iff e y).1 hs)
  have j := s.joinQueue_joins e
  generalize s.joinQueue e = t at j
  cases j with
  | entry old q _ _ heq =>
    rcases h with ⟨y, hy, hn, hc, rest⟩ | h
    · exact .inl ⟨y, (mem_coalesce heq).1 y hy (differs y hn hc), hn, hc, rest⟩
    · exact .inr h
  | flight x fl _ _ _ _ =>
    rcases h with h | ⟨y, hy, rest⟩
    · exact .inl h
    · obtain rfl : x = y := Option.some.inj (fl.symm.trans hy)
      exact .inr ⟨_, Line.inFlight_withTxn fl _, rest⟩
  | place _ _ =>
    rcases h with ⟨y, hy, rest⟩ | h
    · exact .inl ⟨y, (mem_insertEntry _ _ _).2 (.inr hy), rest⟩
    · exact .inr h
  | displaces v q _ _ heq _ =>
    rcases h with ⟨y, hy, hn, hc, ha, hu⟩ | h
    · exact .inl ⟨y, (mem_insertEntry _ _ _).2 (.inr (removeLastNormal_urgent heq hy hu)), hn, hc, ha, hu⟩
    · refine .inr ?_
      show ∃ x, (s.refuseEntry v).line.inFlight = some x ∧ _
      rwa [State.refuseEntry_line]
  | refused _ _ _ _ => exact h.congr (s.refuseEntry_queue e) (s.refuseEntry_line e)

theorem State.urgent.request {s : State} {m : Option NodeId} {c : Command} {P : Nat → Prop} {e : Entry} (h : s.urgent m c P)
    (other : ¬ (e.node = m ∧ e.cmd = c)) : (s.request e).urgent m c P := (h.joinQueue other).handOver

/-- R135, R136: an URGENT MOVE or HALT that is taken in stands so. -/
theorem State.request_urgent {s : State} {e : Entry} (hu : e.urgent = true) (kind : e.cmd = .move ∨ e.cmd = .halt)
    (h : (∃ y ∈ s.nodes.queue, y.node = e.node ∧ y.cmd = e.cmd) ∨ s.takesUrgent) :
    (s.request e).urgent e.node e.cmd (fun a => e.cmd = .move → a = e.argument) := by
  refine State.urgent.handOver ?_
  have j := s.joinQueue_joins e
  generalize s.joinQueue e = t at j
  cases j with
  | entry old q _ _ heq =>
    obtain ⟨y, same, mem⟩ := coalesce_urgent heq hu
    obtain ⟨node, cmd⟩ := (Entry.same_iff e y).1 same
    refine .inl ⟨_, mem, (Entry.absorb_node y e).trans node.symm, (Entry.absorb_cmd y e).trans cmd.symm,
      fun move => ?_, rfl⟩
    simp [Entry.absorb, move]
  | flight x fl node cmd flying _ => rcases kind with k | k <;> simp [k] at flying
  | place _ _ => exact .inl ⟨e, (mem_insertEntry _ _ _).2 (.inl rfl), rfl, rfl, fun _ => rfl, hu⟩
  | displaces v q _ _ _ _ => exact .inl ⟨e, (mem_insertEntry _ _ _).2 (.inl rfl), rfl, rfl, fun _ => rfl, hu⟩
  | refused full all none _ =>
    exfalso
    have full' : 16 ≤ s.nodes.queue.length := full
    rcases h with ⟨y, hy, h1, h2⟩ | (h | ⟨y, hy, normal⟩)
    · have := none y hy
      rw [(Entry.same_iff e y).2 ⟨h1.symm, h2.symm⟩] at this
      simp at this
    · omega
    · have gone := all hu
      unfold removeLastNormal at gone
      dsimp only at gone
      split at gone
      · rename_i dropped
        have := List.dropWhile_eq_nil_iff.1 dropped y (List.mem_reverse.2 hy)
        rw [normal] at this
        simp at this
      · simp at gone

/-! ## The MOVEs of the notices (R22, R69, R80, R96) -/

theorem State.urgentMove.askMove {s : State} {n m : NodeId} {a b : Nat} {o : Origin} (h : s.urgentMove n a) (hm : m ≠ n) :
    (s.askMove m b o).urgentMove n a := by
  unfold State.askMove
  split <;> first
    | exact h.request (by simp [hm])
    | exact h

theorem State.urgentMove.moveTo {s : State} {n : NodeId} {m : Option NodeId} {a b : Nat} {o : Origin}
    (h : s.urgentMove n a) (hm : m ≠ some n) : (s.moveTo m b o).urgentMove n a := by
  unfold State.moveTo
  split
  · exact h
  · split
    · exact h
    · exact h.askMove fun e => hm (by rw [e])

theorem State.urgentMove.plantMove {s : State} {n : NodeId} {m : Option NodeId} {a b : Nat} {o : Origin}
    (h : s.urgentMove n a) (hm : m ≠ some n) : (s.plantMove m b o).urgentMove n a := by
  unfold State.plantMove
  split
  · exact h
  · exact h.askMove fun e => hm (by rw [e])

/-- No active zone names the node as an actuator. -/
def State.noZoneNames (s : State) (n : NodeId) : Prop :=
  ∀ z, (s.zone z).active = true → (s.zone z).blower ≠ some n ∧ (s.zone z).valve ≠ some n ∧ (s.zone z).damper ≠ some n

theorem State.urgentMove.zoneTargets {s : State} {n : NodeId} {a : Nat} (h : s.urgentMove n a) (k : s.noZoneNames n)
    (z : Zone) : (s.zoneTargets z).urgentMove n a := by
  unfold State.zoneTargets
  dsimp only
  split
  · rename_i run
    obtain ⟨blower, valve, damper⟩ := k z run.2
    exact ((h.moveTo blower).moveTo valve).moveTo damper
  · exact h

theorem State.noZoneNames.congr {s t : State} {n : NodeId} (h : s.noZoneNames n) (zones : t.zones = s.zones) :
    t.noZoneNames n := by
  unfold State.noZoneNames State.zone
  rw [zones]
  exact h

theorem State.urgentMove.grantNotices {s : State} {n : NodeId} {a : Nat} (h : s.urgentMove n a) (k : s.noZoneNames n)
    (b : Arbiter) (z : Option Zone) : (s.grantNotices b z).urgentMove n a := by
  rw [State.grantNotices_eq]
  generalize allZones.filter _ = l
  induction l generalizing s with
  | nil => exact h
  | cons y l ih => exact ih (h.zoneTargets k y) (k.congr (NodeSide.zoneTargets s y).zones)

/-- The notices ask nothing of this plant node: it is not the compressor, or the sequencer does not rise. -/
def State.compressorSpared (s : State) (n : NodeId) : Prop := s.plant.defn.compressor ≠ some n ∨ s.plant.seq.state.deaf
/-- It is not the aux heater, or the heater is not OFF. -/
def State.heaterSpared (s : State) (n : NodeId) : Prop := s.plant.defn.auxHeater ≠ some n ∨ s.plant.heater.state ≠ .off

theorem State.urgentMove.seqRise {s : State} {n : NodeId} {a : Nat} (h : s.urgentMove n a) (k : s.compressorSpared n) :
    s.seqRise.urgentMove n a := by
  rcases k with node | deaf
  · unfold State.seqRise
    split
    · split
      · exact (h.plantMove node).congr rfl rfl
      · exact h
    · split
      · exact (h.plantMove node).congr rfl rfl
      · exact h
    · exact h
  · rwa [State.seqRise_deaf deaf]

theorem State.urgentMove.heaterStart {s : State} {n : NodeId} {a : Nat} (h : s.urgentMove n a) (k : s.heaterSpared n) :
    s.heaterStart.urgentMove n a := by
  unfold State.heaterStart
  split
  · rename_i start
    rcases k with node | busy
    · exact (h.plantMove node).congr rfl rfl
    · exact absurd start.1 busy
  · exact h

theorem State.urgentMove.testHold {s : State} {n : NodeId} {a : Nat} (h : s.urgentMove n a) : s.testHold.urgentMove n a := by
  unfold State.testHold
  repeat' split
  all_goals exact h.congr rfl rfl

theorem State.urgentMove.testStopDelay {s : State} {n : NodeId} {a : Nat} (h : s.urgentMove n a) :
    s.testStopDelay.urgentMove n a := by
  unfold State.testStopDelay
  repeat' split
  all_goals exact h.congr rfl rfl

theorem State.urgentMove.hearHeat {s : State} {n : NodeId} {a : Nat} (h : s.urgentMove n a) (k : s.heaterSpared n)
    (b : Arbiter) : (s.hearHeat b).urgentMove n a := by
  have viewed : (s.setPlant { s.plant with viewHeat := s.arb.heat.view }).urgentMove n a := h.congr rfl rfl
  have spared : (s.setPlant { s.plant with viewHeat := s.arb.heat.view }).testStopDelay.heaterSpared n :=
    k.imp (fun node => by rwa [(ShareSide.ofPlant (PlantSide.testStopDelay _)).defn])
      (fun busy => by rwa [State.testStopDelay_state])
  unfold State.hearHeat
  dsimp only
  split
  · exact h
  · split
    · exact viewed.testStopDelay.heaterStart spared
    · exact viewed.testStopDelay

theorem State.urgentMove.hearCool {s : State} {n : NodeId} {a : Nat} (h : s.urgentMove n a) (k : s.compressorSpared n)
    (b : Arbiter) : (s.hearCool b).urgentMove n a := by
  have viewed : (s.setPlant { s.plant with viewCool := s.arb.cool.view }).urgentMove n a := h.congr rfl rfl
  have spared : (s.setPlant { s.plant with viewCool := s.arb.cool.view }).testHold.compressorSpared n :=
    k.imp (fun node => by rwa [(ShareSide.ofPlant (PlantSide.testHold _)).defn]) (fun deaf => by rwa [State.testHold_state])
  unfold State.hearCool
  dsimp only
  split
  · exact h
  · split
    · exact viewed.testHold.seqRise spared
    · exact viewed.testHold

/-- R69: the notices of a capacity write leave the MOVE standing. -/
theorem State.urgentMove.writeCapacity {s : State} {n : NodeId} {a : Nat} (h : s.urgentMove n a) (zones : s.noZoneNames n)
    (heater : s.heaterSpared n) (compressor : s.compressorSpared n) (i : PoolId) (v : Nat) :
    (s.writeCapacity i v).urgentMove n a := by
  unfold State.writeCapacity
  split
  · exact h
  · rw [State.arbiterEvent, State.notices]
    generalize s.arb.writeCapacity i v s.claimRankOf s.now = b
    have written : (s.setArb b).urgentMove n a := h.congr rfl rfl
    have told : ((s.setArb b).grantNotices s.arb none).plant = s.plant := State.grantNotices_plant _ _ _
    have heaterTold : ((s.setArb b).grantNotices s.arb none).heaterSpared n := by rwa [State.heaterSpared, told]
    have compressorTold : (((s.setArb b).grantNotices s.arb none).hearHeat s.arb).compressorSpared n := by
      rw [State.compressorSpared, State.hearHeat_seq, (ShareSide.ofPlant (PlantSide.hearHeat _ _)).defn, told]
      exact compressor
    exact ((written.grantNotices (zones.congr rfl) _ _).hearHeat heaterTold _).hearCool compressorTold _

/-! ## The node that one plant role alone names (R127, R156) -/

/-- Where one role alone names a node, and the plant definition names it, no zone does. -/
theorem State.noZoneNames_of_sole {s : State} {n : NodeId} (sole : (s.rolesOf n).length ≤ 1)
    (named : 1 ≤ (s.plant.defn.rolesOf n).length) : s.noZoneNames n := by
  intro z active
  have flat : (allZones.map (fun z => (s.zone z).rolesOf z n)).flatten = [] := by
    rw [State.rolesOf, List.length_append] at sole
    exact List.length_eq_zero_iff.1 (by omega)
  have roles : (s.zone z).rolesOf z n = [] :=
    List.flatten_eq_nil_iff.1 flat _ (List.mem_map.2 ⟨z, mem_allZones z, rfl⟩)
  rw [ZoneRec.rolesOf, if_pos active] at roles
  refine ⟨fun e => ?_, fun e => ?_, fun e => ?_⟩ <;> simp [e] at roles

theorem State.sole_compressor {s : State} {n : NodeId} (sole : (s.rolesOf n).length ≤ 1)
    (named : s.plant.defn.compressor = some n) : s.noZoneNames n ∧ s.plant.defn.auxHeater ≠ some n := by
  refine ⟨State.noZoneNames_of_sole sole (by simp [PlantDef.rolesOf, named]), fun e => ?_⟩
  simp [State.rolesOf, PlantDef.rolesOf, named, e] at sole
  omega

theorem State.sole_heater {s : State} {n : NodeId} (sole : (s.rolesOf n).length ≤ 1)
    (named : s.plant.defn.auxHeater = some n) : s.noZoneNames n ∧ s.plant.defn.compressor ≠ some n := by
  refine ⟨State.noZoneNames_of_sole sole (by simp [PlantDef.rolesOf, named]; omega), fun e => ?_⟩
  simp [State.rolesOf, PlantDef.rolesOf, named, e] at sole
  omega

/-- R135, R139: the MOVE of a READY or STARTING plant node that is taken in is URGENT. -/
theorem State.askMove_urgent {s : State} {n : NodeId} {role : PlantRole} {a : Nat} {o : Origin}
    (bound : (s.node n).binding = some (.plant role)) (state : (s.node n).state ∈ [NodeState.ready, .starting])
    (taken : s.takesIn n .move ∨ s.takesUrgent) : (s.askMove n a o).urgentMove n a := by
  have urgent : s.plantBound n = true := by rw [State.plantBound, bound]
  rw [State.askMove_queued state]
  have place : (∃ y ∈ s.nodes.queue, y.node = some n ∧ y.cmd = .move) ∨ s.takesUrgent := by
    rcases taken with (queued | ⟨_, flying⟩ | room) | free
    · exact .inl ((s.queued_iff n .move).1 queued)
    · simp at flying
    · exact .inr (.inl room)
    · exact .inr free
  exact (State.request_urgent (e := s.moveEntry n a o) urgent (.inl rfl) place).mono fun _ same => same rfl

end Sys2Proof.Machine
end

section
/-! SETTLES O34. What the plant timers do as they expire (R80, R83 to R85, R87, R99, R100, R102, R103). -/
namespace Sys2Proof.Machine

/-! ## A stage is shed (R82 to R84) -/

/-- R82, R84: the state and the MOVE of a shed stage, before COOL capacity is written. -/
def State.stageLeft (s : State) (k : Nat) : State :=
  (s.plantMove s.plant.defn.compressor (k - 1) .plant).enterSeq (if 2 ≤ k then .stepDown k else .disengaging)

theorem State.shedStage_eq (s : State) (k : Nat) : s.shedStage k = (s.stageLeft k).refreshCool := by
  unfold State.shedStage State.stageLeft
  split
  · rfl
  · have last : k - 1 = 0 := by omega
    rw [last]

theorem State.stageLeft_deaf (s : State) (k : Nat) : (s.stageLeft k).plant.seq.state.deaf := by
  show Seq.deaf (if 2 ≤ k then .stepDown k else .disengaging)
  split <;> exact ⟨nofun, nofun⟩

theorem PlantSide.stageLeft (s : State) (k : Nat) : PlantSide s (s.stageLeft k) :=
  (PlantSide.plantMove s _ _ _).trans (PlantSide.enterSeq _ _)

theorem State.shedStage_asks {s : State} {n : NodeId} {k : Nat} (hn : s.plant.defn.compressor = some n)
    (ready : (s.node n).state = .ready) (taken : s.takesIn n .move)
    (h : (s.arb.cool.quietAt (s.shedStage k).arb.cool.capacity) ∨ s.solePlant n .compressor) :
    (s.shedStage k).askedMove n (k - 1) := by
  have side := PlantSide.stageLeft s k
  rw [State.shedStage_eq] at h ⊢
  rcases h with quiet | ⟨bound, sole⟩
  · have asked : (s.stageLeft k).askedMove n (k - 1) := State.plantMove_asks hn ready taken _ _
    have held : (s.stageLeft k).refreshCool.arb.cool.capacity = (s.stageLeft k).coolCapacity :=
      State.writeCapacity_capacity _ .cool _
    rw [held] at quiet
    rw [State.refreshCool, State.writeCapacity_quiet (i := .cool) (by rw [side.arb]; exact quiet)]
    exact asked
  · obtain ⟨zones, heater⟩ := State.sole_compressor sole hn
    have asked : (s.plantMove s.plant.defn.compressor (k - 1) .plant).urgentMove n (k - 1) := by
      rw [hn]
      exact State.askMove_urgent bound (by simp [ready]) (.inl taken)
    have left : (s.stageLeft k).urgentMove n (k - 1) := asked.congr rfl rfl
    exact (left.writeCapacity (zones.congr side.zones) (.inl (by rwa [(ShareSide.ofPlant side).defn]))
      (.inr (s.stageLeft_deaf k)) _ _).askedMove

theorem State.shedStage_shed {s : State} (ready : s.compressorReady = true) (k : Nat) : stageShed s k (s.shedStage k) :=
  ⟨ShareSide.shedStage s k, s.shedStage_seq k, s.shedStage_written k, fun _ hn taken h =>
    State.shedStage_asks hn (State.readyNode_ready hn ready) taken h⟩

/-! ## The lockout ends (R80, R85) -/

/-- R85: the sequencer record in OFF, as a lockout ends. -/
def Sequencer.unlocked (q : Sequencer) : Sequencer :=
  { q with state := .off, holdTimer := none, holdMet := false, lockoutTimer := none, pollTimer := none, checkAsked := false }

theorem State.enterSeq_off (s : State) : s.enterSeq .off = s.setSequencer s.plant.seq.unlocked := by
  simp [State.enterSeq, Sequencer.unlocked]

theorem State.lockoutEnds {s u : State} (hu : u = s.setSequencer s.plant.seq.unlocked) :
    (1 ≤ u.allowedStages → u.plant.viewCool.nonEmpty = true → u.compressorReady = true →
      NodeSide (u.setSequencer { u.plant.seq with state := .engaging }) (s.enterSeq .off).seqDecide ∧
      ∀ n, u.plant.defn.compressor = some n → u.takesIn n .move → (s.enterSeq .off).seqDecide.askedMove n 1) ∧
    (¬ (1 ≤ u.allowedStages ∧ u.plant.viewCool.nonEmpty = true ∧ u.compressorReady = true) →
      (s.enterSeq .off).seqDecide = u) := by
  have off : u.plant.seq.state = .off := by rw [hu]; rfl
  have decided : (s.enterSeq .off).seqDecide = u.seqRise := by
    rw [State.enterSeq_off, ← hu, State.seqDecide, off]
  rw [decided]
  constructor
  · intro allowed waits ready
    have entered : u.enterSeq .engaging = u.setSequencer { u.plant.seq with state := .engaging } := by
      rw [hu]
      simp [State.enterSeq, State.setSequencer, Sequencer.unlocked]
    obtain ⟨side, asks⟩ := State.seqRise_rises rfl entered (k := 1)
    rw [State.seqRise_engages off allowed waits ready]
    exact ⟨side, asks ready⟩
  · intro barred
    unfold State.seqRise
    simp only [off]
    exact if_neg barred

/-! ## The polls (R87, R100) -/

theorem State.steadyStatus_polled (s : State) (node : Option NodeId) : steadyPolled s node (s.steadyStatus node) := by
  refine ⟨fun n hn ready => ⟨NodeSide.steadyStatus s node, fun taken => ?_⟩, fun unready => ?_⟩
  · subst hn
    have asks : s.steadyStatus (some n) = s.request ⟨some n, .status, 0, false, .plant, []⟩ := by
      rw [State.steadyStatus, if_pos ready, State.askStatus, ready]
    rw [asks, State.asked_iff_stands]
    exact (State.request_stands rfl taken).mono fun _ _ _ _ _ mark => ⟨mark.1, mark.2.1⟩
  · unfold State.steadyStatus
    split
    · rfl
    · exact if_neg (unready _ rfl)

/-! ## The heater (R96, R99, R102, R103) -/

theorem State.auxReady_iff (s : State) :
    s.auxReady = true ↔ ∃ n, s.plant.defn.auxHeater = some n ∧ (s.node n).state = .ready := by
  unfold State.auxReady State.readyNode
  cases s.plant.defn.auxHeater <;> simp

/-- R99: the heater enters OFF, and the start decision follows. -/
theorem State.enterHeater_offOrStarted (s : State) : offOrStarted s s.plant.heater (s.enterHeater .off).heaterStart := by
  have ready : (s.enterHeater .off).auxReady = true ↔ ∃ n, s.plant.defn.auxHeater = some n ∧ (s.node n).state = .ready :=
    State.auxReady_iff _
  constructor
  · rintro permit run ⟨node, waits⟩
    have start : (s.enterHeater .off).heaterStart =
        ((s.enterHeater .off).plantMove s.plant.defn.auxHeater 1 .plant).enterHeater .igniting :=
      if_pos ⟨rfl, permit, run, ready.2 node, waits⟩
    rw [start]
    refine ⟨(NodeSide.plantMove (s.enterHeater .off) _ 1 .plant).enterHeater .igniting, fun n hn taken => ?_⟩
    obtain ⟨m, hm, state⟩ := node
    obtain rfl : m = n := Option.some.inj (hm.symm.trans hn)
    exact State.plantMove_asks (s := s.enterHeater .off) hn state taken 1 .plant
  · rintro barred
    refine if_neg ?_
    rintro ⟨_, permit, run, node, waits⟩
    exact barred ⟨permit, run, ready.1 node, waits⟩

/-- R69: a heater in neither OFF nor RUNNING hears nothing in a HEAT notice. -/
theorem State.writeCapacity_heaterDeaf {s : State} (i : PoolId) (v : Nat) (off : s.plant.heater.state ≠ .off)
    (running : s.plant.heater.state ≠ .running) : (s.writeCapacity i v).plant.heater = s.plant.heater := by
  unfold State.writeCapacity
  split
  · rfl
  · generalize s.arb.writeCapacity i v s.claimRankOf s.now = a
    have told : ((s.setArb a).grantNotices s.arb none).plant = s.plant := State.grantNotices_plant _ _ _
    rw [State.arbiterEvent, State.notices, State.hearCool_heater]
    by_cases view : s.arb.heat.view = ((s.setArb a).grantNotices s.arb none).arb.heat.view
    · rw [State.hearHeat, if_pos view, told]
    · rw [State.hearHeat_still view (by rwa [told]) (fun h => off (told ▸ h.1))]
      have heard : ((s.setArb a).grantNotices s.arb none).plant.heater = s.plant.heater := congrArg Plant.heater told
      exact heard

/-- R103: the MOVE 0 and STOPPING, before HEAT capacity is written. -/
def State.heaterLeft (s : State) : State :=
  (s.plantMove s.plant.defn.auxHeater 0 .plant).enterHeater .stopping

theorem PlantSide.heaterLeft (s : State) : PlantSide s s.heaterLeft :=
  (PlantSide.plantMove s _ _ _).trans (PlantSide.enterHeater _ _)

theorem State.heaterLeft_heater (s : State) : s.heaterLeft.plant.heater = s.plant.heater.still .stopping := by
  show Heater.still (s.plantMove s.plant.defn.auxHeater 0 .plant).plant.heater .stopping = _
  rw [State.plantMove_plant]

theorem State.heaterStop_asks {s : State} {n : NodeId} (hn : s.plant.defn.auxHeater = some n)
    (ready : (s.node n).state = .ready) (taken : s.takesIn n .move)
    (h : (s.arb.heat.grants = [] ∧ s.arb.heat.claims = []) ∨ s.solePlant n .auxHeater) :
    s.heaterLeft.refreshHeat.askedMove n 0 := by
  have side := PlantSide.heaterLeft s
  rcases h with ⟨grants, claims⟩ | ⟨bound, sole⟩
  · have asked : s.heaterLeft.askedMove n 0 := State.plantMove_asks hn ready taken _ _
    have quiet : (s.heaterLeft.arb.pool .heat).quietAt s.heaterLeft.heatCapacity := by
      rw [side.arb]
      exact ⟨claims, by show (s.arb.heat.grants.map Grant.units).sum ≤ _; simp [grants]⟩
    rw [State.refreshHeat, State.writeCapacity_quiet quiet]
    exact asked
  · obtain ⟨zones, compressor⟩ := State.sole_heater sole hn
    have asked : (s.plantMove s.plant.defn.auxHeater 0 .plant).urgentMove n 0 := by
      rw [hn]
      exact State.askMove_urgent bound (by simp [ready]) (.inl taken)
    have left : s.heaterLeft.urgentMove n 0 := asked.congr rfl rfl
    exact (left.writeCapacity (zones.congr side.zones)
      (.inr (by rw [State.heaterLeft_heater]; simp [Heater.still]))
      (.inl (by rwa [(ShareSide.ofPlant side).defn])) _ _).askedMove

/-- R103: a running heater is stopped. -/
theorem State.heaterStop_stopped {s : State} (running : s.plant.heater.state = .running) :
    heaterStopped s s.plant.heater s.heaterStop := by
  have stop : s.heaterStop = s.heaterLeft.refreshHeat := by
    rw [State.heaterStop, running]
    rfl
  have stopping : s.heaterLeft.plant.heater.state = .stopping := by
    rw [State.heaterLeft_heater]
    rfl
  have left := ShareSide.ofPlant (PlantSide.heaterLeft s)
  rw [stop]
  refine ⟨left.trans (ShareSide.refreshHeat _), ?_, ?_, fun n hn ready taken h => State.heaterStop_asks hn ready taken h⟩
  · rw [State.refreshHeat, State.writeCapacity_heaterDeaf _ _ (by simp [stopping]) (by simp [stopping]),
      State.heaterLeft_heater]
  · have written : s.heaterLeft.refreshHeat.arb.heat.capacity = s.heaterLeft.heatCapacity :=
      State.writeCapacity_capacity _ .heat _
    rw [written, State.heatCapacity, Plant.coolantOnly, left.defn, left.coolant, if_neg (by simp [stopping])]
    rfl

/-! ## The obligation -/

/-- The expiry of a timer that runs, in a part that is not held. -/
theorem State.answer_expires {s : State} {d : Time} (h : s.held = false) (timer : State → Timer) (f : State → State)
    (ht : timer s = some d) : s.answer (fun s => s.expire (timer s) f) = .next (f (s.reach d)) := by
  rw [State.answer_free _ h, ht]
  rfl

theorem State.answer_stopped {s : State} (h : s.held = false) (timer : State → Timer) (f : State → State)
    (ht : timer s = none) : s.answer (fun s => s.expire (timer s) f) = .next s := by
  rw [State.answer_free _ h, ht]
  rfl

/-- Settles O34: each timer by its handler, and a stopped one changes nothing. -/
theorem plantTimersExpire : Obligations.PlantTimersExpire := by
  intro s h
  refine ⟨State.answer_stopped h (·.plant.seq.minRunTimer) _, State.answer_stopped h (·.plant.seq.holdTimer) _,
    State.answer_stopped h (·.plant.seq.lockoutTimer) _, fun d u ht hu => ?_, fun d u ht hu => ?_, fun d u ht hu => ?_,
    State.answer_stopped h (·.plant.seq.pollTimer) _, State.answer_stopped h (·.plant.heater.flamePollTimer) _,
    State.answer_stopped h (·.plant.heater.igniteWaitTimer) _, State.answer_stopped h (·.plant.heater.stopDelayTimer) _,
    fun d u ht hu => ?_, fun d u ht hu => ?_, fun d ht => ?_, fun d ht running => ?_⟩
  · have event : exec .minimumRunExpiry s = .next (s.reach d).minRunExpiry :=
      State.answer_expires h (·.plant.seq.minRunTimer) _ ht
    have shed : (s.reach d).minRunExpiry = if u.plant.seq.state = .running 1 ∧ u.plant.seq.holdMet = true ∧
        u.compressorReady = true then u.shedStage 1 else u := by
      rw [hu]
      rfl
    have same : u.plant.seq.state = s.plant.seq.state ∧ u.plant.seq.holdMet = s.plant.seq.holdMet ∧
        u.compressorReady = s.compressorReady := by
      rw [hu]
      exact ⟨rfl, rfl, rfl⟩
    obtain ⟨state, met, ready⟩ := same
    rw [state, met, ready] at shed
    refine ⟨_, event, fun r m c => ?_, fun barred => shed.trans (if_neg barred)⟩
    rw [shed, if_pos ⟨r, m, c⟩]
    exact State.shedStage_shed (ready.trans c) 1
  · have event : exec .stageDownHoldExpiry s = .next (s.reach d).holdDone :=
      State.answer_expires h (·.plant.seq.holdTimer) _ ht
    have state : u.plant.seq.state = s.plant.seq.state := by rw [hu]
    have ready : u.compressorReady = s.compressorReady := by rw [hu]; rfl
    have expired : u.plant.seq.minRunExpired = s.plant.seq.minRunExpired := by rw [hu]
    have done : (s.reach d).holdDone = match u.plant.seq.state with
        | .running k =>
          if u.compressorReady = true ∧ (2 ≤ k ∨ u.plant.seq.minRunExpired = true) then u.shedStage k
          else u.setSequencer { u.plant.seq with holdMet := true }
        | _ => u := by
      rw [hu]
      rfl
    rw [state, ready, expired] at done
    refine ⟨_, event, fun k running => ⟨fun c out => ?_, fun barred => ?_⟩, fun still => ?_⟩
    · rw [done, running]
      simp only [if_pos (And.intro c out)]
      exact State.shedStage_shed (ready.trans c) k
    · rw [done, running]
      exact if_neg barred
    · rw [done]
      split
      · exact absurd ‹_› (still _)
      · rfl
  · have event : exec .lockoutExpiry s = .next ((s.reach d).enterSeq .off).seqDecide :=
      State.answer_expires h (·.plant.seq.lockoutTimer) (fun s => (s.enterSeq .off).seqDecide) ht
    obtain ⟨engages, stays⟩ := State.lockoutEnds (s := s.reach d) (u := u) hu
    refine ⟨_, event, ?_, ?_⟩
    · rw [hu] at engages ⊢
      exact engages
    · rw [hu] at stays ⊢
      exact stays
  · refine ⟨_, State.answer_expires h (·.plant.seq.pollTimer) State.compressorPoll ht, ?_⟩
    rw [hu]
    exact State.steadyStatus_polled _ _
  · refine ⟨_, State.answer_expires h (·.plant.heater.flamePollTimer) State.flamePoll ht, ?_⟩
    rw [hu]
    exact State.steadyStatus_polled _ _
  · exact ⟨_, State.answer_expires h (·.plant.heater.igniteWaitTimer) (fun s => (s.enterHeater .off).heaterStart) ht,
      State.enterHeater_offOrStarted (s.reach d)⟩
  · exact ⟨_, State.answer_expires h (·.plant.heater.stopDelayTimer) State.heaterStop ht,
      State.heaterStop_stopped (s := s.reach d) running⟩

end Sys2Proof.Machine
end

section
/-! SETTLES O16. A COMMISSION by the outcome of the validation: the refusal, or the entry to COMMISSIONING with the work of
every configured node begun (R90, R108, R127, R156 to R159). -/
namespace Sys2Proof.Machine

/-! ## What a request leaves (R133, R136, R138) -/

/-- The record with what a refused request may leave owed as in another. -/
def NodeRec.owing (r a : NodeRec) : NodeRec :=
  { r with retryOwed := a.retryOwed, retryStep := a.retryStep, haltOwed := a.haltOwed }

theorem NodeRec.owing_self (r : NodeRec) : r.owing r = r := rfl

/-- Beside the queue and the line a request changes what is owed alone, and no work before the initial MOVE. -/
structure Asked (s t : State) : Prop where
  rest : t = { s with
    line := t.line, op := { s.op with work := t.op.work }
    nodes := { s.nodes with table := t.nodes.table, queue := t.nodes.queue } }
  recs : ∀ n, t.node n = (s.node n).owing (t.node n)
  work : ∀ n, (s.work n).moveBegun = false → t.work n = s.work n

theorem Asked.refl (s : State) : Asked s s := ⟨rfl, fun _ => rfl, fun _ _ => rfl⟩

theorem Asked.trans {s t u : State} (a : Asked s t) (b : Asked t u) : Asked s u where
  rest := by
    have hb := b.rest
    rw [a.rest] at hb
    exact hb
  recs := fun n => by
    have hb := b.recs n
    rw [a.recs n] at hb
    exact hb
  work := fun n h => by
    have ha := a.work n h
    exact (b.work n (by rw [ha]; exact h)).trans ha

theorem Asked.setQueue (s : State) (q : List Entry) : Asked s (s.setQueue q) := ⟨rfl, fun _ => rfl, fun _ _ => rfl⟩
theorem Asked.setLine (s : State) (l : Line) : Asked s (s.setLine l) := ⟨rfl, fun _ => rfl, fun _ _ => rfl⟩

theorem Asked.modNode (s : State) (n : NodeId) {f : NodeRec → NodeRec} (h : ∀ r, f r = r.owing (f r)) :
    Asked s (s.modNode n f) := by
  refine ⟨rfl, fun m => ?_, fun _ _ => rfl⟩
  rw [State.node_modNode]
  split
  · rename_i same
    rw [same]
    exact h _
  · rfl

theorem Asked.tellRefused (s : State) (n : NodeId) (c : Command) (o : Origin) : Asked s (s.tellRefused n c o) := by
  unfold State.tellRefused
  split
  · exact .modNode s n fun _ => rfl
  · exact .modNode s n fun _ => rfl
  · split
    · rename_i begun
      refine ⟨rfl, fun _ => rfl, fun m early => ?_⟩
      rw [State.work_setWork, if_neg]
      rintro rfl
      simp [early] at begun
    · exact .refl s
  · exact .modNode s n fun _ => rfl
  · exact .refl s

theorem Asked.refuseEntry (s : State) (e : Entry) : Asked s (s.refuseEntry e) := by
  unfold State.refuseEntry
  split
  · exact .refl s
  · rename_i n _
    generalize e.origin :: e.absorbed = l
    induction l generalizing s with
    | nil => exact .refl s
    | cons o l ih => exact (Asked.tellRefused s n e.cmd o).trans (ih _)

theorem Asked.request (s : State) (e : Entry) : Asked s (s.request e) := by
  have joined : Asked s (s.joinQueue e) := by
    have j := s.joinQueue_joins e
    generalize s.joinQueue e = t at j
    cases j with
    | entry old q => exact .setQueue s q
    | flight x => exact .setLine s _
    | place => exact .setQueue s _
    | displaces v q => exact (Asked.refuseEntry s v).trans (.setQueue _ _)
    | refused => exact .refuseEntry s e
  refine joined.trans (t := s.joinQueue e) ?_
  show Asked (s.joinQueue e) (s.joinQueue e).handOver
  rcases (s.joinQueue e).handOver_cases with same | ⟨_, _, _, _, _, given⟩
  · rw [same]
    exact .refl _
  · rw [given]
    exact (Asked.setQueue _ _).trans (.setLine _ _)

/-! ## The walk over the nodes (R159) -/

/-- A walk over all nodes keeps what each step keeps, told of the nodes that it has passed. -/
theorem State.eachNode_induct {f : State → NodeId → State} {s : State} {I : List NodeId → State → Prop} (start : I [] s)
    (step : ∀ p t m, (m :: p).Nodup → I p t → I (m :: p) (f t m)) : ∃ p, (∀ n, n ∈ p) ∧ I p (s.eachNode f) := by
  have walk : ∀ l p t, (l ++ p).Nodup → I p t → I (l.reverse ++ p) (l.foldl f t) := by
    intro l
    induction l with
    | nil => exact fun p t _ h => h
    | cons m l ih =>
      intro p t nodup h
      have moved : (l ++ m :: p).Nodup := List.perm_middle.symm.nodup_iff.1 nodup
      have := ih (m :: p) (f t m) moved (step p t m (List.nodup_append.1 moved).2.1 h)
      rwa [List.reverse_cons, List.append_assoc]
  refine ⟨allNodes.reverse ++ [], fun n => ?_, walk allNodes [] s (by simpa using allNodes_nodup) start⟩
  simpa using mem_allNodes n

/-- R159: the work that begins, by the node's state. -/
def NodeState.begunWork : NodeState → CommWork
  | .busy => .waitBusy
  | .fault => .idle
  | .unknown | .starting | .ready | .offline => .startUp

theorem NodeState.begunWork_early (q : NodeState) : q.begunWork.moveBegun = false := by cases q <;> rfl

/-- R159, R148: the record of a node whose work has begun. -/
def begunRecord (s : State) (r : NodeRec) : NodeRec :=
  if r.configured then
    match r.state with
    | .unknown | .ready | .offline => startRecord s r .commission 0 .wake
    | .starting => { r with cause := some .commission }
    | .busy | .fault => r
  else r

theorem begunRecord_owing (s : State) (r a c : NodeRec) : (begunRecord s (r.owing a)).owing c = (begunRecord s r).owing c := by
  obtain ⟨configured⟩ := r
  cases configured with
  | false => rfl
  | true =>
    rename_i state _ _ _ _ _ _ _ _ _ _ _ _ _ _ _ _ _ _ _
    cases state <;> rfl

theorem begunRecord_now {s t : State} (h : t.now = s.now) (r : NodeRec) : begunRecord t r = begunRecord s r := by
  unfold begunRecord startRecord
  rw [h]

/-- R127, R159: the entry to COMMISSIONING before any work has begun. -/
structure Commissions (b : State) : Prop where
  haltSent : b.op.haltSent = false
  unmarked : ∀ n : NodeId, b.op.done[n] = false
  idle : ∀ n, b.work n = .idle

/-- The mark that a node has as its work begins (R159, R160). -/
def NodeRec.markedAtOnce (r : NodeRec) : Bool := r.configured && decide (r.state = .fault)

/-- R159: the work of the nodes p has begun, and no other's. -/
structure Begun (b : State) (p : List NodeId) (t : State) : Prop where
  rest : t = { b with
    line := t.line, op := { b.op with done := t.op.done, work := t.op.work }
    nodes := { b.nodes with table := t.nodes.table, queue := t.nodes.queue } }
  recs : ∀ n, t.node n = (if n ∈ p then begunRecord b (b.node n) else b.node n).owing (t.node n)
  done : ∀ n : NodeId, t.op.done[n] = (decide (n ∈ p) && (b.node n).markedAtOnce)
  work : ∀ n, t.work n = if n ∈ p ∧ (b.node n).configured = true then (b.node n).state.begunWork else .idle

theorem Begun.start {b : State} (h : Commissions b) : Begun b [] b :=
  ⟨rfl, fun _ => rfl, fun n => h.unmarked n, fun n => by rw [h.idle n]; simp⟩

theorem Begun.early {b t : State} {p : List NodeId} (h : Begun b p t) (n : NodeId) : (t.work n).moveBegun = false := by
  rw [h.work n]
  split
  · exact NodeState.begunWork_early _
  · rfl

theorem Begun.asked {b t u : State} {p : List NodeId} (h : Begun b p t) (a : Asked t u) : Begun b p u where
  rest := by
    have ha := a.rest
    rw [h.rest] at ha
    have done : u.op.done = t.op.done := by rw [a.rest]
    rw [done]
    exact ha
  recs := fun n => by
    have ha := a.recs n
    rw [h.recs n] at ha
    exact ha
  done := fun n => by
    have done : u.op.done = t.op.done := by rw [a.rest]
    rw [← h.done n]
    exact congrArg (fun d : Vector Bool 31 => d[n]) done
  work := fun n => (a.work n (h.early n)).trans (h.work n)

/-- The work of one more node has begun. -/
theorem Begun.next {b t u : State} {p : List NodeId} {m : NodeId} (h : Begun b p t) (hm : m ∉ p)
    (rest : u = { t with
      line := u.line, op := { t.op with done := u.op.done, work := u.op.work }
      nodes := { t.nodes with table := u.nodes.table, queue := u.nodes.queue } })
    (self : u.node m = (begunRecord b (b.node m)).owing (u.node m)) (others : ∀ n, n ≠ m → u.node n = t.node n)
    (done : ∀ n : NodeId, u.op.done[n] = if n = m then (b.node m).markedAtOnce else t.op.done[n])
    (work : ∀ n, u.work n = if n = m ∧ (b.node m).configured = true then (b.node m).state.begunWork else t.work n) :
    Begun b (m :: p) u where
  rest := by
    rw [h.rest] at rest
    exact rest
  recs := fun n => by
    by_cases same : n = m
    · subst same
      rw [if_pos List.mem_cons_self]
      exact self
    · simp only [List.mem_cons, same, false_or]
      rw [others n same]
      exact h.recs n
  done := fun n => by
    rw [done n, h.done n]
    by_cases same : n = m
    · subst same
      simp
    · simp [same]
  work := fun n => by
    rw [work n, h.work n]
    by_cases same : n = m
    · subst same
      simp [hm]
    · simp [same]

theorem Begun.node_kept {b t : State} {p : List NodeId} {m : NodeId} (h : Begun b p t) (hm : m ∉ p) :
    t.node m = (b.node m).owing (t.node m) := by
  have r := h.recs m
  rwa [if_neg hm] at r

theorem Begun.now {b t : State} {p : List NodeId} (h : Begun b p t) : t.now = b.now := by rw [h.rest]

theorem Begun.haltSent {b t : State} {p : List NodeId} (h : Begun b p t) : t.op.haltSent = b.op.haltSent := by rw [h.rest]

/-- R148: the start-up of commissioning, before its WAKE is asked. -/
def State.commissionStart (s : State) (m : NodeId) : State :=
  (s.setWork m .startUp).startingRecord m .commission 0 .wake

theorem State.startUp_asksWake (s : State) (m : NodeId) :
    (s.setWork m .startUp).startUp m .commission = (s.commissionStart m).request ⟨some m, .wake, 0, false, .commission, []⟩ := by
  have record := (s.setWork m .startUp).startingRecord_node m .commission 0 .wake
  rw [State.startUp, State.askStart_wake (by rw [record]; rfl), record]
  rfl

/-- R159: the node's start-up begins at once. -/
def NodeState.startsUp (q : NodeState) : Prop := q ∈ [NodeState.unknown, .ready, .offline]

theorem State.beginWork_startUp {s : State} {m : NodeId} (configured : (s.node m).configured = true)
    (h : (s.node m).state.startsUp) : s.beginWork m =
      (s.commissionStart m).request ⟨some m, .wake, 0, false, .commission, []⟩ := by
  rw [← State.startUp_asksWake, State.beginWork, if_pos configured]
  simp only [NodeState.startsUp, List.mem_cons, List.not_mem_nil, or_false] at h
  rcases h with h | h | h <;> rw [h]

theorem begunRecord_startsUp {s : State} {r : NodeRec} (configured : r.configured = true) (h : r.state.startsUp) :
    begunRecord s r = startRecord s r .commission 0 .wake := by
  rw [begunRecord, if_pos configured]
  simp only [NodeState.startsUp, List.mem_cons, List.not_mem_nil, or_false] at h
  rcases h with h | h | h <;> rw [h]

theorem begunRecord_starting {s : State} {r : NodeRec} (configured : r.configured = true) (h : r.state = .starting) :
    begunRecord s r = { r with cause := some .commission } := by
  cases r
  subst configured h
  rfl

theorem begunRecord_kept {s : State} {r : NodeRec} (h : r.configured = false ∨ r.state = .busy ∨ r.state = .fault) :
    begunRecord s r = r := by
  cases r with
  | mk configured =>
    rcases h with h | h | h
    · subst h
      rfl
    · subst h
      cases configured <;> rfl
    · subst h
      cases configured <;> rfl

theorem Begun.commissionStart {b t : State} {p : List NodeId} {m : NodeId} (h : Begun b p t) (hm : m ∉ p)
    (configured : (b.node m).configured = true) (starts : (b.node m).state.startsUp) :
    Begun b (m :: p) (t.commissionStart m) := by
  have record : (t.commissionStart m).node m = startRecord t (t.node m) .commission 0 .wake :=
    (t.setWork m .startUp).startingRecord_node m .commission 0 .wake
  have states : (b.node m).state.begunWork = .startUp ∧ (b.node m).markedAtOnce = false := by
    simp only [NodeState.startsUp, List.mem_cons, List.not_mem_nil, or_false] at starts
    rcases starts with e | e | e <;> simp [NodeRec.markedAtOnce, NodeState.begunWork, e]
  refine h.next hm rfl ?_ (fun n hn => ?_) (fun n => ?_) (fun n => ?_)
  · rw [record, begunRecord_startsUp configured starts, h.node_kept hm, startRecord, startRecord, h.now]
    rfl
  · exact (State.node_setNode _ _ _ _).trans (if_neg hn)
  · by_cases same : n = m
    · subst same
      have undone : t.op.done[n] = false := by simpa [hm] using h.done n
      rw [if_pos rfl, states.2]
      exact undone
    · rw [if_neg same]
      rfl
  · rw [states.1]
    simp only [configured, and_true]
    exact State.work_setWork t m n .startUp

/-- R159: the work of a node begins. -/
theorem Begun.beginWork {b t : State} {p : List NodeId} {m : NodeId} (c : Commissions b) (h : Begun b p t) (hm : m ∉ p) :
    Begun b (m :: p) (t.beginWork m) := by
  have kept := h.node_kept hm
  have state : (t.node m).state = (b.node m).state := by rw [kept]; rfl
  have conf : (t.node m).configured = (b.node m).configured := by rw [kept]; rfl
  have unmarked : t.op.done[m] = false := by simpa [hm] using h.done m
  have sameDone (r : NodeRec) (hr : r.markedAtOnce = false) (n : NodeId) :
      t.op.done[n] = if n = m then r.markedAtOnce else t.op.done[n] := by
    split
    · rename_i same
      subst same
      rw [unmarked, hr]
    · rfl
  by_cases configured : (b.node m).configured = true
  · by_cases starts : (b.node m).state.startsUp
    · rw [State.beginWork_startUp (conf.trans configured) (state ▸ starts)]
      exact (h.commissionStart hm configured starts).asked (Asked.request _ _)
    · rw [State.beginWork, if_pos (conf.trans configured), state]
      cases q : (b.node m).state with
      | unknown => simp [NodeState.startsUp, q] at starts
      | ready => simp [NodeState.startsUp, q] at starts
      | offline => simp [NodeState.startsUp, q] at starts
      | starting =>
        refine h.next hm rfl ?_ (fun n hn => ?_) (sameDone _ (by simp [NodeRec.markedAtOnce, q])) (fun n => ?_)
        · show ((t.setWork m .startUp).modNode m _).node m = _
          rw [State.node_modNode, if_pos rfl, begunRecord_starting configured q]
          have record : (t.setWork m .startUp).node m = (b.node m).owing (t.node m) := kept
          rw [record]
          rfl
        · exact (State.node_modNode _ _ _ _).trans (if_neg hn)
        · simp only [configured, and_true, q]
          exact State.work_setWork t m n .startUp
      | busy =>
        refine h.next hm rfl ?_ (fun n hn => rfl) (sameDone _ (by simp [NodeRec.markedAtOnce, q])) (fun n => ?_)
        · rw [begunRecord_kept (by simp [q])]
          exact kept
        · simp only [configured, and_true, q]
          exact State.work_setWork t m n .waitBusy
      | fault =>
        have mark : t.markDone m = t.setOp (t.op.marked m) :=
          State.markDone_unfinished (.inl (h.haltSent.trans c.haltSent))
        rw [mark]
        refine h.next hm rfl ?_ (fun n hn => rfl) (fun n => ?_) (fun n => ?_)
        · rw [begunRecord_kept (by simp [q])]
          exact kept
        · rw [show (t.setOp (t.op.marked m)).op.done[n] = _ from t.op.marked_done m n]
          simp [NodeRec.markedAtOnce, configured, q, eq_comm]
        · rw [show (t.setOp (t.op.marked m)).work n = _ from t.op.marked_work m n]
          simp only [configured, and_true, q, eq_comm]
          rfl
  · rw [State.beginWork, if_neg (by rwa [conf])]
    refine h.next hm rfl ?_ (fun _ _ => rfl) (sameDone _ (by simp [NodeRec.markedAtOnce, configured])) (fun n => ?_)
    · rw [begunRecord_kept (by simp [configured])]
      exact kept
    · simp [configured]

/-! ## The queue over the walk (R133, R135, R148) -/

theorem Begun.beginWork_quiet {b t : State} {p : List NodeId} {m : NodeId} (c : Commissions b) (h : Begun b p t)
    (hm : m ∉ p) (quiet : ¬ ((b.node m).configured = true ∧ (b.node m).state.startsUp)) :
    (t.beginWork m).nodes.queue = t.nodes.queue ∧ (t.beginWork m).line = t.line := by
  have kept := h.node_kept hm
  have state : (t.node m).state = (b.node m).state := by rw [kept]; rfl
  have conf : (t.node m).configured = (b.node m).configured := by rw [kept]; rfl
  unfold State.beginWork
  split
  · rename_i configured
    rw [state]
    have starts : ¬ (b.node m).state.startsUp := fun starts => quiet ⟨conf.symm.trans configured, starts⟩
    cases q : (b.node m).state with
    | unknown => simp [NodeState.startsUp, q] at starts
    | ready => simp [NodeState.startsUp, q] at starts
    | offline => simp [NodeState.startsUp, q] at starts
    | starting => exact ⟨rfl, rfl⟩
    | busy => exact ⟨rfl, rfl⟩
    | fault =>
      have mark : t.markDone m = t.setOp (t.op.marked m) :=
        State.markDone_unfinished (.inl (h.haltSent.trans c.haltSent))
      simp only [mark]
      exact ⟨rfl, rfl⟩
  · exact ⟨rfl, rfl⟩

theorem Begun.beginWork_asks {b t : State} {p : List NodeId} {m : NodeId} (h : Begun b p t) (hm : m ∉ p)
    (asks : (b.node m).configured = true ∧ (b.node m).state.startsUp) :
    t.beginWork m = (t.commissionStart m).request ⟨some m, .wake, 0, false, .commission, []⟩ := by
  have kept := h.node_kept hm
  refine State.beginWork_startUp ?_ ?_
  · rw [kept]
    exact asks.1
  · rw [kept]
    exact asks.2

theorem State.commissionStart_queue (s : State) (m : NodeId) :
    (s.commissionStart m).nodes.queue = startQueue m s.nodes.queue := rfl

theorem State.commissionStart_line (s : State) (m : NodeId) : (s.commissionStart m).line = s.line := rfl

theorem mem_startQueue {m : NodeId} {q : List Entry} {e : Entry} (he : e ∈ q) (h : e.cmd ≠ .read ∧ e.cmd ≠ .status) :
    e ∈ startQueue m q := by
  simp [startQueue, he, h.1, h.2]

/-- R135, R138: the broadcast HALT stands through the walk. -/
theorem Begun.haltStands {b t : State} {p : List NodeId} {m : NodeId} (c : Commissions b) (h : Begun b p t) (hm : m ∉ p)
    {P : Nat → Prop} (halt : t.urgent none .halt P) : (t.beginWork m).urgent none .halt P := by
  by_cases asks : (b.node m).configured = true ∧ (b.node m).state.startsUp
  · rw [h.beginWork_asks hm asks]
    refine State.urgent.request ?_ (by simp)
    rcases halt with ⟨e, he, hn, hc, rest⟩ | flying
    · exact .inl ⟨e, mem_startQueue he (by simp [hc]), hn, hc, rest⟩
    · exact .inr flying
  · obtain ⟨queue, line⟩ := h.beginWork_quiet c hm asks
    exact halt.congr queue line

/-- R148: the start-ups of the nodes p have asked their WAKEs, and lengthened the queue by one each at most. -/
structure Woken (b : State) (p : List NodeId) (t : State) : Prop where
  length : t.nodes.queue.length ≤ b.nodes.queue.length + (p.filter (fun n => (b.node n).configured)).length
  asked : ∀ n ∈ p, (b.node n).configured = true → (b.node n).state.startsUp → t.asked n .wake

theorem Woken.beginWork {b t : State} {p : List NodeId} {m : NodeId} (c : Commissions b) (h : Begun b p t) (hm : m ∉ p)
    (room : b.nodes.queue.length + ((m :: p).filter (fun n => (b.node n).configured)).length ≤ 16) (w : Woken b p t) :
    Woken b (m :: p) (t.beginWork m) := by
  by_cases asks : (b.node m).configured = true ∧ (b.node m).state.startsUp
  · have counted : ((m :: p).filter (fun n => (b.node n).configured)).length =
        (p.filter (fun n => (b.node n).configured)).length + 1 := by
      rw [List.filter_cons_of_pos (p := fun n => (b.node n).configured) asks.1, List.length_cons]
    have shorter : (t.commissionStart m).nodes.queue.length ≤ t.nodes.queue.length := by
      rw [State.commissionStart_queue, startQueue]
      exact List.length_filter_le _ _
    have free : (t.commissionStart m).nodes.queue.length < Config.queueMax := by
      have := w.length
      show _ < 16
      omega
    have grown := State.request_length (t.commissionStart m) ⟨some m, .wake, 0, false, .commission, []⟩ free
    rw [h.beginWork_asks hm asks]
    refine ⟨by have := w.length; omega, fun n hn configured starts => ?_⟩
    rw [State.asked_iff_stands]
    by_cases same : n = m
    · subst same
      exact (State.request_stands rfl (.inr (.inr free))).mono fun _ _ _ _ _ mark => ⟨mark.1, mark.2.1⟩
    · have before := w.asked n ((List.mem_cons.1 hn).resolve_left same) configured starts
      rw [State.asked_iff_stands] at before
      have stands : (t.commissionStart m).stands (fun k c _ _ _ => k = some n ∧ c = .wake) := by
        rcases before with ⟨e, he, hn, hc⟩ | flying
        · exact .inl ⟨e, mem_startQueue he (by simp [hc]), hn, hc⟩
        · exact .inr flying
      exact stands.request (fun _ _ _ k => absurd (Option.some.inj k.1).symm same) free
  · obtain ⟨queue, line⟩ := h.beginWork_quiet c hm asks
    refine ⟨?_, fun n hn configured starts => ?_⟩
    · rw [queue]
      refine w.length.trans (Nat.add_le_add_left ?_ _)
      exact ((List.sublist_cons_self m p).filter _).length_le
    · have passed : n ∈ p := (List.mem_cons.1 hn).resolve_left fun same => asks (same ▸ ⟨configured, starts⟩)
      have before := w.asked n passed configured starts
      unfold State.asked State.queued State.inFlight at before ⊢
      rwa [queue, line]

/-- R157, R159: the whole walk. -/
theorem State.begins {b : State} (c : Commissions b) : ∃ p, (∀ n, n ∈ p) ∧ Begun b p (b.eachNode State.beginWork) ∧
    (∀ P, b.urgent none .halt P → (b.eachNode State.beginWork).urgent none .halt P) ∧
    (b.nodes.queue.length + (configuredNodes b).length ≤ 16 → Woken b p (b.eachNode State.beginWork)) := by
  refine State.eachNode_induct
    (I := fun p t => Begun b p t ∧ (∀ P, b.urgent none .halt P → t.urgent none .halt P) ∧
      (b.nodes.queue.length + (configuredNodes b).length ≤ 16 → Woken b p t))
    ⟨.start c, fun _ h => h, fun _ => ⟨Nat.le_add_right _ _, nofun⟩⟩ ?_
  rintro p t m nodup ⟨begun, halt, woken⟩
  have hm : m ∉ p := (List.nodup_cons.1 nodup).1
  refine ⟨begun.beginWork c hm, fun P h => begun.haltStands c hm (halt P h), fun room => (woken room).beginWork c begun hm ?_⟩
  have sub : ((m :: p).filter (fun n => (b.node n).configured)).length ≤ (configuredNodes b).length :=
    (List.subperm_of_subset (nodup.filter _) fun n hn =>
      List.mem_filter.2 ⟨mem_allNodes n, (List.mem_filter.1 hn).2⟩).length_le
  omega

/-! ## The entry to COMMISSIONING (R90, R108, R127, R157) -/

/-- R127, R157: the part state and the bindings, before the plant controller and the requests. -/
def State.commissionBound (s : State) : State :=
  (((s.setOp { s.op with configChanged := false, lastRefusal := none, haltSent := false }).clearMarks).enterPart
    .commissioning).eachNode State.bind

/-- R90, R108: the plant controller's part of the entry. -/
def State.commissionPlanned (s : State) : State :=
  (s.commissionBound.seqCommissioning s.compressorBound).intakeCommissioning

theorem State.enterCommissioning_eq (s : State) :
    s.enterCommissioning = (s.commissionPlanned.askBroadcast .halt .commission).eachNode State.beginWork := rfl

theorem State.commissionBound_written (s : State) :
    OnlyNodes (((s.setOp { s.op with configChanged := false, lastRefusal := none, haltSent := false }).clearMarks).enterPart
      .commissioning) s.commissionBound ∧
    ∀ n, s.commissionBound.node n = { s.node n with binding := (s.rolesOf n).head? } := by
  refine State.eachNode_written fun t n only kept => ?_
  have roles : t.rolesOf n = s.rolesOf n := by
    rw [only]
    rfl
  rw [State.bind, State.modNode, roles, kept]
  rfl

/-- R90: the node of the plant definition's compressor is in FAULT. -/
def State.compressorDown (s : State) : Bool := s.plant.defn.compressor.any fun n => decide ((s.node n).state = .fault)

theorem State.compressorDown_false (s : State) :
    s.compressorDown = false ↔ ∀ n, s.plant.defn.compressor = some n → (s.node n).state ≠ .fault := by
  unfold State.compressorDown
  cases s.plant.defn.compressor <;> simp

/-- R90: the sequencer on entry to COMMISSIONING leaves FAULT for OFF unless its node is in FAULT. -/
theorem State.seqCommissioning_sequencer (s : State) (w : Bool) : ∃ q, s.seqCommissioning w = s.setSequencer q ∧
    q.state = if s.plant.seq.state = .fault ∧ ∀ n, s.plant.defn.compressor = some n → (s.node n).state ≠ .fault then .off
      else s.plant.seq.state := by
  have left : (s.seqCommissioning w) =
      let u := if s.plant.seq.state = .fault ∧ s.compressorDown = false then s.enterSeq .off else s
      u.setSequencer { u.plant.seq with watch := u.plant.seq.watch && w } := by
    unfold State.seqCommissioning State.compressorDown
    cases s.plant.defn.compressor <;> rfl
  rw [left]
  simp only [← State.compressorDown_false]
  by_cases leaves : s.plant.seq.state = .fault ∧ s.compressorDown = false
  · rw [if_pos leaves, if_pos leaves]
    exact ⟨_, rfl, rfl⟩
  · rw [if_neg leaves, if_neg leaves]
    exact ⟨_, rfl, rfl⟩

/-- R90, R108, R127, R157: the state as the requests begin. -/
theorem State.commissionPlanned_eq (s : State) : s.commissionPlanned =
    { s with
      op := { s.op with
        state := .commissioning, entered := s.now, configChanged := false, lastRefusal := none, haltSent := false
        done := Vector.replicate 31 false, work := Vector.replicate 31 .idle }
      cond := { s.cond with stopped := false }
      nodes := { s.nodes with table := s.commissionPlanned.nodes.table }
      plant := { s.plant with
        seq := s.commissionPlanned.plant.seq, purgeCount := 0, intakeTarget := some s.plant.minFreshAir } } := by
  have only := s.commissionBound_written.1
  unfold State.commissionPlanned
  obtain ⟨q, eq, _⟩ := s.commissionBound.seqCommissioning_sequencer s.compressorBound
  rw [eq]
  generalize s.commissionBound = b at only ⊢
  rw [only]
  rfl

theorem State.commissionPlanned_node (s : State) (n : NodeId) :
    s.commissionPlanned.node n = { s.node n with binding := (s.rolesOf n).head? } := by
  obtain ⟨q, eq, _⟩ := s.commissionBound.seqCommissioning_sequencer s.compressorBound
  have node := s.commissionBound_written.2 n
  rw [← node, State.commissionPlanned, eq]
  generalize s.commissionBound = b
  rfl

theorem State.commissionPlanned_seq (s : State) : s.commissionPlanned.plant.seq.state =
    if s.plant.seq.state = .fault ∧ ∀ n, s.plant.defn.compressor = some n → (s.node n).state ≠ .fault then .off
    else s.plant.seq.state := by
  obtain ⟨only, node⟩ := s.commissionBound_written
  have plant : s.commissionBound.plant = s.plant := by rw [only]; rfl
  have state (n : NodeId) : (s.commissionBound.node n).state = (s.node n).state := by rw [node]
  obtain ⟨q, eq, leaves⟩ := s.commissionBound.seqCommissioning_sequencer s.compressorBound
  rw [plant] at leaves
  simp only [state] at leaves
  rw [← leaves, State.commissionPlanned, eq]
  generalize s.commissionBound = b
  rfl

/-- R133: the broadcast HALT is asked. -/
theorem State.commissionPlanned_commissions (s : State) :
    Commissions (s.commissionPlanned.askBroadcast .halt .commission) := by
  have asked : Asked s.commissionPlanned (s.commissionPlanned.askBroadcast .halt .commission) := Asked.request _ _
  have planned := s.commissionPlanned_eq
  have idle (n : NodeId) : s.commissionPlanned.work n = .idle := by
    rw [State.work, planned]
    simp
  refine ⟨?_, fun n => ?_, fun n => ?_⟩
  · rw [asked.rest, planned]
  · have done : (s.commissionPlanned.askBroadcast .halt .commission).op.done = Vector.replicate 31 false := by
      rw [asked.rest, planned]
    exact (congrArg (fun d : Vector Bool 31 => d[n]) done).trans (by simp)
  · exact (asked.work n (by rw [idle]; rfl)).trans (idle n)

/-- What a COMMISSION that passes leaves (R90, R108, R127, R157 to R159). -/
structure Commissioned (s t : State) : Prop where
  rest : t = { s with
    op := { s.op with
      state := .commissioning, entered := s.now, configChanged := false, lastRefusal := none, haltSent := false
      done := t.op.done, work := t.op.work }
    cond := { s.cond with stopped := false }
    nodes := { s.nodes with table := t.nodes.table, queue := t.nodes.queue }, line := t.line
    plant := { s.plant with seq := t.plant.seq, purgeCount := 0, intakeTarget := some s.plant.minFreshAir } }
  done : ∀ n : NodeId, t.op.done[n] = ((s.node n).configured && decide ((s.node n).state = .fault))
  work : ∀ n, (s.node n).configured = true → t.work n = (s.node n).state.begunWork
  recs : ∀ n, t.node n = (commissionedNode s n).owing (t.node n)
  halt : s.nodes.queue.length < 16 → t.broadcastAsked .halt
  wakes : s.nodes.queue.length + (configuredNodes s).length < 16 → ∀ n, (s.node n).configured = true →
    (s.node n).state.startsUp → t.asked n .wake
  seq : t.plant.seq.state =
    if s.plant.seq.state = .fault ∧ ∀ n, s.plant.defn.compressor = some n → (s.node n).state ≠ .fault then .off
    else s.plant.seq.state

theorem State.enterCommissioning_commissioned (s : State) : Commissioned s s.enterCommissioning := by
  have planned := s.commissionPlanned_eq
  have bound := s.commissionPlanned_node
  have seq := s.commissionPlanned_seq
  have commissions := s.commissionPlanned_commissions
  rw [State.enterCommissioning_eq]
  generalize s.commissionPlanned = c at planned bound seq commissions ⊢
  have asked : Asked c (c.askBroadcast .halt .commission) := Asked.request _ _
  have queue : c.nodes.queue = s.nodes.queue := by rw [planned]
  have haltAsked (room : s.nodes.queue.length < 16) : (c.askBroadcast .halt .commission).urgent none .halt _ :=
    State.request_urgent (e := ⟨none, .halt, 0, true, .commission, []⟩) rfl (.inr rfl) (.inr (.inl (queue ▸ room)))
  have grown (room : s.nodes.queue.length < 16) :
      (c.askBroadcast .halt .commission).nodes.queue.length ≤ s.nodes.queue.length + 1 := by
    have := State.request_length c ⟨none, .halt, 0, true, .commission, []⟩ (by rw [queue]; exact room)
    rwa [queue] at this
  obtain ⟨p, all, begun, halt, woken⟩ := State.begins commissions
  generalize c.askBroadcast .halt .commission = b at asked haltAsked grown commissions begun halt woken ⊢
  generalize b.eachNode State.beginWork = t at begun halt woken ⊢
  have node (n : NodeId) : b.node n = { s.node n with binding := (s.rolesOf n).head? }.owing (b.node n) := by
    rw [← bound]
    exact asked.recs n
  have configured (n : NodeId) : (b.node n).configured = (s.node n).configured := by rw [node]; rfl
  have state (n : NodeId) : (b.node n).state = (s.node n).state := by rw [node]; rfl
  have plant : t.plant = c.plant := by rw [begun.rest, asked.rest]
  have now : b.now = s.now := by rw [asked.rest, planned]
  refine ⟨?_, fun n => ?_, fun n conf => ?_, fun n => ?_, fun room => ?_, fun room n conf starts => ?_, ?_⟩
  · have frame := begun.rest
    rw [asked.rest, planned] at frame
    rw [plant]
    exact frame
  · rw [begun.done n, NodeRec.markedAtOnce, configured, state]
    simp [all n]
  · rw [begun.work n, if_pos ⟨all n, (configured n).trans conf⟩, state]
  · have begunRec := begun.recs n
    rw [if_pos (all n), node n, begunRecord_owing, begunRecord_now now] at begunRec
    exact begunRec
  · exact (halt _ (haltAsked room)).broadcastAsked
  · have conf' : configuredNodes b = configuredNodes s := List.filter_congr fun n _ => configured n
    have few := grown (by omega)
    exact (woken (by rw [conf']; omega)).asked n (all n) ((configured n).trans conf) (by rw [state]; exact starts)
  · rw [plant]
    exact seq

/-! ## The obligation -/

theorem State.takeCommission_refused {s : State} {b : BadConfig} (h : s.validate = some b) :
    s.takeCommission = (s.setOp { s.op with lastRefusal := some b }, refuseBadConfig b) := by
  rw [State.takeCommission, h]

theorem State.takeCommission_passed {s : State} (h : s.validate = none) : s.takeCommission = accept s.enterCommissioning := by
  rw [State.takeCommission, h]

/-- Settles O16: the validation decides; what a COMMISSION that passes leaves is the walk over the nodes. -/
theorem commissionByValidation : Obligations.CommissionByValidation := by
  intro s tag hf hc
  have included := State.takesConfiguration_includes .commission hc rfl
  refine ⟨fun b refused => ?_, fun passed => ?_⟩
  · have taken : s.untagged.ownerTakes .commission s.port.tag [] =
        (s.untagged.setOp { s.op with lastRefusal := some b }, refuseBadConfig b) :=
      State.takeCommission_refused (s := s.untagged) refused
    have event := State.answer_clears s .commission tag [] hf rfl included rfl
    refine ⟨_, event, ?_, ?_⟩
    · rw [show (s.setTag .none).ownerTakes _ _ _ = _ from taken]
      exact State.reply_repliesRefused _ _ _ _ _
    · rw [show (s.setTag .none).ownerTakes _ _ _ = _ from taken]
      rfl
  · have done := State.enterCommissioning_commissioned s.untagged
    have taken : s.untagged.ownerTakes .commission s.port.tag [] = accept s.untagged.enterCommissioning :=
      State.takeCommission_passed (s := s.untagged) passed
    generalize s.untagged.enterCommissioning = u at done taken
    obtain ⟨t, he, ok, ht, hp⟩ := State.clears_accepted s u .commission tag [] hf rfl included rfl taken
      (by rw [done.rest]; rfl)
    have frame := done.rest
    have op : t.op = u.op := by rw [ht]; rfl
    have work (n : NodeId) : t.work n = u.work n := by rw [ht]; rfl
    have node (n : NodeId) : t.node n = u.node n := by rw [ht]; rfl
    have plant : t.plant = u.plant := by rw [ht]; rfl
    refine ⟨t, he, ok, ?_, fun n => ?_, fun n conf => ?_, fun n => ?_, fun room => ?_, fun room n conf starts => ?_, ?_, ?_,
      ?_, ?_, ?_, ?_, ?_, ?_, ?_, hp, ?_, ?_, ?_⟩
    · rw [op]
      exact congrArg State.op frame
    · rw [op]
      exact done.done n
    · rw [work, done.work n conf]
      show (s.node n).state.begunWork = _
      cases (s.node n).state <;> rfl
    · rw [node]
      exact done.recs n
    · rw [ht]
      exact done.halt room
    · rw [ht]
      exact done.wakes room n conf starts
    · rw [plant]
      exact congrArg State.plant frame
    · rw [plant]
      exact done.seq
    · exact (congrArg State.cond ht :).trans (congrArg State.cond frame :)
    · exact (congrArg State.zones ht :).trans (congrArg State.zones frame :)
    · exact (congrArg State.arb ht :).trans (congrArg State.arb frame :)
    · exact (congrArg State.now ht :).trans (congrArg State.now frame :)
    · exact (congrArg State.held ht :).trans (congrArg State.held frame :)
    · exact (congrArg State.shedLine ht :).trans (congrArg State.shedLine frame :)
    · exact (congrArg State.key ht :).trans (congrArg State.key frame :)
    · exact (congrArg (·.nodes.tuning) ht :).trans (congrArg (·.nodes.tuning) frame :)
    · exact (congrArg (·.nodes.pollTick) ht :).trans (congrArg (·.nodes.pollTick) frame :)
    · exact (congrArg State.pending ht :).trans (congrArg State.pending frame :)

end Sys2Proof.Machine
end

section
/-! SUPPORT for O44. What each report of the compressor node does at the sequencer, by the node's record and the sequencer's
state, and what of it survives the rest of the event (R79, R85, R87 to R90, R151). -/
namespace Sys2Proof.Machine

/-! ## What survives the rest of the event (R85, R88, R146) -/

theorem lockedOutFrom.held {s t : State} {now : Time} (h : lockedOutFrom s now t) : t.plant.seq.state.held := .inr h.1

theorem lockedOutFrom.kept {s t u : State} {now : Time} (h : lockedOutFrom s now t) (k : HeldKept t u) :
    lockedOutFrom s now u := by
  rw [lockedOutFrom, k.seq h.held]
  exact h

theorem lockedOutFrom.followed {s t : State} {now : Time} (h : lockedOutFrom s now t) (n : NodeId) :
    lockedOutFrom s now ((t.opNodeCheck n).opFollow).freeLine := h.kept (.followed t n)

theorem compressorFaulted.held {s t : State} {n : NodeId} {why : FaultReason} (h : compressorFaulted s n why t) :
    t.plant.seq.state.held := .inl h.2.2.2.1

theorem compressorFaulted.followed {s t : State} {n : NodeId} {why : FaultReason} (h : compressorFaulted s n why t) :
    compressorFaulted s n why ((t.opNodeCheck n).opFollow).freeLine := by
  obtain ⟨state, reason, raised, seq⟩ := h
  have kept : FaultKept t ((t.opNodeCheck n).opFollow).freeLine := by
    rw [State.opNodeCheck_notReady (by rw [state]; simp)]
    exact (FaultKept.opFollow t).trans (FaultKept.ofNode (NodeSide.freeLine _))
  exact ⟨(kept.state n).trans state, (kept.reason n).trans reason, kept.raised.trans raised, seq.kept (.followed t n)⟩

/-- R179: what was raised counts from the conditions before. -/
theorem compressorFaulted.of_cond {s w t : State} {n : NodeId} {why : FaultReason} (h : compressorFaulted w n why t)
    (cond : w.cond = s.cond) : compressorFaulted s n why t := by
  rw [compressorFaulted, sequencerFaulted, cond] at h
  exact h

theorem stepCompleted.kept {s t u : State} {now : Time} (h : stepCompleted s now t) (side : NodeSide t u)
    (part : u.op.state = t.op.state) : stepCompleted s now u := by
  have capacity : u.coolCapacity = t.coolCapacity := by
    rw [State.coolCapacity, State.coolCapacity, State.allowedStages, State.allowedStages, side.plant, part]
  rw [stepCompleted, side.plant, side.arb, capacity]
  exact h

theorem stepCompleted.of_plant {s w t : State} {now : Time} (h : stepCompleted w now t) (plant : w.plant = s.plant)
    (part : w.op.state = s.op.state) : stepCompleted s now t := by
  have allowed : w.allowedStages = s.allowedStages := by rw [State.allowedStages, State.allowedStages, plant, part]
  rw [stepCompleted, plant, allowed] at h
  exact h

/-! ## A report to the sequencer, by its state (R79, R88, R90) -/

section
variable {s : State} {n : NodeId}

theorem State.readyNotice_compressor (h : (s.node n).binding = some (.plant .compressor)) (left : NodeState)
    (c : Option StartCause) : s.readyNotice n left c = s.compressorNodeReady n left c := by
  rw [State.readyNotice, h]
  rfl

theorem State.reportStatus_compressor (h : (s.node n).binding = some (.plant .compressor)) (x : Txn) (b : Bool) (v : Nat) :
    s.reportStatus x n b v = s.plantStatus n .compressor x b v := by
  rw [State.reportStatus, h]

/-- R88: as the plant controller finds another value than the target. -/
theorem State.unexpectedValue_faults (state : (s.node n).state = .ready ∨ (s.node n).state = .busy) :
    s.unexpectedValue n = s.enterFault n .unexpectedValue := by
  refine if_neg ?_
  rcases state with h | h <;> simp [h]

theorem State.unexpectedValue_faulted (state : (s.node n).state = .ready ∨ (s.node n).state = .busy)
    (bound : (s.node n).binding = some (.plant .compressor)) (hq : s.plant.seq.state ≠ .fault) :
    compressorFaulted s n .unexpectedValue (s.unexpectedValue n) := by
  rw [State.unexpectedValue_faults state]
  exact State.enterFault_sequencer (by simp) bound hq

/-! ### The report against the step in flight (R79) -/

theorem State.seqReport_noStep (h : s.plant.seq.state.stepTarget = none) : s.seqReport n = s := by
  rw [State.seqReport, h]
  exact ite_self s

theorem State.seqReport_unsettled (h : s.settled n = false) : s.seqReport n = s := if_neg (by simp [h])

theorem State.seqReport_completes {g : Nat} (ready : (s.node n).state = .ready) (left : s.moveLeft n = false)
    (target : s.plant.seq.state.stepTarget = some g) (value : (s.node n).value = some (.num g)) :
    s.seqReport n = s.completeStep.restReport := by
  rw [State.seqReport, if_pos (State.settled_of ready left), target]
  exact if_pos (State.valueIs_iff.2 value)

theorem State.seqReport_away {g : Nat} (ready : (s.node n).state = .ready) (left : s.moveLeft n = false)
    (target : s.plant.seq.state.stepTarget = some g) (value : (s.node n).value ≠ some (.num g))
    (part : s.op.state ≠ .stopping) : s.seqReport n = s.unexpectedValue n := by
  rw [State.seqReport, if_pos (State.settled_of ready left), target]
  exact (if_neg (mt State.valueIs_iff.1 value)).trans (if_neg part)

/-- R90: in STOPPING another value ends nothing. -/
theorem State.seqReport_stopping {g : Nat} (target : s.plant.seq.state.stepTarget = some g)
    (value : (s.node n).value ≠ some (.num g)) (part : s.op.state = .stopping) : s.seqReport n = s := by
  rw [State.seqReport, target]
  split
  · dsimp only
    rw [if_neg (mt State.valueIs_iff.1 value)]
  · rfl

/-! ### The watch (R90) -/

theorem State.watchReport_other (h : ¬ (s.plant.seq.state = .off ∨ s.plant.seq.state = .lockout)) : s.watchReport n = s :=
  if_neg fun k => h k.2.1

theorem State.watchReport_unwatched (h : s.plant.seq.watch = false) : s.watchReport n = s := if_neg (by simp [h])

theorem State.watchReport_rests (watch : s.plant.seq.watch = true)
    (state : s.plant.seq.state = .off ∨ s.plant.seq.state = .lockout) (ready : (s.node n).state = .ready)
    (value : (s.node n).value = some (.num 0)) : s.watchReport n = s.enterSeq .lockout := by
  rw [State.watchReport, if_pos ⟨watch, state, ready⟩]
  exact if_pos (State.valueIs_iff.2 value)

theorem State.watchReport_away {v : Nat} (watch : s.plant.seq.watch = true)
    (state : s.plant.seq.state = .off ∨ s.plant.seq.state = .lockout) (ready : (s.node n).state = .ready)
    (left : s.moveLeft n = false) (value : (s.node n).value = some (.num v)) (above : 0 < v) :
    s.watchReport n = s.unexpectedValue n := by
  have away : ¬ s.valueIs n 0 = true := by
    rw [State.valueIs_iff, value]
    simp only [Option.some.injEq, Value.num.injEq]
    omega
  have higher : s.valueAbove0 n = true := by simp [State.valueAbove0, value, above]
  rw [State.watchReport, if_pos ⟨watch, state, ready⟩, if_neg away]
  exact if_pos ⟨higher, left⟩

/-! ### The MOVE 0 of STOPPING (R90) -/

theorem State.seqStopAgain_other (h : s.plant.seq.state ≠ .disengaging) : s.seqStopAgain n = s := if_neg fun k => h k.2.1

theorem State.seqStopAgain_outside (h : s.op.state ≠ .stopping) : s.seqStopAgain n = s := if_neg fun k => h k.1

/-! ### The node enters READY (R78, R79, R89, R90) -/

theorem Seq.held.restless {q : Seq} (h : q.held) : q ≠ .disengaging := by rcases h with rfl | rfl <;> simp

theorem State.compressorNodeReady_report (h : s.plant.seq.state ≠ .fault) (left : NodeState) (c : Option StartCause) :
    s.compressorNodeReady n left c =
      (if left = .busy then ((s.seqReport n).watchReport n).seqStopAgain n
        else (s.seqReport n).watchReport n).seqDecide := if_neg h

/-- A report that leaves the sequencer in FAULT or LOCKOUT is all that happens. -/
theorem State.compressorNodeReady_held (h : s.plant.seq.state ≠ .fault)
    (held : ((s.seqReport n).watchReport n).plant.seq.state.held) (left : NodeState) (c : Option StartCause) :
    s.compressorNodeReady n left c = (s.seqReport n).watchReport n := by
  rw [State.compressorNodeReady_report h, State.seqStopAgain_other held.restless, ite_self, State.seqDecide_held held]

theorem State.compressorNodeReady_return (h : s.plant.seq.state = .fault) (left : NodeState) (c : Option StartCause) :
    s.compressorNodeReady n left c = if isReturn left c then s.leaveFault n else s := if_pos h

/-- R90: a watched compressor that is READY at value 0. -/
theorem State.compressorNodeReady_rests (watch : s.plant.seq.watch = true)
    (state : s.plant.seq.state = .off ∨ s.plant.seq.state = .lockout) (ready : (s.node n).state = .ready)
    (value : (s.node n).value = some (.num 0)) (left : NodeState) (c : Option StartCause) :
    lockedOutFrom s s.now (s.compressorNodeReady n left c) := by
  have noStep : s.plant.seq.state.stepTarget = none := by rcases state with e | e <;> rw [e] <;> rfl
  have report : (s.seqReport n).watchReport n = s.enterSeq .lockout := by
    rw [State.seqReport_noStep noStep, State.watchReport_rests watch state ready value]
  rw [State.compressorNodeReady_held (by rcases state with e | e <;> simp [e]) (by rw [report]; exact .inr rfl), report]
  exact ⟨rfl, rfl⟩

/-- R90: a watched compressor that is READY above 0 with no MOVE left. -/
theorem State.compressorNodeReady_watchFails {v : Nat} (bound : (s.node n).binding = some (.plant .compressor))
    (watch : s.plant.seq.watch = true) (state : s.plant.seq.state = .off ∨ s.plant.seq.state = .lockout)
    (ready : (s.node n).state = .ready) (still : s.moveLeft n = false) (value : (s.node n).value = some (.num v))
    (above : 0 < v) (left : NodeState) (c : Option StartCause) :
    compressorFaulted s n .unexpectedValue (s.compressorNodeReady n left c) := by
  have noStep : s.plant.seq.state.stepTarget = none := by rcases state with e | e <;> rw [e] <;> rfl
  have free : s.plant.seq.state ≠ .fault := by rcases state with e | e <;> simp [e]
  have report : (s.seqReport n).watchReport n = s.unexpectedValue n := by
    rw [State.seqReport_noStep noStep, State.watchReport_away watch state ready still value above]
  have faulted := State.unexpectedValue_faulted (.inl ready) bound free
  rw [State.compressorNodeReady_held free (by rw [report]; exact faulted.held), report]
  exact faulted

/-! ### A step ends (R79 to R82, R85, R88) -/

/-- R81 to R83: a decision in RUNNING keeps it or begins a step. -/
theorem State.seqDecide_running {k : Nat} (h : s.plant.seq.state = .running k) :
    s.seqDecide.plant.seq.state ∈ [Seq.running k, .stepUp k, .stepDown k, .disengaging] := by
  have kept : s.plant.seq.state ∈ [Seq.running k, .stepUp k, .stepDown k, .disengaging] := by simp [h]
  have risen : s.seqRise.plant.seq.state ∈ [Seq.running k, .stepUp k, .stepDown k, .disengaging] := by
    rcases List.mem_pair.1 (s.rises_seqRise.running h) with e | e <;> simp [e]
  have shed : (s.shedStage k).plant.seq.state ∈ [Seq.running k, .stepUp k, .stepDown k, .disengaging] := by
    rw [State.shedStage_seq]
    split <;> simp
  unfold State.seqDecide
  simp only [h]
  repeat' split
  all_goals assumption

theorem State.enterRunning_active (s : State) (k : Nat) :
    (s.enterRunning k).plant.seq.state ∈ [Seq.running k, .stepUp k, .stepDown k, .disengaging] := by
  have tested : Rises (s.enterSeq (.running k)).plant.seq (s.enterSeq (.running k)).refreshCool.testHold.plant.seq :=
    (State.rises_writeCapacity _ .cool _).trans (State.rises_testHold _)
  rcases List.mem_pair.1 (tested.running rfl) with running | up
  · exact State.seqDecide_running running
  · have still : s.enterRunning k = (s.enterSeq (.running k)).refreshCool.testHold := by
      simp only [State.enterRunning, State.seqDecide, up]
    simp [still, up]

/-- R80 to R82, R85: what a completed step leaves is no OFF, and LOCKOUT ends the watch. -/
theorem State.completeStep_unwatched {g : Nat} (target : s.plant.seq.state.stepTarget = some g) :
    s.completeStep.plant.seq.state ≠ .off ∧
      (s.completeStep.plant.seq.state = .lockout → s.completeStep.plant.seq.watch = false) := by
  have runs (u : State) (k : Nat) : (u.enterRunning k).plant.seq.state ≠ .off ∧
      ((u.enterRunning k).plant.seq.state = .lockout → (u.enterRunning k).plant.seq.watch = false) := by
    have active := u.enterRunning_active k
    constructor
    · intro e
      simp [e] at active
    · intro e
      simp [e] at active
  cases h : s.plant.seq.state with
  | engaging =>
    rw [State.completeStep, h]
    exact runs _ 1
  | stepUp k =>
    rw [State.completeStep, h]
    exact runs s _
  | stepDown k =>
    rw [State.completeStep, h]
    exact runs s _
  | disengaging =>
    have seq : s.completeStep.plant.seq = (s.enterSeq .lockout).plant.seq := by
      rw [State.completeStep, h]
      exact State.writeCapacity_seq .cool _ ⟨nofun, nofun⟩
    rw [seq]
    exact ⟨nofun, fun _ => Bool.and_false _⟩
  | off | running _ | lockout | fault => simp [h, Seq.stepTarget] at target

/-- R79: the report of a node settled at the step's target, in RUN. -/
theorem State.report_completes {g : Nat} (run : s.op.state = .run) (ready : (s.node n).state = .ready)
    (left : s.moveLeft n = false) (target : s.plant.seq.state.stepTarget = some g)
    (value : (s.node n).value = some (.num g)) : (s.seqReport n).watchReport n = s.completeStep := by
  have side := ShareSide.completeStep s
  rw [State.seqReport_completes ready left target value, State.restReport_of_run (side.opState.trans run)]
  obtain ⟨off, lockout⟩ := State.completeStep_unwatched target
  by_cases h : s.completeStep.plant.seq.state = .lockout
  · exact State.watchReport_unwatched (lockout h)
  · exact State.watchReport_other (not_or.2 ⟨off, h⟩)

theorem Seq.stepTarget_fault {q : Seq} {g : Nat} (h : q.stepTarget = some g) : q ≠ .fault := by
  rintro rfl
  simp [Seq.stepTarget] at h

/-- R79, R88: the report of a node settled elsewhere, in RUN. -/
theorem State.report_faults {g : Nat} (bound : (s.node n).binding = some (.plant .compressor)) (run : s.op.state = .run)
    (ready : (s.node n).state = .ready) (left : s.moveLeft n = false) (target : s.plant.seq.state.stepTarget = some g)
    (value : (s.node n).value ≠ some (.num g)) :
    compressorFaulted s n .unexpectedValue ((s.seqReport n).watchReport n) := by
  have faulted := State.unexpectedValue_faulted (.inl ready) bound (Seq.stepTarget_fault target)
  rw [State.seqReport_away ready left target value (by simp [run]),
    State.watchReport_other (by simp [faulted.2.2.2.1])]
  exact faulted

end

end Sys2Proof.Machine
end

section
/-! SUPPORT for O44. A step that a report has completed, the state in which an outcome is reported, and a STATUS of the
compressor node up to there (R79 to R82, R85, R118, R130 to R132, R142). -/
namespace Sys2Proof.Machine

/-! ## A step is complete, and the decision follows (R79 to R82, R85) -/

theorem State.enterRunning_decided {s : State} {k : Nat} (hf : s.plant.seq.state ≠ .fault) (low : k ≤ s.allowedStages) :
    (s.enterRunning k).seqDecide.plant.seq.state ∈ [Seq.running k, .stepUp k] ∧
    (s.enterRunning k).seqDecide.plant.seq.minRunTimer = s.plant.seq.minRunTimer := by
  have entered : (s.enterSeq (.running k)).allowedStages = s.allowedStages := State.enterSeq_allowed (by simp [hf])
  have rises := State.enterRunning_rises hf low
  have side : ShareSide (s.enterSeq (.running k)) (s.enterRunning k) :=
    ((ShareSide.refreshCool _).trans (.ofPlant (PlantSide.testHold _))).trans (.seqDecide _)
  have rises := rises.decided rfl rfl (by rwa [side.allowedStages rises.fault, entered])
  exact ⟨rises.running rfl, rises.minRunTimer.trans (by simp [State.enterSeq])⟩

/-- R79 to R82, R85: the completion of a step, and the decision that follows the report. -/
theorem State.completeStep_decided {s : State} {g : Nat} (h : s.plant.seq.state.stepTarget = some g) :
    stepCompleted s s.now s.completeStep.seqDecide := by
  refine ⟨(State.completeStep_written h).seqDecide, fun e low => ?_, fun k e low => ?_, fun k e low => ?_, fun e => ?_⟩
  · have runs := State.enterRunning_decided (s := s.setSequencer
      { s.plant.seq with
        minRunTimer := some (s.now + s.plant.defn.minRun * Config.second), minRunExpired := false }) (k := 1) (by simp [e])
      (low.trans_eq (State.allowedStages_congr rfl rfl Iff.rfl rfl rfl).symm)
    rw [State.completeStep, e]
    exact runs
  · rw [State.completeStep, e]
    exact (State.enterRunning_decided (by simp [e]) low).1
  · rw [State.completeStep, e]
    exact (State.enterRunning_decided (by simp [e]) low).1
  · rw [State.completeStep, e]
    exact s.lockOut_locked.kept (.seqDecide _)

/-! ## The record of the node is all that has changed as the outcome is reported (R118, R130) -/

/-- R118, R130: the state as an outcome is reported with this record of the node. -/
def State.told (s : State) (d : Time) (n : NodeId) (r : NodeRec) : State := (s.reporting d).setNode n r

section
variable {s : State} {d : Time} {n : NodeId} {r : NodeRec}

@[simp] theorem State.told_node : (s.told d n r).node n = r := State.node_setNode_same _ _ _
@[simp] theorem State.told_plant : (s.told d n r).plant = s.plant := rfl
@[simp] theorem State.told_op : (s.told d n r).op = s.op := rfl
theorem State.told_freed : lineFreed ({ s with now := max s.now d }.setNode n r) (s.told d n r).freeLine :=
  lineFreed_of_eq rfl

/-- R79: nothing is in flight then, so that a node with neither queued nor pending MOVE has none left. -/
theorem State.told_left (queued : s.queued n .move = false) (pending : r.pending = none) : (s.told d n r).moveLeft n = false := by
  have asked : (s.told d n r).queued n .move = false := queued
  have flying : (s.told d n r).inFlight n .move = false := by
    simp [State.inFlight, State.told, State.setNode, State.reporting, Line.inFlight]
  rw [State.moveLeft, asked, flying, State.told_node, pending]
  rfl

theorem State.told_reports (h : s.line.phase ≠ .idle) : (s.told d n r).reports := State.reporting_reports d h

end

/-! ## A STATUS of the compressor node, as its outcome is reported (R131, R132, R142) -/

/-- Outside COMMISSIONING nothing follows. -/
theorem State.followed_outside {v : State} (n : NodeId) (h : v.op.state ≠ .commissioning) :
    ((v.opNodeCheck n).opFollow).freeLine = v.freeLine := by
  rw [State.opNodeCheck_outside n h, State.opFollow_outside v h]

section
variable {s : State} {d : Time} {n : NodeId} {x : Txn} {st v g : Byte}

/-- R131: the record as a good STATUS is written. -/
def NodeRec.statusWritten (r : NodeRec) (v g : Byte) : NodeRec :=
  { r with failCount := 0, value := some (.num v.toNat), nodeTarget := some g.toNat }

theorem NodeRec.withStatus_written (r : NodeRec) (h : r.kind ≠ some .sensor) :
    { r with failCount := 0 }.withStatus v.toNat g.toNat = r.statusWritten v g := by
  simp only [NodeRec.withStatus, if_neg h, NodeRec.statusWritten]

theorem State.withStatus_answered (h : s.statusTold d n x st v g) :
    (((s.reporting d).answeredAt n).node n).withStatus v.toNat g.toNat = (s.node n).statusWritten v g := by
  rw [State.answeredAt_node]
  exact NodeRec.withStatus_written (s.node n) h.2.2.1

theorem State.outcomeOk_ready (h : s.statusTold d n x st v g) (ready : (s.node n).state = .ready) (still : stBusy st = false) :
    (s.reporting d).outcomeOk x n st [v, g] = (s.told d n ((s.node n).statusWritten v g)).reportStatus x n false v.toNat := by
  have written := State.withStatus_answered h
  obtain ⟨answered, cmd, _, _, fits, fits'⟩ := h
  have state : (((s.reporting d).answeredAt n).node n).state = .ready := by rw [State.answeredAt_node]; exact ready
  rw [State.outcomeOk_status answered cmd (.inl ready) fits fits', still, State.statusReply, if_neg (by simp),
    if_neg (by rw [state]; simp), State.modNode, written, State.answeredAt_setNode]
  rfl

theorem State.outcomeOk_goesBusy (h : s.statusTold d n x st v g) (ready : (s.node n).state = .ready)
    (busy : stBusy st = true) : (s.reporting d).outcomeOk x n st [v, g] =
      (s.told d n (busyRecord (s.reporting d) ((s.node n).statusWritten v g))).reportStatus x n true v.toNat := by
  have written := State.withStatus_answered h
  obtain ⟨answered, cmd, _, queued, fits, fits'⟩ := h
  have state : (((s.reporting d).answeredAt n).node n).state = .ready := by rw [State.answeredAt_node]; exact ready
  rw [State.outcomeOk_status answered cmd (.inl ready) fits fits', busy, State.statusReply, if_pos rfl, if_pos state,
    State.modNode, written, State.answeredAt_setNode,
    State.enterBusy_unqueued (s := (s.reporting d).setNode n _) false queued, State.node_setNode_same,
    State.setNode_setNode]
  rfl

theorem State.outcomeOk_ends (h : s.statusTold d n x st v g) (busy : (s.node n).state = .busy) (still : stBusy st = false)
    (done : (s.node n).pending = none ∨ ∃ p, (s.node n).pending = some p ∧ p.argument = v.toNat) :
    (s.reporting d).outcomeOk x n st [v, g] =
      ((s.told d n (stillRecord (s.node n) v.toNat g.toNat)).reportStatus x n false v.toNat).stillNotice n
        (s.node n).busyFromFault := by
  have written := State.withStatus_answered h
  obtain ⟨answered, cmd, _, queued, fits, fits'⟩ := h
  have state : (((s.reporting d).answeredAt n).node n).state = .busy := by rw [State.answeredAt_node]; exact busy
  have dropped : (((s.reporting d).setNode n ((s.node n).statusWritten v g)).node n).pending = none ∨
      ∃ p, (((s.reporting d).setNode n ((s.node n).statusWritten v g)).node n).pending = some p ∧
        (((s.reporting d).setNode n ((s.node n).statusWritten v g)).node n).value = some (.num p.argument) := by
    rw [State.node_setNode_same]
    rcases done with none | ⟨p, some, argument⟩
    · exact .inl none
    · exact .inr ⟨p, some, by rw [argument]; rfl⟩
  rw [State.outcomeOk_status answered cmd (.inr busy) fits fits', still, State.statusReply, if_neg (by simp), if_pos state,
    State.modNode, written, State.answeredAt_setNode, State.endBusy_kept dropped, State.node_setNode_same,
    State.setNode_setNode, State.answeredAt_node]
  rfl

end

end Sys2Proof.Machine
end

section
/-! SUPPORT for O44. A STATUS of the compressor node at the sequencer (R79, R87 to R90, R142, R151, R164). -/
namespace Sys2Proof.Machine

section
variable {s : State} {n : NodeId} {x : Txn} {b : Bool} {v : Nat}

/-! ## The report of a STATUS (R87, R90) -/

theorem State.seqSteadyCheck_other (h : ∀ k, s.plant.seq.state ≠ .running k) : s.seqSteadyCheck n b v = s := by
  unfold State.seqSteadyCheck
  split
  · rename_i k running
    exact absurd running (h k)
  · rfl

theorem State.seqSteadyCheck_running {k : Nat} (h : s.plant.seq.state = .running k) :
    s.seqSteadyCheck n b v = if s.plant.seq.checkAsked = true ∧ (b = true ∨ v ≠ k) then s.unexpectedValue n else s := by
  rw [State.seqSteadyCheck, h]

/-- R87: where the steady-state check leaves no step in flight, that is all. -/
theorem State.plantStatus_noStep {u : State} (check : (if x.origins.contains .plant then s.seqSteadyCheck n b v else s) = u)
    (noStep : u.plant.seq.state.stepTarget = none) : s.plantStatus n .compressor x b v = u := by
  have calm : u.plant.seq.state ≠ .disengaging := by
    intro e
    simp [e, Seq.stepTarget] at noStep
  unfold State.plantStatus
  dsimp only
  rw [check, State.seqReport_noStep noStep, State.seqStopAgain_other calm, ite_self]

/-- R90: with a step in flight only a STATUS of the shutdown tells anything, and only in STOPPING. -/
theorem State.plantStatus_step {g : Nat} (target : s.plant.seq.state.stepTarget = some g) :
    s.plantStatus n .compressor x b v =
      if x.origins.contains .shutdown ∧ s.op.state = .stopping then (s.seqReport n).seqStopAgain n else s := by
  have unchecked : s.seqSteadyCheck n b v = s := by
    refine State.seqSteadyCheck_other fun k e => ?_
    simp [e, Seq.stepTarget] at target
  unfold State.plantStatus
  dsimp only
  rw [unchecked, ite_self]

/-- R87: a steady-state STATUS in RUNNING(k). -/
theorem State.reportStatus_running {k : Nat} (bound : (s.node n).binding = some (.plant .compressor))
    (state : (s.node n).state = .ready ∨ (s.node n).state = .busy) (asked : Origin.plant ∈ x.origins)
    (running : s.plant.seq.state = .running k) :
    (s.plant.seq.checkAsked = true → (b = true ∨ v ≠ k) →
      compressorFaulted s n .unexpectedValue (s.reportStatus x n b v)) ∧
    (¬ (s.plant.seq.checkAsked = true ∧ (b = true ∨ v ≠ k)) → s.reportStatus x n b v = s) := by
  have steady : x.origins.contains .plant = true := by simpa using asked
  rw [State.reportStatus_compressor bound]
  constructor
  · intro checked away
    have faulted := State.unexpectedValue_faulted state bound (by simp [running])
    have check : (if x.origins.contains .plant then s.seqSteadyCheck n b v else s) = s.unexpectedValue n := by
      rw [if_pos steady, State.seqSteadyCheck_running running, if_pos ⟨checked, away⟩]
    rw [State.plantStatus_noStep check (by rw [faulted.2.2.2.1]; rfl)]
    exact faulted
  · intro fits
    refine State.plantStatus_noStep ?_ (by rw [running]; rfl)
    rw [State.seqSteadyCheck_running running, if_neg fits, ite_self]

/-- With nothing running and no step in flight a STATUS tells the sequencer nothing. -/
theorem State.reportStatus_idle (bound : (s.node n).binding = some (.plant .compressor))
    (idle : ∀ k, s.plant.seq.state ≠ .running k) (noStep : s.plant.seq.state.stepTarget = none) :
    s.reportStatus x n b v = s := by
  rw [State.reportStatus_compressor bound]
  refine State.plantStatus_noStep ?_ noStep
  rw [State.seqSteadyCheck_other idle, ite_self]

theorem State.reportStatus_step {g : Nat} (bound : (s.node n).binding = some (.plant .compressor))
    (target : s.plant.seq.state.stepTarget = some g) (part : s.op.state ≠ .stopping) : s.reportStatus x n b v = s := by
  rw [State.reportStatus_compressor bound, State.plantStatus_step target, if_neg fun k => part k.2]

/-! ## The end of a busy period (R79, R89, R90, R142) -/

theorem State.stillNotice_ready (ready : (s.node n).state = .ready) (bound : (s.node n).binding = some (.plant .compressor))
    (fromFault : Bool) :
    s.stillNotice n fromFault = s.compressorNodeReady n (if fromFault then .fault else .busy) none := by
  rw [State.stillNotice, if_pos ready, State.readyNotice_compressor bound]

/-- R79: a node that becomes READY at the step's target, or elsewhere, in RUN. -/
theorem State.compressorNodeReady_step {g : Nat} (bound : (s.node n).binding = some (.plant .compressor))
    (run : s.op.state = .run) (ready : (s.node n).state = .ready) (left : s.moveLeft n = false)
    (target : s.plant.seq.state.stepTarget = some g) (from_ : NodeState) (c : Option StartCause) :
    ((s.node n).value = some (.num g) →
      s.compressorNodeReady n from_ c = s.completeStep.seqDecide) ∧
    ((s.node n).value ≠ some (.num g) → compressorFaulted s n .unexpectedValue (s.compressorNodeReady n from_ c)) := by
  have free := Seq.stepTarget_fault target
  constructor
  · intro value
    have part : s.completeStep.op.state = .run := (ShareSide.completeStep s).opState.trans run
    rw [State.compressorNodeReady_report free, State.report_completes run ready left target value,
      State.seqStopAgain_outside (by simp [part]), ite_self]
  · intro value
    have faulted := State.report_faults bound run ready left target value
    rw [State.compressorNodeReady_held free faulted.held]
    exact faulted

/-! ## What is asked as an outcome is reported waits for the line (R118, R133) -/

/-- While an outcome is reported the line's record stays. -/
def LineKept (s t : State) : Prop := s.reports → t.line = s.line

theorem LineKept.carried : Carried LineKept where
  refl _ _ := rfl
  trans a b h := (b (State.reports_of_line h (a h))).trans (a h)
  write _ _ _ _ _ _ _ := rfl
  move s n a o _ h := by
    unfold State.askMove
    split
    · exact (State.request_reports _ h).2
    · exact (State.request_reports _ h).2
    all_goals rfl
  revive s n _ := by
    unfold State.startRevival
    split <;> rfl

theorem State.urgentMove.freed {a : Nat} (h : s.urgentMove n a) (reports : s.reports) : s.freeLine.askedMove n a := by
  refine State.urgentMove.askedMove (State.urgent.handOver ?_)
  rcases h with queued | ⟨y, flying, _⟩
  · exact .inl queued
  · rw [reports.2] at flying
    simp at flying

theorem LineKept.leaveFault (s : State) (n : NodeId) : LineKept s (s.leaveFault n) := by
  have moved : LineKept s (s.askMove n 0 .plant) := LineKept.carried.move s n 0 .plant (by simp)
  have entered (u : State) (q : Seq) : LineKept u (u.enterSeq q) := fun _ => rfl
  have written (u : State) : LineKept u u.refreshCool := LineKept.carried.writeCapacity u .cool _
  unfold State.leaveFault
  split
  · exact LineKept.carried.trans (LineKept.carried.trans moved (entered _ _)) (written _)
  · exact LineKept.carried.trans (entered _ _) (written _)

/-! ## FAULT is left (R89) -/

theorem State.enterSeq_disengaging_refreshed (s : State) :
    (s.enterSeq .disengaging).refreshCool.plant.seq.state = .disengaging := by
  rw [State.refreshCool, State.writeCapacity_seq .cool _ ⟨by simp [State.enterSeq_state], by simp [State.enterSeq_state]⟩]
  rfl

/-- R89: DISENGAGING with a MOVE 0, or LOCKOUT. -/
theorem State.leaveFault_left (ready : (s.node n).state = .ready) (sole : s.solePlant n .compressor)
    (named : s.plant.defn.compressor = some n) :
    ((s.valueAbove0 n || s.queuedAbove0 n) = true →
      (s.leaveFault n).plant.seq.state = .disengaging ∧ (s.takesIn n .move → (s.leaveFault n).urgentMove n 0)) ∧
    ((s.valueAbove0 n || s.queuedAbove0 n) = false → lockedOutFrom s s.now (s.leaveFault n)) := by
  constructor
  · intro above
    have left : s.leaveFault n = ((s.askMove n 0 .plant).enterSeq .disengaging).refreshCool := if_pos above
    have side := NodeSide.askMove s n 0 .plant
    obtain ⟨unzoned, unheated⟩ := State.sole_compressor sole.2 named
    rw [left]
    refine ⟨State.enterSeq_disengaging_refreshed _, fun taken => ?_⟩
    have asked : ((s.askMove n 0 .plant).enterSeq .disengaging).urgentMove n 0 :=
      (State.askMove_urgent sole.1 (by simp [ready]) (.inl taken)).congr rfl rfl
    refine asked.writeCapacity (unzoned.congr side.zones) (.inl ?_)
      (.inr ⟨by simp [State.enterSeq_state], by simp [State.enterSeq_state]⟩) .cool _
    show (s.askMove n 0 .plant).plant.defn.auxHeater ≠ some n
    rwa [side.plant]
  · intro low
    have left : s.leaveFault n = (s.enterSeq .lockout).refreshCool := if_neg (by simp [low])
    rw [left]
    exact s.lockOut_locked

theorem ShareSide.leaveFault (s : State) (n : NodeId) : ShareSide s (s.leaveFault n) := by
  unfold State.leaveFault
  split
  · exact (ShareSide.ofPlant ((PlantSide.ofNode (NodeSide.askMove s n 0 .plant)).trans (PlantSide.enterSeq _ _))).trans
      (.refreshCool _)
  · exact (ShareSide.ofPlant (PlantSide.enterSeq s _)).trans (.refreshCool _)

theorem State.rolesOf_congr {s t : State} {n : NodeId} (zones : t.zones = s.zones) (plant : t.plant = s.plant) :
    t.rolesOf n = s.rolesOf n := by
  simp only [State.rolesOf, State.zone, zones, plant]

/-- R89: FAULT left as an outcome is reported, and the line freed. -/
theorem State.leaveFault_freed (ready : (s.node n).state = .ready) (sole : s.solePlant n .compressor)
    (named : s.plant.defn.compressor = some n) (reports : s.reports) :
    ((s.valueAbove0 n || s.queuedAbove0 n) = true →
      (s.leaveFault n).freeLine.plant.seq.state = .disengaging ∧
      (s.takesIn n .move → (s.leaveFault n).freeLine.askedMove n 0)) ∧
    ((s.valueAbove0 n || s.queuedAbove0 n) = false → lockedOutFrom s s.now (s.leaveFault n).freeLine) := by
  have side := NodeSide.freeLine (s.leaveFault n)
  obtain ⟨disengages, locks⟩ := State.leaveFault_left ready sole named
  constructor
  · intro above
    obtain ⟨seq, asked⟩ := disengages above
    exact ⟨by rw [side.plant, seq], fun taken =>
      (asked taken).freed (State.reports_of_line reports (LineKept.leaveFault s n reports))⟩
  · intro low
    exact (locks low).kept (.ofNode side)

end

end Sys2Proof.Machine
end

section
/-! SUPPORT for O44. A STATUS reply of the compressor node, to its end (R79, R87 to R90, R142, R151, R164). -/
namespace Sys2Proof.Machine

section
variable {s : State} {d : Time} {n : NodeId} {x : Txn} {st : Byte} {data : List Byte}

/-- R118, R130, R160: the outcome of a reply, what follows it, and the line freed. -/
def State.afterReply (s : State) (d : Time) (n : NodeId) (x : Txn) (st : Byte) (data : List Byte) : State :=
  ((((s.reporting d).outcomeOk x n st data).opNodeCheck n).opFollow).freeLine

theorem exec_afterReply (h : s.replied d n x st data) : exec .closingQuietEnd s = .next (s.afterReply d n x st data) :=
  exec_replyFollowed h

theorem State.afterReply_outside {v : State} (out : (s.reporting d).outcomeOk x n st data = v)
    (part : v.op.state ≠ .commissioning) : s.afterReply d n x st data = v.freeLine := by
  rw [State.afterReply, out, State.followed_outside n part]

theorem State.afterReply_faulted {v : State} {why : FaultReason} (out : (s.reporting d).outcomeOk x n st data = v)
    (h : compressorFaulted s n why v) : compressorFaulted s n why (s.afterReply d n x st data) := by
  rw [State.afterReply, out]
  exact h.followed

theorem State.afterReply_locked {v : State} {now : Time} (out : (s.reporting d).outcomeOk x n st data = v)
    (h : lockedOutFrom s now v) : lockedOutFrom s now (s.afterReply d n x st data) := by
  rw [State.afterReply, out]
  exact h.followed n

end

section
variable {s : State} {d : Time} {n : NodeId} {x : Txn} {st v g : Byte}

/-! ## The node is READY (R87) -/

/-- R87: a steady-state STATUS in RUNNING(k). -/
theorem State.afterReply_steady (h : s.statusTold d n x st v g) (bound : (s.node n).binding = some (.plant .compressor))
    (run : s.op.state = .run) (ready : (s.node n).state = .ready) (asked : Origin.plant ∈ x.origins) {k : Nat}
    (running : s.plant.seq.state = .running k) :
    (s.plant.seq.checkAsked = true → (stBusy st = true ∨ v.toNat ≠ k) →
      compressorFaulted s n .unexpectedValue (s.afterReply d n x st [v, g])) ∧
    (stBusy st = false → (s.plant.seq.checkAsked = false ∨ v.toNat = k) →
      lineFreed ({ s with now := max s.now d }.setNode n ((s.node n).statusWritten v g)) (s.afterReply d n x st [v, g])) ∧
    (stBusy st = true → s.plant.seq.checkAsked = false →
      lineFreed ({ s with now := max s.now d }.setNode n
        (busyRecord { s with now := max s.now d } ((s.node n).statusWritten v g))) (s.afterReply d n x st [v, g])) := by
  have report (r : NodeRec) (b : Bool) (state : r.state = .ready ∨ r.state = .busy)
      (same : r.binding = (s.node n).binding) :=
    State.reportStatus_running (s := s.told d n r) (n := n) (x := x) (b := b) (v := v.toNat)
      (by rw [State.told_node, same, bound]) (by rwa [State.told_node]) asked running
  have part : s.op.state ≠ .commissioning := by simp [run]
  cases busy : stBusy st with
  | false =>
    obtain ⟨faults, idle⟩ := report ((s.node n).statusWritten v g) false (.inl ready) rfl
    have out := State.outcomeOk_ready h ready busy
    refine ⟨fun checked away => ?_, fun _ fits => ?_, nofun⟩
    · exact State.afterReply_faulted out ((faults checked away).of_cond rfl)
    · have still := idle fun k => by rcases fits with e | e <;> simp [e] at k
      rw [State.afterReply_outside (out.trans still) part]
      exact State.told_freed
  | true =>
    obtain ⟨faults, idle⟩ := report (busyRecord (s.reporting d) ((s.node n).statusWritten v g)) true (.inr rfl) rfl
    have out := State.outcomeOk_goesBusy h ready busy
    refine ⟨fun checked away => ?_, nofun, fun _ unchecked => ?_⟩
    · exact State.afterReply_faulted out ((faults checked away).of_cond rfl)
    · have still := idle fun k => by simp [unchecked] at k
      rw [State.afterReply_outside (out.trans still) part]
      exact State.told_freed

/-! ## A busy period ends (R79, R89, R90, R142) -/

/-- R142: what the end of the busy period is told of the node. -/
structure EndsBusy (s : State) (d : Time) (n : NodeId) (x : Txn) (st v g : Byte) : Prop where
  told : s.statusTold d n x st v g
  busy : (s.node n).state = .busy
  still : stBusy st = false
  done : (s.node n).pending = none ∨ ∃ p, (s.node n).pending = some p ∧ p.argument = v.toNat
  bound : (s.node n).binding = some (.plant .compressor)

theorem EndsBusy.left (h : EndsBusy s d n x st v g) : (s.stillAt d n v g).moveLeft n = false :=
  State.told_left h.told.2.2.2.1 rfl

theorem State.stillAt_node (s : State) (d : Time) (n : NodeId) (v g : Byte) :
    (s.stillAt d n v g).node n = stillRecord (s.node n) v.toNat g.toNat := State.node_setNode_same _ _ _

theorem EndsBusy.ready (_ : EndsBusy s d n x st v g) : ((s.stillAt d n v g).node n).state = .ready := by
  rw [State.stillAt_node]
  rfl

theorem EndsBusy.value (_ : EndsBusy s d n x st v g) : ((s.stillAt d n v g).node n).value = some (.num v.toNat) := by
  rw [State.stillAt_node]
  rfl

theorem EndsBusy.binding (h : EndsBusy s d n x st v g) :
    ((s.stillAt d n v g).node n).binding = some (.plant .compressor) := by
  rw [State.stillAt_node]
  exact h.bound

/-- Where the STATUS itself tells nothing, the end of the busy period does. -/
theorem EndsBusy.outcome (h : EndsBusy s d n x st v g)
    (report : (s.stillAt d n v g).reportStatus x n false v.toNat = s.stillAt d n v g) :
    (s.reporting d).outcomeOk x n st [v, g] = (s.stillAt d n v g).compressorNodeReady n
      (if (s.node n).busyFromFault then .fault else .busy) none := by
  rw [State.outcomeOk_ends h.told h.busy h.still h.done]
  exact (congrArg (State.stillNotice · n (s.node n).busyFromFault) report).trans
    (State.stillNotice_ready h.ready h.binding _)

/-- R79 to R82, R85, R88: a step in flight ends, in RUN. -/
theorem EndsBusy.step (h : EndsBusy s d n x st v g) (run : s.op.state = .run) {k : Nat}
    (target : s.plant.seq.state.stepTarget = some k) :
    (v.toNat = k → stepCompleted s (max s.now d) (s.afterReply d n x st [v, g])) ∧
    (v.toNat ≠ k → compressorFaulted s n .unexpectedValue (s.afterReply d n x st [v, g])) := by
  have report := State.reportStatus_step (s := s.stillAt d n v g) (x := x) (b := false) (v := v.toNat) h.binding target
    (show s.op.state ≠ .stopping by simp [run])
  have out := h.outcome report
  obtain ⟨completes, faults⟩ := State.compressorNodeReady_step (s := s.stillAt d n v g) h.binding run h.ready h.left target
    (if (s.node n).busyFromFault then .fault else .busy) none
  constructor
  · intro value
    have completed := State.completeStep_decided (s := s.stillAt d n v g) target
    have part : (s.stillAt d n v g).completeStep.seqDecide.op.state = .run :=
      ((ShareSide.completeStep _).trans (.seqDecide _)).opState.trans run
    rw [State.afterReply_outside (out.trans (completes (by rw [h.value, value]))) (by simp [part])]
    exact (completed.of_plant rfl rfl).kept (NodeSide.freeLine _) (by rw [State.freeLine_op])
  · intro value
    exact State.afterReply_faulted out ((faults (by rw [h.value]; simpa using value)).of_cond rfl)

theorem State.queuedMove_none {s : State} {n : NodeId} (h : s.queued n .move = false) : s.queuedMove n = none := by
  have none : s.nodes.queue.find? (fun e => decide (e.node = some n) && decide (e.cmd = .move)) = none := by
    rw [List.find?_eq_none]
    simpa [State.queued] using h
  simp only [State.queuedMove, none]

theorem State.queuedAbove0_none {s : State} {n : NodeId} (h : s.queued n .move = false) : s.queuedAbove0 n = false := by
  rw [State.queuedAbove0, State.queuedMove_none h]

/-- R89: a return from FAULT, in RUN. -/
theorem EndsBusy.returns (h : EndsBusy s d n x st v g) (run : s.op.state = .run) (fault : s.plant.seq.state = .fault)
    (fromFault : (s.node n).busyFromFault = true) (sole : s.solePlant n .compressor)
    (named : s.plant.defn.compressor = some n) :
    (0 < v.toNat → (s.afterReply d n x st [v, g]).plant.seq.state = .disengaging ∧
      (s.takesIn n .move → (s.afterReply d n x st [v, g]).askedMove n 0)) ∧
    (v.toNat = 0 → lockedOutFrom s (max s.now d) (s.afterReply d n x st [v, g])) := by
  have report := State.reportStatus_idle (s := s.stillAt d n v g) (x := x) (b := false) (v := v.toNat) h.binding
    (fun k => show s.plant.seq.state ≠ _ by simp [fault]) (show s.plant.seq.state.stepTarget = none by rw [fault]; rfl)
  have out := h.outcome report
  have left := out.trans ((State.compressorNodeReady_return (s := s.stillAt d n v g) fault _ none).trans
    (if_pos (by rw [fromFault]; rfl)))
  have part : ((s.stillAt d n v g).leaveFault n).op.state ≠ .commissioning := by
    rw [(ShareSide.leaveFault _ n).opState]
    show s.op.state ≠ _
    simp [run]
  have reports : (s.stillAt d n v g).reports := State.told_reports (by rw [h.told.1.1.2.1]; simp)
  obtain ⟨disengages, locks⟩ := State.leaveFault_freed (s := s.stillAt d n v g) h.ready ⟨h.binding, sole.2⟩ named reports
  have above : ((s.stillAt d n v g).valueAbove0 n || (s.stillAt d n v g).queuedAbove0 n) = decide (0 < v.toNat) := by
    have unqueued : (s.stillAt d n v g).queuedAbove0 n = false := State.queuedAbove0_none h.told.2.2.2.1
    rw [unqueued, Bool.or_false, State.valueAbove0, h.value]
  rw [State.afterReply_outside left part]
  refine ⟨fun higher => ?_, fun rest => locks (above.trans (by simp [rest]))⟩
  obtain ⟨seq, asked⟩ := disengages (above.trans (by simpa using higher))
  exact ⟨seq, fun taken => asked ((State.takesIn_move taken).imp id .inr)⟩

/-- R90: the watch of a compressor in OFF or LOCKOUT ends, in every part state. -/
theorem EndsBusy.watched (h : EndsBusy s d n x st v g) (watch : s.plant.seq.watch = true)
    (state : s.plant.seq.state ∈ [Seq.off, .lockout]) :
    (v.toNat = 0 → lockedOutFrom s (max s.now d) (s.afterReply d n x st [v, g])) ∧
    (0 < v.toNat → compressorFaulted s n .unexpectedValue (s.afterReply d n x st [v, g])) := by
  have state := List.mem_pair.1 state
  have noStep : s.plant.seq.state.stepTarget = none := by rcases state with e | e <;> rw [e] <;> rfl
  have idle : ∀ k, s.plant.seq.state ≠ .running k := by rcases state with e | e <;> simp [e]
  have report := State.reportStatus_idle (s := s.stillAt d n v g) (x := x) (b := false) (v := v.toNat) h.binding idle noStep
  have out := h.outcome report
  constructor
  · intro rest
    have locked := State.compressorNodeReady_rests (s := s.stillAt d n v g) watch state h.ready (by rw [h.value, rest])
      (if (s.node n).busyFromFault then .fault else .busy) none
    exact State.afterReply_locked out locked
  · intro above
    have faulted := State.compressorNodeReady_watchFails (s := s.stillAt d n v g) h.binding watch state h.ready h.left
      h.value above (if (s.node n).busyFromFault then .fault else .busy) none
    exact State.afterReply_faulted out (faulted.of_cond rfl)

end

end Sys2Proof.Machine
end

section
/-! SUPPORT for O44. A STATUS of the compressor node in STOPPING: the rest that ends it, or the MOVE 0 asked again (R90, R163,
R164). -/
namespace Sys2Proof.Machine

/-! ## The heater outside RUN (R96) -/

theorem State.heaterStart_outside {s : State} (h : s.op.state ≠ .run) : s.heaterStart = s := if_neg fun k => h k.2.2.1

/-- R69, R96: outside RUN a capacity write does not start the heater. -/
theorem State.writeCapacity_heaterOutside {s : State} (i : PoolId) (v : Nat) (h : s.op.state ≠ .run) :
    (s.writeCapacity i v).plant.heater.state = s.plant.heater.state := by
  unfold State.writeCapacity
  split
  · rfl
  · generalize s.arb.writeCapacity i v s.claimRankOf s.now = a
    have told : ((s.setArb a).grantNotices s.arb none).plant = s.plant := State.grantNotices_plant _ _ _
    have part : ((s.setArb a).grantNotices s.arb none).op.state ≠ .run := by
      rw [(ShareSide.ofNode (NodeSide.grantNotices (s.setArb a) s.arb none)).opState]
      exact h
    rw [State.arbiterEvent, State.notices, State.hearCool_heater]
    generalize (s.setArb a).grantNotices s.arb none = u at told part
    have tested : (u.setPlant { u.plant with viewHeat := u.arb.heat.view }).testStopDelay.plant.heater.state =
        s.plant.heater.state := (State.testStopDelay_state _).trans (by rw [← told]; rfl)
    have outside : (u.setPlant { u.plant with viewHeat := u.arb.heat.view }).testStopDelay.op.state ≠ .run := by
      rw [(ShareSide.ofPlant (PlantSide.testStopDelay _)).opState]
      exact part
    unfold State.hearHeat
    dsimp only
    split
    · rw [told]
    · rw [State.heaterStart_outside outside, ite_self, tested]

/-! ## The sequencer at rest (R90, R164) -/

section
variable {s : State} {n : NodeId}

theorem State.completeStep_disengaged (h : s.plant.seq.state = .disengaging) :
    s.completeStep = (s.enterSeq .lockout).refreshCool := by rw [State.completeStep, h]

theorem State.restReport_node (s : State) (m : NodeId) : s.restReport.node m = s.node m := by
  rcases s.restReport_cases with e | e
  · rw [e]
  · rw [e]
    rfl

/-- R164: STOPPING ends with the sequencer's LOCKOUT where the heater is at rest too and no RESTART has come. -/
theorem State.restReport_part (part : s.op.state = .stopping) (rest : s.plant.seq.state = .lockout) :
    s.restReport.op.state =
      if s.plant.heater.state.atRest = true ∧ s.op.soft = .none then .stopped else .stopping := by
  unfold State.restReport
  by_cases h : s.plant.heater.state.atRest = true ∧ s.op.soft = .none
  · rw [if_pos h, if_pos ⟨part, h.2, by rw [rest]; rfl, h.1⟩]
    rfl
  · rw [if_neg h, if_neg fun k => h ⟨k.2.2.2, k.2.1⟩, part]

/-- R90: DISENGAGING has ended in STOPPING. -/
theorem State.disengaged_rests (part : s.op.state = .stopping) (h : s.plant.seq.state = .disengaging) :
    lockedOutFrom s s.now s.completeStep.restReport ∧ s.completeStep.restReport.plant.seq.watch = false ∧
    s.completeStep.restReport.op.state =
      if s.plant.heater.state.atRest = true ∧ s.op.soft = .none then .stopped else .stopping := by
  have target : s.plant.seq.state.stepTarget = some 0 := by rw [h]; rfl
  obtain ⟨_, _, _, _, locks⟩ := State.completeStep_completed target
  have locked := locks h
  have side := ShareSide.completeStep s
  have heater : s.completeStep.plant.heater.state = s.plant.heater.state := by
    rw [State.completeStep_disengaged h]
    exact State.writeCapacity_heaterOutside (s := s.enterSeq .lockout) .cool _ (show s.op.state ≠ .run by simp [part])
  have soft : s.completeStep.op.soft = s.op.soft := by rw [side.op]
  refine ⟨?_, ?_, ?_⟩
  · rw [lockedOutFrom, State.restReport_plant]
    exact locked
  · rw [State.restReport_plant]
    exact (State.completeStep_unwatched target).2 locked.1
  · rw [State.restReport_part (side.opState.trans part) locked.1, heater, soft]

/-! ## The reports in STOPPING (R90) -/

theorem State.seqStopAgain_stands (h : s.broadcastStands = true) : s.seqStopAgain n = s := if_neg (by simp [h])

theorem State.seqStopAgain_unsettled (h : s.settled n = false) : s.seqStopAgain n = s := if_neg (by simp [h])

theorem State.seqStopAgain_asks {v : Nat} (part : s.op.state = .stopping) (h : s.plant.seq.state = .disengaging)
    (ready : (s.node n).state = .ready) (left : s.moveLeft n = false) (value : (s.node n).value = some (.num v))
    (above : 0 < v) (stands : s.broadcastStands = false) : s.seqStopAgain n = s.askMove n 0 .shutdown :=
  if_pos ⟨part, h, State.settled_of ready left, by simp [State.valueAbove0, value, above], stands⟩

theorem NodeSide.seqStopAgain (s : State) (n : NodeId) : NodeSide s (s.seqStopAgain n) := by
  unfold State.seqStopAgain
  split
  · exact NodeSide.askMove s n 0 .shutdown
  · exact NodeSide.refl s

/-- R90: a STATUS of the shutdown. -/
theorem State.reportStatus_stopping {x : Txn} {b : Bool} {v : Nat} (bound : (s.node n).binding = some (.plant .compressor))
    (part : s.op.state = .stopping) (asked : Origin.shutdown ∈ x.origins) (h : s.plant.seq.state = .disengaging) :
    s.reportStatus x n b v = (s.seqReport n).seqStopAgain n := by
  have target : s.plant.seq.state.stepTarget = some 0 := by rw [h]; rfl
  have shutdown : x.origins.contains .shutdown = true := by simpa using asked
  rw [State.reportStatus_compressor bound, State.plantStatus_step target, if_pos ⟨shutdown, part⟩]

/-- R90: at value 0 DISENGAGING ends with the STATUS, and the notice of READY adds nothing. -/
theorem State.stopReport_ends (bound : (s.node n).binding = some (.plant .compressor)) (part : s.op.state = .stopping)
    (h : s.plant.seq.state = .disengaging) (ready : (s.node n).state = .ready) (left : s.moveLeft n = false)
    (value : (s.node n).value = some (.num 0)) :
    (s.seqReport n).seqStopAgain n = s.completeStep.restReport ∧
    ∀ b, s.completeStep.restReport.stillNotice n b = s.completeStep.restReport := by
  obtain ⟨locked, unwatched, _⟩ := State.disengaged_rests part h
  have side := ShareSide.completeStep s
  have record : s.completeStep.restReport.node n = s.completeStep.node n := State.restReport_node _ n
  constructor
  · rw [State.seqReport_completes ready left (by rw [h]; rfl) value, State.seqStopAgain_other locked.held.restless]
  · intro b
    have report : (s.completeStep.restReport.seqReport n).watchReport n = s.completeStep.restReport := by
      rw [State.seqReport_noStep (by rw [locked.1]; rfl), State.watchReport_unwatched unwatched]
    rw [State.stillNotice_ready (by rw [record, side.recs n]; exact ready) (by rw [record, side.recs n]; exact bound),
      State.compressorNodeReady_held (by simp [locked.1]) (by rw [report]; exact locked.held), report]

/-- R90: above 0 the MOVE 0 may be asked again; at the notice of READY too. -/
theorem State.stillNotice_stopping {v : Nat} (bound : (s.node n).binding = some (.plant .compressor))
    (part : s.op.state = .stopping) (h : s.plant.seq.state = .disengaging) (ready : (s.node n).state = .ready)
    (value : (s.node n).value = some (.num v)) (above : 0 < v) (b : Bool) :
    s.stillNotice n b = s ∨ s.stillNotice n b = s.seqStopAgain n := by
  have away : (s.node n).value ≠ some (.num 0) := by
    rw [value]
    simp only [ne_eq, Option.some.injEq, Value.num.injEq]
    omega
  have report : (s.seqReport n).watchReport n = s := by
    rw [State.seqReport_stopping (g := 0) (by rw [h]; rfl) away part, State.watchReport_other (by simp [h])]
  have undecided {u : State} (e : u.plant.seq.state = .disengaging) : u.seqDecide = u := by simp only [State.seqDecide, e]
  rw [State.stillNotice_ready ready bound, State.compressorNodeReady_report (by simp [h]), report]
  cases b with
  | false =>
    have again : (s.seqStopAgain n).plant.seq.state = .disengaging := by rw [(NodeSide.seqStopAgain s n).plant, h]
    exact .inr (undecided again)
  | true => exact .inl (undecided h)

/-- R90: so the MOVE 0 of STOPPING is asked at the STATUS, and perhaps once more at the notice of READY. -/
theorem State.stopReport_again {v : Nat} {o : State} (bound : (s.node n).binding = some (.plant .compressor))
    (part : s.op.state = .stopping) (h : s.plant.seq.state = .disengaging) (ready : (s.node n).state = .ready)
    (value : (s.node n).value = some (.num v)) (above : 0 < v)
    (out : o = (s.seqReport n).seqStopAgain n ∨ ∃ b, o = ((s.seqReport n).seqStopAgain n).stillNotice n b) :
    o = s.seqStopAgain n ∨ o = (s.seqStopAgain n).seqStopAgain n := by
  have away : (s.node n).value ≠ some (.num 0) := by
    rw [value]
    simp only [ne_eq, Option.some.injEq, Value.num.injEq]
    omega
  have side := NodeSide.seqStopAgain s n
  rw [State.seqReport_stopping (g := 0) (by rw [h]; rfl) away part] at out
  rcases out with e | ⟨b, e⟩
  · exact .inl e
  · rw [e]
    refine State.stillNotice_stopping ?_ ?_ ?_ ?_ ?_ above b
    · rw [side.recs n]
      exact bound
    · rw [side.op]
      exact part
    · rw [side.plant, h]
    · rw [side.recs n]
      exact ready
    · rw [side.recs n]
      exact value

/-- R133, R136: a node that a MOVE has been asked of is not settled. -/
theorem State.request_unsettled {e : Entry} (node : e.node = some n) (cmd : e.cmd = .move) (taken : s.takesIn n .move) :
    (s.request e).settled n = false := by
  have asked : (s.request e).asked n .move :=
    (State.asked_iff_stands _ _ _).2 ((State.request_stands node (by rwa [cmd])).mono
      (fun _ _ _ _ _ p => ⟨p.1.trans node, p.2.1.trans cmd⟩))
  have left : (s.request e).moveLeft n = true := (State.moveLeft_iff _ n).2 (.inl asked)
  simp [State.settled, left]

end

/-! ## The reply, to its end (R90, R164) -/

section
variable {s : State} {d : Time} {n : NodeId} {x : Txn} {st v g : Byte}

/-- R131, R142: the record as a STATUS that shows the node still is reported. -/
def NodeRec.stillTold (r : NodeRec) (v g : Byte) : NodeRec :=
  if r.state = .ready then r.statusWritten v g else stillRecord r v.toNat g.toNat

theorem NodeRec.stillTold_fields {r : NodeRec} (pending : r.pending = none) :
    (r.stillTold v g).state = .ready ∧ (r.stillTold v g).pending = none ∧
    (r.stillTold v g).value = some (.num v.toNat) ∧ (r.stillTold v g).binding = r.binding := by
  unfold NodeRec.stillTold
  split
  · rename_i ready
    exact ⟨ready, pending, rfl, rfl⟩
  · exact ⟨rfl, rfl, rfl, rfl⟩

/-- R131, R142: the STATUS is reported, and with the end of a busy period the notice of READY follows. -/
theorem State.outcomeOk_still (h : s.statusTold d n x st v g) (state : (s.node n).state ∈ [NodeState.ready, .busy])
    (still : stBusy st = false) (pending : (s.node n).pending = none) :
    (s.reporting d).outcomeOk x n st [v, g] = (s.told d n ((s.node n).stillTold v g)).reportStatus x n false v.toNat ∨
    ∃ b, (s.reporting d).outcomeOk x n st [v, g] =
      ((s.told d n ((s.node n).stillTold v g)).reportStatus x n false v.toNat).stillNotice n b := by
  rcases List.mem_pair.1 state with ready | busy
  · rw [NodeRec.stillTold, if_pos ready]
    exact .inl (State.outcomeOk_ready h ready still)
  · rw [NodeRec.stillTold, if_neg (by simp [busy])]
    exact .inr ⟨_, State.outcomeOk_ends h busy still (.inl pending)⟩

/-- R90: as an outcome of the node itself is reported, the broadcast stands in the queue or nowhere. -/
theorem State.told_broadcastStands {r : NodeRec} (part : s.op.state = .stopping) (own : ∀ y, s.line.txn = some y → y.node = some n) :
    (s.told d n r).broadcastStands = true ↔ s.broadcastAsked .move := by
  have flying : (s.told d n r).line.inFlight = none := by simp [State.told, State.setNode, State.reporting, Line.inFlight]
  have stopping : (s.told d n r).op.state = .stopping := part
  have asked : s.broadcastAsked .move ↔ ∃ e ∈ s.nodes.queue, e.node = none ∧ e.cmd = .move := by
    refine or_iff_left ?_
    rintro ⟨y, txn, broadcast, _⟩
    simp [own y txn] at broadcast
  have queue : (s.told d n r).nodes.queue = s.nodes.queue := rfl
  rw [asked, State.broadcastStands, flying, stopping, queue]
  simp

/-- R90, R164: a STATUS of the shutdown while the sequencer disengages. -/
theorem State.afterReply_stopping (h : s.statusTold d n x st v g) (bound : (s.node n).binding = some (.plant .compressor))
    (part : s.op.state = .stopping) (state : (s.node n).state ∈ [NodeState.ready, .busy]) (still : stBusy st = false)
    (pending : (s.node n).pending = none) (asked : Origin.shutdown ∈ x.origins)
    (disengaging : s.plant.seq.state = .disengaging) :
    (v.toNat = 0 → lockedOutFrom s (max s.now d) (s.afterReply d n x st [v, g]) ∧
      (s.afterReply d n x st [v, g]).op.state =
        (if s.plant.heater.state.atRest = true ∧ s.op.soft = .none then .stopped else .stopping)) ∧
    (0 < v.toNat → (s.afterReply d n x st [v, g]).plant.seq.state = .disengaging ∧
      (¬ s.broadcastAsked .move → s.takesIn n .move → (s.afterReply d n x st [v, g]).askedMoveBy n 0 .shutdown) ∧
      (s.broadcastAsked .move →
        lineFreed ({ s with now := max s.now d }.setNode n ((s.node n).stillTold v g)) (s.afterReply d n x st [v, g]))) := by
  obtain ⟨ready, unpended, value, binding⟩ := NodeRec.stillTold_fields (r := s.node n) (v := v) (g := g) pending
  have out := State.outcomeOk_still h state still pending
  obtain ⟨⟨⟨_, phase, _, txn, own, _⟩, _⟩, _, _, queued, _⟩ := h
  have left := State.told_left (d := d) queued unpended
  have stands := State.told_broadcastStands (d := d) (r := (s.node n).stillTold v g) part (n := n)
    (fun y e => by rw [txn] at e; exact Option.some.inj e ▸ own)
  have reports : (s.told d n ((s.node n).stillTold v g)).reports := State.told_reports (by simp [phase])
  have node : (s.told d n ((s.node n).stillTold v g)).node n = (s.node n).stillTold v g := State.told_node
  generalize hz : s.told d n ((s.node n).stillTold v g) = z at out left stands reports node
  have plant : z.plant = s.plant := hz ▸ rfl
  have op : z.op = s.op := hz ▸ rfl
  have now : z.now = max s.now d := hz ▸ rfl
  have queue : z.nodes.queue = s.nodes.queue := hz ▸ rfl
  rw [← node] at ready unpended value binding
  rw [← plant] at disengaging
  rw [← op] at part
  rw [State.reportStatus_stopping (binding.trans bound) part asked disengaging] at out
  constructor
  · intro rest
    rw [rest] at value
    obtain ⟨ends, noticed⟩ := State.stopReport_ends (binding.trans bound) part disengaging ready left value
    obtain ⟨locked, _, parts⟩ := State.disengaged_rests part disengaging
    have out : (s.reporting d).outcomeOk x n st [v, g] = z.completeStep.restReport := by
      rcases out with e | ⟨b, e⟩
      · rw [e, ends]
      · rw [e, ends, noticed b]
    rw [lockedOutFrom, plant, now] at locked
    have outside : z.completeStep.restReport.op.state ≠ .commissioning := by
      rw [parts]
      split <;> simp
    refine ⟨State.afterReply_locked out locked, ?_⟩
    rw [State.afterReply_outside out outside, State.freeLine_op, parts, plant, op]
  · intro above
    have again : (s.reporting d).outcomeOk x n st [v, g] = z.seqStopAgain n ∨
        (s.reporting d).outcomeOk x n st [v, g] = (z.seqStopAgain n).seqStopAgain n :=
      State.stopReport_again (binding.trans bound) part disengaging ready value above out
    have side : NodeSide z ((s.reporting d).outcomeOk x n st [v, g]) := by
      rcases again with e | e
      · exact e ▸ NodeSide.seqStopAgain z n
      · exact e ▸ (NodeSide.seqStopAgain z n).trans (NodeSide.seqStopAgain _ n)
    have outside : ((s.reporting d).outcomeOk x n st [v, g]).op.state ≠ .commissioning := by
      rw [side.op, part]
      simp
    rw [State.afterReply_outside rfl outside]
    refine ⟨by rw [(NodeSide.freeLine _).plant, side.plant, disengaging], fun unasked taken => ?_, fun broadcast => ?_⟩
    · have once := State.seqStopAgain_asks part disengaging ready left value above (Bool.eq_false_iff.2 (mt stands.1 unasked))
      have taken : z.queued n .move = true ∨ z.nodes.queue.length < Config.queueMax := by
        rw [State.queued, queue]
        exact State.takesIn_move taken
      rw [State.askMove_queued (by simp [ready])] at once
      have settled : (z.seqStopAgain n).settled n = false := by
        rw [once]
        exact State.request_unsettled rfl rfl (taken.imp id .inr)
      have outcome : (s.reporting d).outcomeOk x n st [v, g] = z.request (z.moveEntry n 0 .shutdown) := by
        rcases again with e | e
        · rw [e, once]
        · rw [e, State.seqStopAgain_unsettled settled, once]
      rw [outcome]
      exact State.request_freed (e := z.moveEntry n 0 .shutdown) reports rfl rfl taken
    · have standing : z.seqStopAgain n = z := State.seqStopAgain_stands (stands.2 broadcast)
      have outcome : (s.reporting d).outcomeOk x n st [v, g] = z := by
        rcases again with e | e
        · rw [e, standing]
        · rw [e, standing, standing]
      rw [outcome, ← hz]
      exact State.told_freed

end

end Sys2Proof.Machine
end

section
/-! SUPPORT for O44. A MOVE reply of the compressor node, and a reply that faults it (R79, R88, R90, R130, R134, R160). -/
namespace Sys2Proof.Machine

/-! ## A reply that faults the node (R88, R130) -/

section
variable {s : State} {d : Time} {n : NodeId} {x : Txn} {st : Byte} {data : List Byte} {why : FaultReason}

theorem State.replyFault_unread (s : State) (n : NodeId) (why : FaultReason) (h : x.noReading) :
    s.replyFault x n why = s.enterFault n why := by
  rw [State.replyFault, State.reportFailure_noReading h]
  rfl

/-- R88: the sequencer enters FAULT with its node. -/
theorem State.afterReply_replyFault (out : (s.reporting d).outcomeOk x n st data = ((s.reporting d).answeredAt n).replyFault x n why)
    (notTravel : why ≠ .travelTimeout) (unread : x.noReading) (bound : (s.node n).binding = some (.plant .compressor))
    (free : s.plant.seq.state ≠ .fault) : compressorFaulted s n why (s.afterReply d n x st data) := by
  rw [State.replyFault_unread _ n why unread] at out
  have bound' : (((s.reporting d).answeredAt n).node n).binding = some (.plant .compressor) := by
    rw [State.answeredAt_node]
    exact bound
  have faulted := State.enterFault_sequencer (s := (s.reporting d).answeredAt n) notTravel bound' free
  exact State.afterReply_faulted out (faulted.of_cond rfl)

/-- R88: a sequencer in FAULT hears nothing of it. -/
theorem State.enterFault_again (notTravel : why ≠ .travelTimeout) (bound : (s.node n).binding = some (.plant .compressor))
    (fault : s.plant.seq.state = .fault) (part : s.op.state ≠ .commissioning) :
    s.enterFault n why = s.faulted n (faultedRecord (s.node n) why) := by
  have unheard : (s.downAt n (faultedRecord (s.node n) why)).downNotice n = s.downAt n (faultedRecord (s.node n) why) := by
    have bound' : ((s.downAt n (faultedRecord (s.node n) why)).node n).binding = some (.plant .compressor) := by
      rw [State.downAt_node]
      exact bound
    rw [State.downNotice, bound']
    exact if_pos fault
  rw [State.enterFault_eq s n notTravel, unheard]
  exact State.opNodeDown_outside n part

theorem State.afterReply_faultAgain (out : (s.reporting d).outcomeOk x n st data = ((s.reporting d).answeredAt n).replyFault x n why)
    (notTravel : why ≠ .travelTimeout) (unread : x.noReading) (bound : (s.node n).binding = some (.plant .compressor))
    (fault : s.plant.seq.state = .fault) (part : s.op.state ≠ .commissioning) :
    lineFreed ({ s with now := max s.now d }.faulted n (faultedRecord { s.node n with failCount := 0 } why))
      (s.afterReply d n x st data) := by
  have bound' : (((s.reporting d).answeredAt n).node n).binding = some (.plant .compressor) := by
    rw [State.answeredAt_node]
    exact bound
  have again := State.enterFault_again (s := (s.reporting d).answeredAt n) notTravel bound' fault part
  rw [State.faulted, State.downAt_answeredAt, State.answeredAt_node] at again
  rw [State.replyFault_unread _ n why unread, again] at out
  rw [State.afterReply_outside out part]
  exact lineFreed_of_eq rfl

end

/-! ## The report of a MOVE (R79, R90, R134) -/

section
variable {s : State} {n : NodeId} {x : Txn}

theorem compressorFaulted.opMoved {s t : State} {n m : NodeId} {why : FaultReason} {res : MoveResult}
    (h : compressorFaulted s n why t) (notFailed : res ≠ .failed) : compressorFaulted s n why (t.opMoved m res) := by
  rw [State.opMoved, if_neg notFailed]
  split
  · exact h
  · exact h

theorem State.reportMove_there (bound : (s.node n).binding = some (.plant .compressor)) :
    s.reportMove x n .alreadyThere =
      if x.origin = .commission then ((s.seqReport n).watchReport n).opMoved n .alreadyThere
      else (s.seqReport n).watchReport n := by
  simp [State.reportMove, bound, State.plantMoved]

theorem State.settled_notReady (h : (s.node n).state ≠ .ready) : s.settled n = false := by simp [State.settled, h]

/-- R134: a node that has gone BUSY on a MOVE that is not the initial one ends nothing. -/
theorem State.reportMove_moving (bound : (s.node n).binding = some (.plant .compressor))
    (busy : (s.node n).state ≠ .ready) (origin : x.origin ≠ .commission) : s.reportMove x n .moving = s := by
  simp [State.reportMove, bound, State.plantMoved, origin, State.seqReport_unsettled (State.settled_notReady busy)]

/-- R90: the initial MOVE that goes BUSY is watched. -/
theorem State.reportMove_initial (bound : (s.node n).binding = some (.plant .compressor))
    (busy : (s.node n).state ≠ .ready) (origin : x.origin = .commission) {res : MoveResult}
    (wentBusy : res = .moving ∨ res = .busyNotTaken) :
    s.reportMove x n res = (s.setSequencer { s.plant.seq with watch := true }).opMoved n res := by
  have unsettled := State.seqReport_unsettled (s := s.setSequencer { s.plant.seq with watch := true })
    (State.settled_notReady (n := n) busy)
  rcases wentBusy with rfl | rfl <;> simp [State.reportMove, bound, State.plantMoved, origin, unsettled]

/-- R160: the initial MOVE has had an outcome, where no RESTART has come. -/
theorem State.opMoved_initial (part : s.op.state = .commissioning) (undone : s.op.done[n] = false) {res : MoveResult}
    (wentBusy : res = .moving ∨ res = .busyNotTaken) :
    ∃ v, s.opMoved n res = v ∧ v.node n = s.node n ∧ v.plant = s.plant ∧ v.op.done[n] = s.op.done[n] ∧
      v.work n = if s.op.soft = .none then .moveDone else s.work n := by
  have notFailed : res ≠ .failed := by rcases wentBusy with rfl | rfl <;> simp
  by_cases soft : s.op.soft = .none
  · refine ⟨s.setWork n .moveDone, ?_, rfl, rfl, rfl, ?_⟩
    · rw [State.opMoved, if_pos ⟨State.commissions_of part soft, undone⟩, if_neg notFailed]
    · rw [if_pos soft]
      simp [State.work, State.setWork]
  · refine ⟨s, ?_, rfl, rfl, rfl, (if_neg soft).symm⟩
    rw [State.opMoved, State.commissions_ended soft]
    simp

end

/-! ## Commissioning goes on beside a BUSY node (R160, R161) -/

/-- R160: the marks of other nodes are all that differs. -/
def MarkedBut (n : NodeId) (s t : State) : Prop := ∃ o, t = s.setOp o ∧ o.done[n] = s.op.done[n] ∧ o.work[n] = s.op.work[n]

theorem MarkedBut.opSettled {s : State} {n : NodeId} (busy : (s.node n).state ≠ .ready)
    (configured : (s.node n).configured = true) (undone : s.op.done[n] = false) (m : NodeId) :
    MarkedBut n s (s.opSettled m) := by
  unfold State.opSettled
  split
  · rename_i settled
    have other : m ≠ n := by
      rintro rfl
      exact busy settled.2.2.1
    refine ⟨s.op.marked m, State.markDone_unfinished (.inr ⟨n, other.symm, configured, undone⟩), ?_, ?_⟩
    · rw [OpControl.marked_done, if_neg other]
    · rw [OpControl.marked_work, if_neg other]
  · exact ⟨s.op, rfl, rfl, rfl⟩

theorem MarkedBut.opFollow {s : State} {n : NodeId} (busy : (s.node n).state ≠ .ready)
    (configured : (s.node n).configured = true) (undone : s.op.done[n] = false) : MarkedBut n s s.opFollow := by
  have fold : ∀ (l : List NodeId) (u : State), MarkedBut n s u → MarkedBut n s (l.foldl State.opSettled u) := by
    intro l
    induction l with
    | nil => exact fun _ h => h
    | cons m l ih =>
      rintro _ ⟨o, rfl, done, work⟩
      obtain ⟨p, e, done', work'⟩ := MarkedBut.opSettled (s := s.setOp o) busy configured (done.trans undone) m
      exact ih _ ⟨p, e, done'.trans done, work'.trans work⟩
  unfold State.opFollow
  split
  · exact fold allNodes s ⟨s.op, rfl, rfl, rfl⟩
  · exact ⟨s.op, rfl, rfl, rfl⟩

/-! ## The reply, to its end -/

section
variable {s : State} {d : Time} {n : NodeId} {x : Txn} {st a : Byte}

/-- R134: the record as the node stands at its target, and as it goes BUSY. -/
def NodeRec.answeredThere (r : NodeRec) (g : Nat) : NodeRec :=
  { r with failCount := 0, target := some g, value := some (.num g) }

/-- R79, R134: "already there" ends the step at once. -/
theorem State.afterReply_there (h : s.answered d n x st [a]) (cmd : x.cmd = .move)
    (bound : (s.node n).binding = some (.plant .compressor)) (ready : (s.node n).state = .ready) (none : s.noMove n)
    (run : s.op.state = .run) (still : stBusy st = false) (took : stSequence st = false) (fits : a = byteOf x.argument) {k : Nat}
    (target : s.plant.seq.state.stepTarget = some k) :
    (x.argument = k → stepCompleted s (max s.now d) (s.afterReply d n x st [a])) ∧
    (x.argument ≠ k → compressorFaulted s n .unexpectedValue (s.afterReply d n x st [a])) := by
  have taken : x.fitsTaken false a = true := by simp [Txn.fitsTaken, fits]
  have out : (s.reporting d).outcomeOk x n st [a] =
      (s.told d n ((s.node n).answeredThere x.argument)).reportMove x n .alreadyThere := by
    rw [State.outcomeOk_move h cmd (.inl ready), still, took, State.moveReply, if_pos taken, State.modNode,
      State.answeredAt_setNode, State.answeredAt_node]
    rfl
  have left := State.told_left (d := d) (r := (s.node n).answeredThere x.argument) none.1 none.2
  have node : (s.told d n ((s.node n).answeredThere x.argument)).node n = (s.node n).answeredThere x.argument :=
    State.told_node
  have bound' : ((s.told d n ((s.node n).answeredThere x.argument)).node n).binding = some (.plant .compressor) := by
    rw [node]
    exact bound
  have ready' : ((s.told d n ((s.node n).answeredThere x.argument)).node n).state = .ready := by
    rw [node]
    exact ready
  have value : ((s.told d n ((s.node n).answeredThere x.argument)).node n).value = some (.num x.argument) := by
    rw [node]
    rfl
  rw [State.reportMove_there bound'] at out
  constructor
  · rintro rfl
    have report := State.report_completes (s := s.told d n ((s.node n).answeredThere x.argument)) run ready' left target value
    have part : (s.told d n ((s.node n).answeredThere x.argument)).completeStep.op.state = .run :=
      (ShareSide.completeStep _).opState.trans run
    rw [report, State.opMoved_outside n _ (by simp [part]), ite_self] at out
    rw [State.afterReply_outside out (by simp [part])]
    have completed := State.completeStep_completed (s := s.told d n ((s.node n).answeredThere x.argument)) target
    exact (completed.of_plant rfl rfl).kept (NodeSide.freeLine _) (by rw [State.freeLine_op])
  · intro away
    have faulted := State.report_faults (s := s.told d n ((s.node n).answeredThere x.argument)) bound' run ready' left target
      (by rw [value]; simpa using away)
    refine State.afterReply_faulted out ?_
    split
    · exact (faulted.opMoved (by simp)).of_cond rfl
    · exact faulted.of_cond rfl

/-- R88, R134: a refused MOVE. -/
theorem State.outcomeOk_refused (h : s.answered d n x st [a]) (cmd : x.cmd = .move) (ready : (s.node n).state = .ready)
    (kind : (s.node n).kind = some .compressor) (still : stBusy st = false) (refused : stSequence st = true)
    (fits : a = 0xFF#8) :
    (s.reporting d).outcomeOk x n st [a] = ((s.reporting d).answeredAt n).replyFault x n .refusedMove := by
  rw [State.outcomeOk_move h cmd (.inl ready), still, refused]
  refine State.moveReply_fault (.inl ⟨rfl, rfl, fits, ?_, rfl⟩)
  rw [State.answeredAt_node]
  exact fun e => absurd (kind.symm.trans e) (by simp)

/-- R134: the node goes BUSY: the MOVE taken, or left for its pending move. -/
theorem State.outcomeOk_movesBusy (h : s.answered d n x st [a]) (cmd : x.cmd = .move) (ready : (s.node n).state = .ready)
    (none : s.noMove n) (busy : stBusy st = true) :
    (stSequence st = false → a = byteOf x.argument → (s.reporting d).outcomeOk x n st [a] =
      (s.told d n (busyRecord (s.reporting d) { s.node n with failCount := 0, target := some x.argument })).reportMove x n
        .moving) ∧
    (stSequence st = true → a = 0xFF#8 → (s.reporting d).outcomeOk x n st [a] =
      (s.told d n (busyRecord (s.reporting d)
        { s.node n with failCount := 0, pending := some ⟨x.argument, x.origin⟩ })).reportMove x n .busyNotTaken) := by
  have entered (r : NodeRec) : ((s.reporting d).setNode n r).enterBusy n false = s.told d n (busyRecord (s.reporting d) r) := by
    rw [State.enterBusy_unqueued (s := (s.reporting d).setNode n r) false none.1, State.node_setNode_same,
      State.setNode_setNode]
    rfl
  constructor
  · intro took fits
    have taken : x.fitsTaken false a = true := by simp [Txn.fitsTaken, fits]
    rw [State.outcomeOk_move h cmd (.inl ready), busy, took, State.moveReply, if_pos taken]
    dsimp only
    rw [State.modNode, State.answeredAt_setNode, State.answeredAt_node, entered]
    rfl
  · intro refused fits
    have taken : x.fitsTaken true a = true := by simp [Txn.fitsTaken, fits]
    rw [State.outcomeOk_move h cmd (.inl ready), busy, refused, State.moveReply, if_pos taken]
    dsimp only
    rw [State.modNode, State.answeredAt_setNode, State.answeredAt_node, entered]
    rfl

/-- R90, R160: the initial MOVE that goes BUSY. -/
theorem State.afterReply_initial (h : s.answered d n x st [a]) (cmd : x.cmd = .move)
    (bound : (s.node n).binding = some (.plant .compressor)) (ready : (s.node n).state = .ready) (none : s.noMove n)
    (part : s.op.state = .commissioning) (origin : x.origin = .commission) (busy : stBusy st = true)
    (undone : s.op.done[n] = false) (configured : (s.node n).configured = true)
    (fits : (stSequence st = false ∧ a = byteOf x.argument) ∨ (stSequence st = true ∧ a = 0xFF#8)) :
    ((s.afterReply d n x st [a]).node n).state = .busy ∧
    (s.afterReply d n x st [a]).plant.seq = { s.plant.seq with watch := true } ∧
    (s.afterReply d n x st [a]).work n = (if s.op.soft = .none then .moveDone else s.work n) := by
  obtain ⟨took, refused⟩ := State.outcomeOk_movesBusy h cmd ready none busy
  obtain ⟨r, res, out, wentBusy, binding, conf⟩ : ∃ r res,
      (s.reporting d).outcomeOk x n st [a] = (s.told d n (busyRecord (s.reporting d) r)).reportMove x n res ∧
      (res = .moving ∨ res = .busyNotTaken) ∧ r.binding = (s.node n).binding ∧ r.configured = (s.node n).configured := by
    rcases fits with ⟨seq, fit⟩ | ⟨seq, fit⟩
    · exact ⟨_, _, took seq fit, .inl rfl, rfl, rfl⟩
    · exact ⟨_, _, refused seq fit, .inr rfl, rfl, rfl⟩
  have node : (s.told d n (busyRecord (s.reporting d) r)).node n = busyRecord (s.reporting d) r := State.told_node
  rw [State.reportMove_initial (by rw [node]; exact binding.trans bound) (by rw [node]; simp [busyRecord]) origin wentBusy]
    at out
  generalize hu : (s.told d n (busyRecord (s.reporting d) r)).setSequencer
    { (s.told d n (busyRecord (s.reporting d) r)).plant.seq with watch := true } = u at out
  have unode : u.node n = busyRecord (s.reporting d) r := hu ▸ node
  have useq : u.plant.seq = { s.plant.seq with watch := true } := hu ▸ rfl
  have uop : u.op = s.op := hu ▸ rfl
  have moved := State.opMoved_initial (s := u) (n := n) (res := res) (by rw [uop, part]) (by rw [uop, undone]) wentBusy
  obtain ⟨v, e, vnode, vplant, vdone, vwork⟩ := moved
  rw [e] at out
  rw [unode] at vnode
  rw [uop, undone] at vdone
  have uwork : u.work n = s.work n := by rw [State.work, uop]; rfl
  rw [uop, uwork] at vwork
  have waits : (v.node n).state ≠ .ready := by simp [vnode, busyRecord]
  obtain ⟨o, followed, _, work⟩ := MarkedBut.opFollow waits (by rw [vnode]; exact conf.trans configured) vdone
  have side := NodeSide.freeLine (v.setOp o)
  rw [State.afterReply, out, State.opNodeCheck_notReady waits, followed]
  refine ⟨?_, ?_, ?_⟩
  · rw [side.recs n]
    show (v.node n).state = .busy
    rw [vnode]
    rfl
  · rw [side.plant]
    exact (congrArg Plant.seq vplant).trans useq
  · rw [State.work, State.freeLine_op]
    exact work.trans vwork

end

end Sys2Proof.Machine
end

section
/-! SUPPORT for O44. The restore of a plant node's target, which is URGENT: whether it is queued (R133, R135, R138, R149). -/
namespace Sys2Proof.Machine

theorem List.find?_sole {α : Type} {p : α → Bool} {l : List α} {a : α} (mem : a ∈ l) (holds : p a = true)
    (sole : ∀ b ∈ l, p b = true → b = a) : l.find? p = some a := by
  cases found : l.find? p with
  | none => simp [List.find?_eq_none.1 found a mem] at holds
  | some b => rw [sole b (List.mem_of_find?_eq_some found) (List.find?_some found)]

theorem State.queuedMove_some {s : State} {n : NodeId} {a : Nat} (h : s.queuedMove n = some a) : s.queued n .move = true := by
  by_contra none
  rw [State.queuedMove_none (Bool.eq_false_iff.2 none)] at h
  simp at h

/-- R133: the one MOVE queued for the node. -/
theorem State.queuedMove_insert {s : State} {n : NodeId} {e : Entry} {q : List Entry} (node : e.node = some n)
    (cmd : e.cmd = .move) (others : ∀ y ∈ q, ¬ (y.node = some n ∧ y.cmd = .move)) :
    (s.setQueue (insertEntry e q)).queuedMove n = some e.argument := by
  have found : (insertEntry e q).find? (fun e => decide (e.node = some n) && decide (e.cmd = .move)) = some e := by
    refine List.find?_sole ((mem_insertEntry _ _ _).2 (.inl rfl)) (by simp [node, cmd]) fun y hy own => ?_
    rcases (mem_insertEntry _ _ _).1 hy with rfl | hy
    · rfl
    · exact absurd (by simpa using own) (others y hy)
  have queue : (s.setQueue (insertEntry e q)).nodes.queue = insertEntry e q := rfl
  rw [State.queuedMove, queue, found]

/-- R136, R138: an URGENT MOVE, asked where none is queued while an outcome is reported, is queued if and only if there is
room or a NORMAL entry to displace. -/
theorem State.restored_queuedMove {s : State} {n : NodeId} {e : Entry} (reports : s.reports) (queued : s.queued n .move = false)
    (node : e.node = some n) (cmd : e.cmd = .move) (urgent : e.urgent = true) :
    (s.takesUrgent → (s.request e).queuedMove n = some e.argument) ∧
    (¬ s.takesUrgent → (s.request e).queuedMove n = none) := by
  have others := State.not_queued queued
  have differs : ∀ y ∈ s.nodes.queue, e.same y = false := fun y hy =>
    Bool.eq_false_iff.2 fun same => others y hy (by rw [← node, ← cmd]; exact ((Entry.same_iff e y).1 same).imp Eq.symm Eq.symm)
  have taken (free : s.takesUrgent) : (s.joinQueue e).nodes.queue ≠ s.nodes.queue := by
    intro same
    rcases State.request_urgent urgent (.inl cmd) (.inr free) with ⟨y, hy, own, move, _⟩ | ⟨y, hy, _⟩
    · rw [(State.request_reports e reports).1, same] at hy
      exact others y hy ⟨own.trans node, move.trans cmd⟩
    · rw [(State.request_reports e reports).2, reports.2] at hy
      simp at hy
  rw [(State.request_reports e reports).1]
  have j := s.joinQueue_joins e
  generalize s.joinQueue e = t at j taken
  cases j with
  | entry old q mem same _ =>
    rw [differs old mem] at same
    simp at same
  | flight x fl _ _ _ _ =>
    rw [reports.2] at fl
    simp at fl
  | place room _ =>
    exact ⟨fun _ => State.queuedMove_insert node cmd others, fun free => absurd (.inl room) free⟩
  | displaces v q _ _ heq _ =>
    refine ⟨fun _ => State.queuedMove_insert node cmd fun y hy => others y ((mem_removeLastNormal heq).2 hy), fun free => ?_⟩
    exact absurd (.inr ⟨v, (mem_removeLastNormal (x := v) heq).1, removeLastNormal_normal heq⟩) free
  | refused _ _ _ _ =>
    refine ⟨fun free => absurd (s.refuseEntry_queue e) (taken free), fun _ => ?_⟩
    have queue := s.refuseEntry_queue e
    rw [State.queuedMove, queue]
    exact State.queuedMove_none queued

theorem NodeSide.restore (s : State) (n : NodeId) : NodeSide s (s.restore n) := by
  unfold State.restore
  split
  · exact NodeSide.refl s
  · split
    · exact NodeSide.refl s
    · exact NodeSide.request s _

theorem LineKept.restore (s : State) (n : NodeId) : LineKept s (s.restore n) := by
  intro h
  unfold State.restore
  split
  · rfl
  · split
    · rfl
    · exact (State.request_reports _ h).2

/-- R149: the restored target is queued where no MOVE is, and where an URGENT request is taken. -/
theorem State.restore_queuedMove {s : State} {n : NodeId} {role : PlantRole} (reports : s.reports)
    (bound : (s.node n).binding = some (.plant role)) (a : Nat) :
    (s.restore n).queuedMove n = some a ↔ s.queuedMove n = some a ∨
      (s.queued n .move = false ∧ (s.node n).target = some a ∧ s.takesUrgent) := by
  by_cases none : (s.node n).target = none ∨ s.queued n .move = true
  · rw [State.restore_none none]
    refine ⟨.inl, fun h => h.resolve_right ?_⟩
    rintro ⟨queued, target, _⟩
    rcases none with h | h
    · simp [h] at target
    · simp [queued] at h
  · obtain ⟨noTarget, notQueued⟩ := not_or.1 none
    have queued : s.queued n .move = false := by simpa using notQueued
    obtain ⟨g, target⟩ := Option.ne_none_iff_exists'.1 noTarget
    have urgent : s.plantBound n = true := by rw [State.plantBound, bound]
    have asked : s.restore n = s.request ⟨some n, .move, g, s.plantBound n, .restore, []⟩ := by
      rw [State.restore, target]
      exact if_neg notQueued
    obtain ⟨takes, refuses⟩ := State.restored_queuedMove (e := ⟨some n, .move, g, s.plantBound n, .restore, []⟩) reports
      queued rfl rfl urgent
    rw [asked, State.queuedMove_none queued, target]
    by_cases free : s.takesUrgent
    · rw [takes free]
      simp [queued, free]
    · rw [refuses free]
      simp [free]

end Sys2Proof.Machine
end

section
/-! SUPPORT for O44. The compressor node comes back to READY with an IDENT, and a watched one whose MOVE fails (R85, R89, R90,
R144, R147 to R149). -/
namespace Sys2Proof.Machine

section
variable {s : State} {d : Time} {n : NodeId} {x : Txn} {st k ver : Byte}

/-! ## The node is back (R147 to R149) -/

/-- R147, R148: the record as the IDENT brings the node to READY. -/
def NodeRec.back (r : NodeRec) (ver : Byte) : NodeRec :=
  if r.state = .starting then { r with failCount := 0 }.started ver
  else { { r with failCount := 0 }.retried ver with state := .ready }

theorem NodeRec.back_fields (r : NodeRec) (ver : Byte) :
    (r.back ver).state = .ready ∧ (r.back ver).version = some ver ∧ (r.back ver).value = r.value ∧
    (r.back ver).binding = r.binding ∧ (r.back ver).target = r.target := by
  unfold NodeRec.back
  split <;> exact ⟨rfl, rfl, rfl, rfl, rfl⟩

/-- R149: a start-up that ends with a restore. -/
abbrev NodeRec.restored (r : NodeRec) : Prop := r.state = .starting ∧ restores r.cause

/-- R147 to R149: the state in which the READY that an IDENT has brought is told to the owner. -/
def State.backAt (s : State) (d : Time) (n : NodeId) (ver : Byte) : State :=
  if (s.node n).restored then (s.told d n ((s.node n).back ver)).restore n else s.told d n ((s.node n).back ver)

/-- R151: the cause that the notice of READY gives. -/
def NodeRec.backCause (r : NodeRec) : Option StartCause := if r.state = .starting then r.cause else none

theorem State.outcomeOk_identified (h : s.identified d n x st k ver) :
    (s.reporting d).outcomeOk x n st [k, ver] =
      (s.backAt d n ver).readyNotice n (s.node n).state (s.node n).backCause := by
  obtain ⟨⟨_, hi, hl, hr, hf⟩, cmd, same, known, back⟩ := h
  have node : ((s.reporting d).answeredAt n).node n = { s.node n with failCount := 0 } := State.answeredAt_node _ n
  have fits : kindOfByte k ≠ none ∧ kindOfByte k = (((s.reporting d).answeredAt n).node n).kind := by
    rw [node]
    exact ⟨same ▸ known, same⟩
  rcases back with starting | ⟨fault, retry, step⟩
  · rw [State.outcomeOk_starting (s := s.reporting d) x st _ starting, State.replyStarting_ident hi hf hl hr cmd,
      if_pos fits, State.startEnds_eq, State.answeredAt_setNode, node]
    have brought : (s.node n).back ver = { s.node n with failCount := 0 }.started ver := if_pos starting
    have cause : (s.node n).backCause = (s.node n).cause := if_pos starting
    rw [State.backAt, brought, cause]
    by_cases given : restores (s.node n).cause
    · rw [if_pos given, if_pos ⟨starting, given⟩, starting]
      rfl
    · rw [if_neg given, if_neg fun h => given h.2, starting]
      rfl
  · have step' : (((s.reporting d).answeredAt n).node n).retryStep ≠ some (.ident true) := by
      rw [node]
      exact step
    rw [State.outcomeOk_fault (s := s.reporting d) st _ fault retry, State.replyRetry_ident cmd hi hf hl hr, if_pos fits,
      State.retrySucceeds_ready ver step', State.answeredAt_setNode, node]
    have other : ¬ (s.node n).state = .starting := by simp [fault]
    have brought : (s.node n).back ver = { { s.node n with failCount := 0 }.retried ver with state := .ready } := if_neg other
    have cause : (s.node n).backCause = none := if_neg other
    rw [State.backAt, brought, cause, if_neg fun h => other h.1, fault]
    rfl

theorem NodeSide.backAt (s : State) (d : Time) (n : NodeId) (ver : Byte) :
    NodeSide (s.told d n ((s.node n).back ver)) (s.backAt d n ver) := by
  unfold State.backAt
  split
  · exact NodeSide.restore _ n
  · exact NodeSide.refl _

theorem State.backAt_node (s : State) (d : Time) (n : NodeId) (ver : Byte) :
    ((s.backAt d n ver).node n).state = .ready ∧ ((s.backAt d n ver).node n).version = some ver ∧
    ((s.backAt d n ver).node n).value = (s.node n).value ∧ ((s.backAt d n ver).node n).binding = (s.node n).binding := by
  obtain ⟨state, version, value, binding, _⟩ := (s.node n).back_fields ver
  rw [(NodeSide.backAt s d n ver).recs n, State.told_node]
  exact ⟨state, version, value, binding⟩

theorem State.backAt_reports (h : s.line.phase ≠ .idle) : (s.backAt d n ver).reports := by
  have told : (s.told d n ((s.node n).back ver)).reports := State.told_reports h
  unfold State.backAt
  split
  · exact State.reports_of_line told (LineKept.restore _ n told)
  · exact told

/-- R149: the MOVE that is queued as the node is READY again. -/
theorem State.backAt_queuedMove {role : PlantRole} (bound : (s.node n).binding = some (.plant role))
    (phase : s.line.phase ≠ .idle) (a : Nat) : (s.backAt d n ver).queuedMove n = some a ↔ s.moveAtReady n a := by
  obtain ⟨_, _, _, binding, target⟩ := (s.node n).back_fields ver
  have cause : (s.node n).restored ↔ (s.node n).state = .starting ∧
      (s.node n).cause ∈ [some StartCause.restart, some .revival, some .retry] := by simp [NodeRec.restored, restores]
  have queue : (s.told d n ((s.node n).back ver)).queuedMove n = s.queuedMove n := rfl
  unfold State.backAt
  split
  · rename_i restored
    have asked := State.restore_queuedMove (s := s.told d n ((s.node n).back ver)) (n := n) (State.told_reports phase)
      (by rw [State.told_node, binding]; exact bound) a
    rw [State.told_node, target, queue] at asked
    obtain ⟨starting, given⟩ := cause.1 restored
    exact asked.trans (or_congr Iff.rfl ⟨fun h => ⟨starting, given, h⟩, fun h => h.2.2⟩)
  · rename_i plain
    rw [queue]
    exact ⟨.inl, fun h => h.resolve_right fun k => plain (cause.2 ⟨k.1, k.2.1⟩)⟩

theorem State.backAt_takesIn {role : PlantRole} (bound : (s.node n).binding = some (.plant role))
    (phase : s.line.phase ≠ .idle) (taken : s.takesIn n .move) : (s.backAt d n ver).takesIn n .move := by
  have plain : (s.told d n ((s.node n).back ver)).takesIn n .move := (State.takesIn_move taken).imp id .inr
  by_cases asked : ∃ a, s.moveAtReady n a
  · obtain ⟨a, asked⟩ := asked
    exact .inl (State.queuedMove_some ((State.backAt_queuedMove bound phase a).2 asked))
  · have none : (s.node n).restored → (s.node n).target = none ∨ s.queued n .move = true := by
      rintro ⟨starting, given⟩
      by_contra h
      obtain ⟨some, unqueued⟩ := not_or.1 h
      obtain ⟨g, target⟩ := Option.ne_none_iff_exists'.1 some
      have room := (State.takesIn_move taken).resolve_left unqueued
      exact asked ⟨g, .inr ⟨starting, by simpa using given, by simpa using unqueued, target, .inl room⟩⟩
    unfold State.backAt
    split
    · rename_i restored
      rw [State.restore_none]
      · exact plain
      · rw [State.told_node, ((s.node n).back_fields ver).2.2.2.2]
        exact none restored
    · exact plain

theorem State.valueAbove0_iff {s : State} {n : NodeId} :
    s.valueAbove0 n = true ↔ ∃ v, (s.node n).value = some (.num v) ∧ 0 < v := by
  cases value : (s.node n).value with
  | none => simp [State.valueAbove0, value]
  | some w => cases w <;> simp [State.valueAbove0, value]

theorem State.queuedAbove0_iff {s : State} {n : NodeId} : s.queuedAbove0 n = true ↔ ∃ a, s.queuedMove n = some a ∧ 0 < a := by
  cases queued : s.queuedMove n with
  | none => simp [State.queuedAbove0, queued]
  | some a => simp [State.queuedAbove0, queued]

theorem State.backAt_above {role : PlantRole} (bound : (s.node n).binding = some (.plant role))
    (phase : s.line.phase ≠ .idle) :
    ((s.backAt d n ver).valueAbove0 n || (s.backAt d n ver).queuedAbove0 n) = true ↔
      (∃ v, (s.node n).value = some (.num v) ∧ 0 < v) ∨ ∃ a, s.moveAtReady n a ∧ 0 < a := by
  rw [Bool.or_eq_true, State.valueAbove0_iff, State.queuedAbove0_iff, (s.backAt_node d n ver).2.2.1]
  simp only [State.backAt_queuedMove bound phase]

/-- R89, R147 to R149: a sequencer in FAULT, outside COMMISSIONING: a return takes it out, and another start-up does not. -/
theorem State.afterReply_back (h : s.identified d n x st k ver) (sole : s.solePlant n .compressor)
    (named : s.plant.defn.compressor = some n) (part : s.op.state ≠ .commissioning) (fault : s.plant.seq.state = .fault) :
    ((s.afterReply d n x st [k, ver]).node n).state = .ready ∧
    ((s.afterReply d n x st [k, ver]).node n).version = some ver ∧
    (isReturn (s.node n).state (s.node n).backCause = true →
      (((∃ v, (s.node n).value = some (.num v) ∧ 0 < v) ∨ ∃ a, s.moveAtReady n a ∧ 0 < a) →
        (s.afterReply d n x st [k, ver]).plant.seq.state = .disengaging ∧
        (s.takesIn n .move → (s.afterReply d n x st [k, ver]).askedMove n 0)) ∧
      (¬ ((∃ v, (s.node n).value = some (.num v) ∧ 0 < v) ∨ ∃ a, s.moveAtReady n a ∧ 0 < a) →
        lockedOutFrom s (max s.now d) (s.afterReply d n x st [k, ver]))) ∧
    (isReturn (s.node n).state (s.node n).backCause = false → (s.afterReply d n x st [k, ver]).plant = s.plant) := by
  have phase : s.line.phase ≠ .idle := by rw [h.1.1.2.1]; simp
  obtain ⟨ready, version, _, binding⟩ := s.backAt_node d n ver
  have side := NodeSide.backAt s d n ver
  have bound := binding.trans sole.1
  have back : (s.backAt d n ver).plant = s.plant := side.plant
  have out := (State.outcomeOk_identified h).trans ((State.readyNotice_compressor bound _ _).trans
    (State.compressorNodeReady_return (by rw [back]; exact fault) _ _))
  have part' : (s.backAt d n ver).op.state ≠ .commissioning := by rw [side.op]; exact part
  cases returns : isReturn (s.node n).state (s.node n).backCause with
  | false =>
    rw [returns, if_neg (by simp)] at out
    have freed := NodeSide.freeLine (s.backAt d n ver)
    rw [State.afterReply_outside out part']
    refine ⟨?_, ?_, nofun, fun _ => freed.plant.trans back⟩
    · rw [freed.recs n]
      exact ready
    · rw [freed.recs n]
      exact version
  | true =>
    rw [returns, if_pos rfl] at out
    have left := (ShareSide.leaveFault (s.backAt d n ver) n).trans (.ofNode (NodeSide.freeLine _))
    have sole' : (s.backAt d n ver).solePlant n .compressor := by
      refine ⟨bound, ?_⟩
      rw [State.rolesOf_congr side.zones side.plant]
      exact sole.2
    obtain ⟨disengages, locks⟩ := State.leaveFault_freed ready sole' (by rw [back]; exact named)
      (State.backAt_reports phase)
    have above := State.backAt_above (d := d) (ver := ver) sole.1 phase
    rw [lockedOutFrom, back, side.now] at locks
    rw [State.afterReply_outside out (by rw [(ShareSide.leaveFault _ n).opState]; exact part')]
    refine ⟨?_, ?_, fun _ => ⟨fun high => ?_, fun low => ?_⟩, nofun⟩
    · rw [left.recs n]
      exact ready
    · rw [left.recs n]
      exact version
    · obtain ⟨seq, asked⟩ := disengages (above.2 high)
      exact ⟨seq, fun taken => asked (State.backAt_takesIn sole.1 phase taken)⟩
    · exact locks (Bool.eq_false_iff.2 (mt above.1 low))

/-- R90: a watched compressor that is READY again at value 0, in every part state. -/
theorem State.afterReply_watchedBack (h : s.identified d n x st k ver) (bound : (s.node n).binding = some (.plant .compressor))
    (watch : s.plant.seq.watch = true) (state : s.plant.seq.state = .off ∨ s.plant.seq.state = .lockout)
    (value : (s.node n).value = some (.num 0)) : lockedOutFrom s (max s.now d) (s.afterReply d n x st [k, ver]) := by
  obtain ⟨ready, _, kept, binding⟩ := s.backAt_node d n ver
  have side := NodeSide.backAt s d n ver
  have out := (State.outcomeOk_identified h).trans (State.readyNotice_compressor (binding.trans bound) _ _)
  have back : (s.backAt d n ver).plant = s.plant := side.plant
  have locked := State.compressorNodeReady_rests (s := s.backAt d n ver) (by rw [back, watch]) (by rw [back]; exact state) ready
    (kept.trans value) (s.node n).state (s.node n).backCause
  rw [lockedOutFrom, back, side.now] at locked
  exact State.afterReply_locked out locked

end

/-! ## A MOVE of a watched compressor fails (R90, R144) -/

theorem State.reportMove_failed {s : State} {n : NodeId} {x : Txn} (bound : (s.node n).binding = some (.plant .compressor))
    (origin : x.origin ≠ .commission) : s.reportMove x n .failed = (s.seqReport n).watchReport n := by
  simp [State.reportMove, bound, State.plantMoved, origin]

/-- R90: the second failure of a MOVE that is not the initial one, above value 0. -/
theorem State.outcomeFailed_watched {s : State} {d : Time} {n : NodeId} {x : Txn} {v : Nat} (cmd : x.cmd = .move)
    (origin : x.origin ≠ .commission) (ready : (s.node n).state = .ready) (none : s.noMove n)
    (few : (s.node n).failCount < 2) (bound : (s.node n).binding = some (.plant .compressor))
    (watch : s.plant.seq.watch = true) (state : s.plant.seq.state = .off ∨ s.plant.seq.state = .lockout)
    (value : (s.node n).value = some (.num v)) (above : 0 < v) :
    compressorFaulted s n .unexpectedValue ((s.reporting d).outcomeFailed x n) := by
  have unread : x.noReading := fun read => by rw [cmd] at read; simp at read
  have node : (s.told d n (s.node n).failedOnce).node n = (s.node n).failedOnce := State.told_node
  have noStep : s.plant.seq.state.stepTarget = Option.none := by rcases state with e | e <;> rw [e] <;> rfl
  have report : (s.reporting d).outcomeFailed x n =
      ((s.told d n (s.node n).failedOnce).seqReport n).watchReport n := by
    rw [State.outcomeFailed_active (s := s.reporting d) x (.inl ready)]
    refine (if_pos few).trans ?_
    have failed : (s.reporting d).failedAt n = s.told d n (s.node n).failedOnce := if_pos few
    rw [failed, State.failureReported, if_pos cmd, State.reportFailure_noReading unread]
    exact State.reportMove_failed (by rw [node]; exact bound) origin
  rw [report, State.seqReport_noStep (s := s.told d n (s.node n).failedOnce) noStep,
    State.watchReport_away (s := s.told d n (s.node n).failedOnce) watch state (by rw [node]; exact ready)
      (State.told_left none.1 none.2) (by rw [node]; exact value) above]
  exact (State.unexpectedValue_faulted (s := s.told d n (s.node n).failedOnce) (.inl (by rw [node]; exact ready))
    (by rw [node]; exact bound) (by rcases state with e | e <;> simp [e])).of_cond rfl

end Sys2Proof.Machine
end

section
/-! SETTLES O44. What the replies of the compressor node do at the sequencer. -/
namespace Sys2Proof.Machine

/-- R147, R148: a CHECK's IDENT is a return, and a start-up's by its cause. -/
theorem State.identified.returns {s : State} {d : Time} {n : NodeId} {x : Txn} {st k ver : Byte}
    (h : s.identified d n x st k ver)
    (cause : (s.node n).state = .starting → (s.node n).cause ∈ [some StartCause.revival, some .retry]) :
    isReturn (s.node n).state (s.node n).backCause = true := by
  obtain ⟨_, _, _, _, starting | ⟨fault, _⟩⟩ := h
  · rcases List.mem_pair.1 (cause starting) with e | e <;> simp [NodeRec.backCause, starting, e, isReturn]
  · simp [fault, isReturn]

/-- Settles O44: each reply's outcome is a report to the sequencer, by the node's record and the sequencer's state; a step
completed, an entry to FAULT and a LOCKOUT survive what follows. -/
theorem compressorReplies : Obligations.CompressorReplies := by
  unfold Obligations.CompressorReplies
  refine ⟨?_, ?_, ?_, ?_, ?_, ?_⟩
  · rintro s _ n x st v g d _ h sole named rfl rfl
    refine ⟨_, exec_afterReply h.1.1, fun run ready asked k running => ?_, fun busy still done => ?_,
      fun part state still pending asked disengaging => ?_⟩
    · exact State.afterReply_steady h sole.1 run ready asked running
    · have ends : EndsBusy s d n x st v g := ⟨h, busy, still, done, sole.1⟩
      exact ⟨fun run k target => ends.step run target, fun run fault fromFault => ends.returns run fault fromFault sole named,
        fun watch state _ => ends.watched watch state⟩
    · exact State.afterReply_stopping h sole.1 part state still pending asked disengaging
  · rintro s _ n x st a d h cmd sole named kind ready none rfl
    have unread : x.noReading := fun read => by rw [cmd] at read; simp at read
    refine ⟨_, exec_afterReply h.1, fun run still took fits k target => ?_, fun run still refused fits free => ?_,
      fun part origin busy took fits => ?_, fun part origin busy undone configured fits => ?_⟩
    · exact State.afterReply_there h cmd sole.1 ready none run still took fits target
    · exact State.afterReply_replyFault (State.outcomeOk_refused h cmd ready kind still refused fits) (by simp) unread sole.1 free
    · have out := (State.outcomeOk_movesBusy h cmd ready none busy).1 took fits
      rw [State.reportMove_moving (by rw [State.told_node]; exact sole.1) (by rw [State.told_node]; simp [busyRecord]) origin]
        at out
      rw [State.afterReply_outside out part]
      exact State.told_freed
    · exact State.afterReply_initial h cmd sole.1 ready none part origin busy undone configured fits
  · rintro s _ n x st data d why _ h unread bound part rfl rfl
    obtain ⟨out, notTravel⟩ := State.outcomeOk_faulty h
    exact ⟨_, exec_afterReply h.1, State.afterReply_replyFault out notTravel unread bound,
      fun fault _ => State.afterReply_faultAgain out notTravel unread bound fault part⟩
  · intro s n x st k ver d above h sole named part whether
    refine ⟨_, exec_afterReply h.1.1, fun fault => ?_, fun fault cause => ?_, fun fault starting restart => ?_⟩
    · obtain ⟨ready, version, _⟩ := State.afterReply_back h sole named part fault
      exact ⟨ready, version⟩
    · obtain ⟨_, _, leaves, _⟩ := State.afterReply_back h sole named part fault
      obtain ⟨disengages, locks⟩ := leaves (h.returns cause)
      exact ⟨fun high => disengages (whether.1 high), fun low => locks (mt whether.2 low)⟩
    · obtain ⟨_, _, _, stays⟩ := State.afterReply_back h sole named part fault
      exact stays (by simp [NodeRec.backCause, starting, restart, isReturn])
  · intro s n x st k ver d h bound watch state value
    exact ⟨_, exec_afterReply h.1.1, State.afterReply_watchedBack h bound watch (List.mem_pair.1 state) value⟩
  · intro s c d n x v h cmd origin ready none few bound watch state value above
    obtain ⟨k, e⟩ := exec_secondFails h
    have faulted := State.outcomeFailed_watched (d := d) cmd origin ready none few bound watch (List.mem_pair.1 state) value above
    exact ⟨_, e, faulted.followed⟩

end Sys2Proof.Machine
end
